-- ==== Sys2Proof/Word.lean ====
section
/-! DEFINITION. The plainest data of the model: bytes, the six ink channels, the eight station numbers,
the seven request sources, the tables indexed by them, and sorted lists of numbers used as sets. -/

namespace Sys2Proof

/-- One byte of a link frame. -/
abbrev Byte := BitVec 8

/-! ### Ink channels (00_scope.md, "Channel"; numbered 0–5) -/

/-- The six ink channels of a segment, in the order of their numbers 0–5. -/
inductive Channel where
  | matteBlack | photoBlack | cyan | magenta | yellow | grey
  deriving DecidableEq, Repr

/-- The channel's number, 0–5. -/
def Channel.num : Channel → Nat
  | .matteBlack => 0
  | .photoBlack => 1
  | .cyan => 2
  | .magenta => 3
  | .yellow => 4
  | .grey => 5

/-- All channels, in channel order. -/
def Channel.all : List Channel :=
  [.matteBlack, .photoBlack, .cyan, .magenta, .yellow, .grey]

/-- The channel of a number; a number above 5 names none. -/
def Channel.ofNum : Nat → Option Channel
  | 0 => some .matteBlack
  | 1 => some .photoBlack
  | 2 => some .cyan
  | 3 => some .magenta
  | 4 => some .yellow
  | 5 => some .grey
  | _ => none

/-- One value for each channel. -/
structure PerChannel (α : Type) where
  matteBlack : α
  photoBlack : α
  cyan : α
  magenta : α
  yellow : α
  grey : α
  deriving DecidableEq, Repr

/-- The value of one channel. -/
def PerChannel.get {α : Type} (t : PerChannel α) : Channel → α
  | .matteBlack => t.matteBlack
  | .photoBlack => t.photoBlack
  | .cyan => t.cyan
  | .magenta => t.magenta
  | .yellow => t.yellow
  | .grey => t.grey

/-- The table with one channel's value replaced. -/
def PerChannel.set {α : Type} (t : PerChannel α) (c : Channel) (a : α) : PerChannel α :=
  match c with
  | .matteBlack => { t with matteBlack := a }
  | .photoBlack => { t with photoBlack := a }
  | .cyan => { t with cyan := a }
  | .magenta => { t with magenta := a }
  | .yellow => { t with yellow := a }
  | .grey => { t with grey := a }

/-- The table whose value at each channel is given by `f`. -/
def PerChannel.gen {α : Type} (f : Channel → α) : PerChannel α :=
  { matteBlack := f .matteBlack, photoBlack := f .photoBlack, cyan := f .cyan,
    magenta := f .magenta, yellow := f .yellow, grey := f .grey }

/-- The same value in every channel. -/
def PerChannel.fill {α : Type} (a : α) : PerChannel α := PerChannel.gen fun _ => a

/-- A set of channels (a mask in which bit n stands for channel n, R210). -/
abbrev ChannelSet := PerChannel Bool

/-- Whether some channel is in the set. -/
def PerChannel.anySet (t : ChannelSet) : Bool := Channel.all.any fun c => t.get c

/-! ### Stations (00_scope.md; numbers 0–7) -/

/-- A station number, 0–7. -/
abbrev StationNo := Fin 8

/-- All station numbers, in rising order. -/
def allStations : List StationNo := [0, 1, 2, 3, 4, 5, 6, 7]

/-- One value for each station number. -/
structure PerStation (α : Type) where
  s0 : α
  s1 : α
  s2 : α
  s3 : α
  s4 : α
  s5 : α
  s6 : α
  s7 : α
  deriving DecidableEq, Repr

/-- The value of one station number. -/
def PerStation.get {α : Type} (t : PerStation α) (n : StationNo) : α :=
  match n.val with
  | 0 => t.s0
  | 1 => t.s1
  | 2 => t.s2
  | 3 => t.s3
  | 4 => t.s4
  | 5 => t.s5
  | 6 => t.s6
  | _ => t.s7

/-- The table whose value at each station number is given by `f`. -/
def PerStation.gen {α : Type} (f : StationNo → α) : PerStation α :=
  { s0 := f 0, s1 := f 1, s2 := f 2, s3 := f 3, s4 := f 4, s5 := f 5, s6 := f 6, s7 := f 7 }

/-- The same value at every station number. -/
def PerStation.fill {α : Type} (a : α) : PerStation α := PerStation.gen fun _ => a

/-- The table with one station's value replaced. -/
def PerStation.set {α : Type} (t : PerStation α) (n : StationNo) (a : α) : PerStation α :=
  PerStation.gen fun m => if m = n then a else t.get m

/-- A set of stations (a mask in which bit n stands for station n, R210). -/
abbrev StationSet := PerStation Bool

/-- Whether some station is in the set. -/
def PerStation.anySet (t : StationSet) : Bool := allStations.any fun n => t.get n

/-! ### Request sources (R102) -/

/-- The seven request sources of the service arbiter, in the source order of R102. -/
inductive Source where
  | order | uncapNeed | keepWet | sheetSpit | recovery | forcedCheck | capIdle
  deriving DecidableEq, Repr

/-- All sources, in source order. -/
def Source.all : List Source :=
  [.order, .uncapNeed, .keepWet, .sheetSpit, .recovery, .forcedCheck, .capIdle]

/-- One value for each request source. -/
structure PerSource (α : Type) where
  order : α
  uncapNeed : α
  keepWet : α
  sheetSpit : α
  recovery : α
  forcedCheck : α
  capIdle : α
  deriving DecidableEq, Repr

/-- The value of one source. -/
def PerSource.get {α : Type} (t : PerSource α) : Source → α
  | .order => t.order
  | .uncapNeed => t.uncapNeed
  | .keepWet => t.keepWet
  | .sheetSpit => t.sheetSpit
  | .recovery => t.recovery
  | .forcedCheck => t.forcedCheck
  | .capIdle => t.capIdle

/-- The table with one source's value replaced. -/
def PerSource.set {α : Type} (t : PerSource α) (c : Source) (a : α) : PerSource α :=
  match c with
  | .order => { t with order := a }
  | .uncapNeed => { t with uncapNeed := a }
  | .keepWet => { t with keepWet := a }
  | .sheetSpit => { t with sheetSpit := a }
  | .recovery => { t with recovery := a }
  | .forcedCheck => { t with forcedCheck := a }
  | .capIdle => { t with capIdle := a }

/-- The table whose value at each source is given by `f`. -/
def PerSource.gen {α : Type} (f : Source → α) : PerSource α :=
  { order := f .order, uncapNeed := f .uncapNeed, keepWet := f .keepWet, sheetSpit := f .sheetSpit,
    recovery := f .recovery, forcedCheck := f .forcedCheck, capIdle := f .capIdle }

/-- The same value at every source. -/
def PerSource.fill {α : Type} (a : α) : PerSource α := PerSource.gen fun _ => a

/-! ### Sets of numbers as strictly rising lists -/

/-- The rising list with `x` in its place; a number already listed stays there once. -/
def insertNum (x : Nat) : List Nat → List Nat
  | [] => [x]
  | y :: ys => if x < y then x :: y :: ys else if x = y then y :: ys else y :: insertNum x ys

/-- The numbers of any list as a strictly rising list, each once. -/
def sortNums (l : List Nat) : List Nat := l.foldl (fun acc x => insertNum x acc) []

/-- The value `x` brought into `lo`–`hi` by the nearer end of the range. -/
def clampTo (lo hi x : Nat) : Nat := if x < lo then lo else if hi < x then hi else x

end Sys2Proof
end

