-- ==== Sys2Proof/Config.lean ====
section
/-! DEFINITION. What the part fixes (its sizes and limits, 00_scope.md) and the shape of what the plot
controller configures: the four configuration sections (R192, R193), the metering settings (R155), and
the content each held section has after power-on (R188). No value of the spec is left open in such a
way that a constant without a body is needed: see notes/assumptions/26.md. -/

namespace Sys2Proof

namespace Config

/-- The end of the feed count (R63, R64). -/
def maxPosition : Nat := 16777215
/-- The largest drop count a record holds (R5, R45). -/
def maxDrops : Nat := 3145728
/-- Units of 0.01 pL in one nL (R9). -/
def unitsPerNl : Nat := 100000
/-- The end of a nL tally (R153). -/
def maxTally : Nat := 4294967295
/-- The upper end of the adjusted tally (R153). -/
def maxAdjusted : Int := 2147483647
/-- The lower end of the adjusted tally (R153). -/
def minAdjusted : Int := -2147483648
/-- The end of the band count (R153). -/
def maxBandCount : Nat := 65535
/-- Records the band queue holds (R42). -/
def queueSize : Nat := 16
/-- Ticks a raw mark reading must last (R3). -/
def debounceTicks : Nat := 20
/-- Entries the failed nozzle list holds (R130). -/
def failedListSize : Nat := 64
/-- Ticks of time waited that raise the class (R25). -/
def waitingLimit : Nat := 2000
/-- Length of a flow window in ticks (R32). -/
def flowWindowTicks : Nat := 100
/-- Length of a leak window in ticks (R35). -/
def leakWindowTicks : Nat := 1000
/-- Length of an error window in ticks (R173). -/
def errorWindowTicks : Nat := 1000
/-- Spit blocks (R115). -/
def spitBlocks : Nat := 48
/-- Nozzles of one row of a channel (R129). -/
def rowNozzles : Nat := 3072
/-- Groups of one channel (R91). -/
def groupsPerChannel : Nat := 96
/-- Nozzles of one group (R129). -/
def groupNozzles : Nat := 64

end Config

/-- The metering settings of one channel (R155). -/
structure Settings where
  v0 : Nat
  v1 : Nat
  v2 : Nat
  v3 : Nat
  spitDrops : Nat
  lightPurge : Nat
  heavyPurge : Nat
  refillMark : Nat
  reserve : Nat
  deriving DecidableEq, Repr

/-- Section 0, one channel: capacity, mark levels, tolerance and pulse credit (R192). -/
structure Reservoir where
  capacity : Nat
  lowLevel : Nat
  fullLevel : Nat
  tolerance : Nat
  credit : Nat
  deriving DecidableEq, Repr

/-- Configuration section 0 (R192). -/
structure Section0 where
  enabled : ChannelSet
  reservoir : PerChannel Reservoir
  deriving DecidableEq, Repr

/-- Configuration section 1 (R192). -/
structure Section1 where
  budget : PerChannel Nat
  starveThreshold : Nat
  leakLimit : Nat
  statusPeriod : Nat
  controllerTimeout : Nat
  errorLimit : Nat
  deriving DecidableEq, Repr

/-- Configuration section 2 (R193). -/
structure Section2 where
  sensorDistance : Nat
  stopMargin : Nat
  skewLimit : Nat
  slipLimit : Nat
  vacuumTail : Nat
  highMark : Nat
  lowMark : Nat
  deriving DecidableEq, Repr

/-- The six action time limits (R91, R193). -/
structure TimeLimits where
  move : Nat
  spit : Nat
  wipe : Nat
  check : Nat
  lightPurge : Nat
  heavyPurge : Nat
  deriving DecidableEq, Repr

/-- The fields of configuration section 3 that its first frame carries (R193, R211). -/
structure Section3First where
  keepWetInterval : Nat
  capIdleTime : Nat
  levels : PerSource Nat
  limits : TimeLimits
  autoRecovery : Bool
  leadingClose : Bool
  leadingPeek : Bool
  trailingClose : Bool
  trailingPeek : Bool
  deriving DecidableEq, Repr

/-- Configuration section 3 whole: the first part and the initial pending settings (R193). -/
structure Section3 where
  first : Section3First
  initial : PerChannel Settings
  deriving DecidableEq, Repr

/-- The four sections together. -/
structure Sections where
  sec0 : Section0
  sec1 : Section1
  sec2 : Section2
  sec3 : Section3
  deriving DecidableEq, Repr

/-- A channel's settings at power-on: every setting 0 (R155). -/
def Settings.zero : Settings :=
  { v0 := 0, v1 := 0, v2 := 0, v3 := 0, spitDrops := 0, lightPurge := 0, heavyPurge := 0,
    refillMark := 0, reserve := 0 }

/-- The lowest value of each setting's range (R155), the power-on content of section 3's initial
settings (R188). -/
def Settings.lowest : Settings :=
  { v0 := 100, v1 := 100, v2 := 100, v3 := 100, spitDrops := 1, lightPurge := 10000,
    heavyPurge := 50000, refillMark := 0, reserve := 0 }

/-- The default source levels of R102. -/
def defaultLevels : PerSource Nat :=
  { order := 2, uncapNeed := 1, keepWet := 3, sheetSpit := 3, recovery := 4, forcedCheck := 4,
    capIdle := 6 }

/-- What the held sections contain after power-on and the RESET pin: the default of R192 and R193
where one is given, otherwise the lowest value of the field's range (R188). A set's lowest is the
empty set, a yes/no field's is no and an on/off field's is off (notes/assumptions/25.md). -/
def Sections.powerOn : Sections :=
  { sec0 :=
      { enabled := PerChannel.fill false
        reservoir := PerChannel.fill
          { capacity := 1000000, lowLevel := 0, fullLevel := 0, tolerance := 0, credit := 100 } }
    sec1 :=
      { budget := PerChannel.fill 1, starveThreshold := 1, leakLimit := 1, statusPeriod := 10,
        controllerTimeout := 100, errorLimit := 1 }
    sec2 :=
      { sensorDistance := 1, stopMargin := 0, skewLimit := 0, slipLimit := 1, vacuumTail := 0,
        highMark := 3, lowMark := 8 }
    sec3 :=
      { first :=
          { keepWetInterval := 200, capIdleTime := 1000, levels := defaultLevels,
            limits := { move := 100, spit := 100, wipe := 100, check := 100, lightPurge := 100,
                        heavyPurge := 100 },
            autoRecovery := false, leadingClose := false, leadingPeek := false,
            trailingClose := false, trailingPeek := false }
        initial := PerChannel.fill Settings.lowest } }

end Sys2Proof
end

