-- ==== Sys2Proof/Syntax.lean ====
section
/-! DEFINITION. The commands: one constructor of `Instr` for each row of spec/opcode_table.json, with the
operands its order frame, sensor report or timer event carries, and the enumerated values of 12.4. -/

namespace Sys2Proof

/-- Station mode (R188). -/
inductive Mode where
  | config | run | halted
  deriving DecidableEq, Repr

/-- Sheet phase (R63). -/
inductive Phase where
  | none | pending | active | trailing | ended
  deriving DecidableEq, Repr

/-- Refill state of a channel (R23). -/
inductive RefillState where
  | idle | want | opened | backoff | held | starved | locked
  deriving DecidableEq, Repr

/-- Which of a channel's two level marks (R1). -/
inductive MarkName where
  | low | full
  deriving DecidableEq, Repr

/-- The guard line: a print line, or OPEN (R53). -/
inductive GuardLine where
  | line (n : Nat)
  | allClear
  deriving DecidableEq, Repr

/-- The places at which the sled has a position switch (R92). -/
inductive SledPlace where
  | park | cap | spit | detect
  deriving DecidableEq, Repr

/-- A drop count with its volume class, as a BAND order gives it for one channel (R42). -/
structure Drops where
  count : Nat
  volumeClass : Fin 4
  deriving DecidableEq, Repr

/-- What a STATUS shows of one refill channel (R40). -/
structure ChannelView where
  state : RefillState
  effective : Nat
  starved : Bool
  deriving DecidableEq, Repr

/-- The fields of a heard STATUS that its readers use (R180). -/
structure PeerStatus where
  mode : Mode
  sheet : Option Nat
  guard : GuardLine
  capture : Option Nat
  channels : PerChannel ChannelView
  deriving DecidableEq, Repr

/-- One command of the part: a row of spec/opcode_table.json. -/
inductive Instr where
  /-- The end of power-on or the release of the RESET pin (R198), with the strap pins as they read
  (R189) and the position switch that reads closed, if one does. -/
  | powerOn (straps : StationNo) (closed : Option SledPlace)
  /-- The RESET pin asserted (R198). -/
  | resetPinAsserted
  /-- FEED (R68): move id, distance, speed class, eject flag. -/
  | feed (moveId distance speed : Nat) (eject : Bool)
  /-- SHEET (R65, R66). -/
  | sheet (ref sheetId : Nat) (active : StationSet) (printLength : Nat) (spitAllowed degraded : Bool)
      (leadLimit : Nat)
  /-- ABORT SHEET (R87). -/
  | abortSheet (sheetId : Nat)
  /-- BAND (R44). -/
  | band (ref tag sheetId start length issue : Nat) (drops : PerChannel Drops)
  /-- SERVICE naming CAP (R111). -/
  | serviceCap (ref : Nat)
  /-- SERVICE naming UNCAP (R111). -/
  | serviceUncap (ref : Nat)
  /-- SERVICE naming WIPE (R111). -/
  | serviceWipe (ref : Nat)
  /-- SERVICE naming GAP SPIT (R111). -/
  | serviceGapSpit (ref : Nat)
  /-- SERVICE naming CHECK with its group list (R111). -/
  | serviceCheck (ref : Nat) (groups : List Nat)
  /-- SERVICE naming PURGE LIGHT with its channel set (R111). -/
  | servicePurgeLight (ref : Nat) (channels : ChannelSet)
  /-- SERVICE naming PURGE HEAVY with its channel set (R111). -/
  | servicePurgeHeavy (ref : Nat) (channels : ChannelSet)
  /-- SERVICE with SET MASK (R103, R111). -/
  | setMask (ref level : Nat)
  /-- SETTINGS (R156). -/
  | settings (ref : Nat) (values : PerChannel Settings)
  /-- TALLY naming CLOSE (R159, R160, R161). -/
  | tallyClose (ref : Nat)
  /-- TALLY naming PEEK (R159, R162). -/
  | tallyPeek (ref : Nat)
  /-- CLEAR naming the faults alone (R206, R207). -/
  | clearFaults (ref : Nat)
  /-- CLEAR naming ladders alone (R206, R149). -/
  | clearLadder (ref : Nat) (channels : ChannelSet)
  /-- CLEAR naming line-starved marks alone (R206, R38). -/
  | clearLineStarved (ref : Nat) (channels : ChannelSet)
  /-- CONFIG for section 0 (R191). -/
  | configSection0 (ref : Nat) (content : Section0)
  /-- CONFIG for section 1 (R191). -/
  | configSection1 (ref : Nat) (content : Section1)
  /-- CONFIG for section 2 (R191). -/
  | configSection2 (ref : Nat) (content : Section2)
  /-- CONFIG frame with section byte 3 (R211). -/
  | configSection3FirstPart (ref : Nat) (content : Section3First)
  /-- CONFIG frame with section byte 4 (R211). -/
  | configSection3SecondPart (ref : Nat) (initial : PerChannel Settings)
  /-- START (R195, R196). -/
  | start (ref : Nat)
  /-- RESTART (R197), with the strap pins as they read at the order (R189). -/
  | restart (ref : Nat) (straps : StationNo)
  /-- A STATUS heard from a station number (R180). -/
  | peerStatusHeard (source : StationNo) (status : PeerStatus)
  /-- A BEACON heard (R182): STOPPING or RUNNING, and the sheet id it carries. -/
  | beaconHeard (stopping : Bool) (sheetId : Option Nat)
  /-- A received frame that fails a check of R171. -/
  | frameDiscarded
  /-- A heard frame with this station's own source number (R174). -/
  | duplicateStationHeard
  /-- A heard frame that R172 does not take. -/
  | frameIgnored
  /-- The line is idle and a slot is unsent: a frame begins (R176). -/
  | frameBegin
  /-- Arbitration lost in the header (R170). -/
  | arbitrationLost
  /-- A bit other than the one sent, after the header (R170). -/
  | transmitMismatch
  /-- An own frame sent to its end (R177). -/
  | frameSent
  /-- The period count reaches the status period (R179). -/
  | statusPeriodExpiry
  /-- The spacing count reaches 2 ms (R179). -/
  | spacingCountExpiry
  /-- The entries that one tick brings to their LOST age (R181, R202). -/
  | peerEntryLost (stations : StationSet)
  /-- The controller entry reaches the controller timeout (R182). -/
  | controllerTimeout
  /-- The error window ends (R173). -/
  | errorWindowEnd
  /-- A level mark's raw reading has differed for 20 ticks and now stands as the debounced state (R3). -/
  | markChange (channel : Channel) (mark : MarkName) (wet : Bool)
  /-- A SETTLING mark's raw reading has held for 20 ticks (R3). -/
  | markSettled (channel : Channel) (mark : MarkName) (wet : Bool)
  /-- A flow meter pulse (R14, R15, R32, R35). -/
  | flowPulse (channel : Channel)
  /-- A 100 ms flow window ends (R32). -/
  | flowWindowEnd (channel : Channel)
  /-- A back-off time reaches 0 (R30). -/
  | backoffEnd (channel : Channel)
  /-- A leak window ends (R35). -/
  | leakWindowEnd (channel : Channel)
  /-- Time waited reaches 2000 ms (R25). -/
  | waitingLimitReached (channel : Channel)
  /-- A step spacing of a RUNNING move has passed (R69). -/
  | stepDue
  /-- A forward encoder count (R64). -/
  | encoderCount
  /-- The edge sensor changes from clear to covered (R78). -/
  | leadingEdge
  /-- The edge sensor changes from covered to clear (R79). -/
  | trailingEdge
  /-- The skew window ends (R83). -/
  | skewWindowEnd
  /-- FHOLD reads asserted (R77). -/
  | fholdAsserted
  /-- FHOLD reads released (R77). -/
  | fholdReleased
  /-- A position switch reports (R92). -/
  | sledArrival (place : SledPlace)
  /-- A RESULT of the head driver (R94): request number, group, nozzles not seen. -/
  | headResult (number group : Nat) (missed : List Nat)
  /-- A DONE of the head driver (R94). -/
  | headDone (number : Nat)
  /-- An action's time left reaches 0 (R100). -/
  | actionTimeout
  /-- The cap idle count reaches the cap idle time (R110). -/
  | capIdleExpiry
  /-- A counted tick finds the spit interval counter at 1 (R116, R117). -/
  | keepWetExpiry
  /-- The sled leaves the position it stands at (R92). -/
  | sledDeparture
  /-- A CLEAR order naming any of its three parts (R206). -/
  | clearOrder (ref : Nat) (faults : Bool) (ladders starved : ChannelSet)
  /-- A TALLY order naming neither CLOSE nor PEEK (R159). -/
  | tallyUnknownOperation (ref operation : Nat)
  /-- A SERVICE order whose request code or length does not fit (R210). -/
  | serviceUnknownRequest (ref : Nat)
  /-- A CONFIG order whose section byte or length does not fit (R210). -/
  | configUnknownSection (ref : Nat)
  deriving DecidableEq, Repr

end Sys2Proof
end

