-- ==== Sys2Proof/Decode.lean ====
section
/-! DEFINITION. The command that a table word spells. No row of spec/opcode_table.json gives bits: a command
is a frame, a sensor report or a timer event, not a word. Frames are read in Machine/Receive.lean. -/

namespace Sys2Proof

/-- The command that a word of the table's bits spells: none, since no row has bits
(notes/assumptions/29.md). -/
def decodeTableWord (_nbits _w : Nat) : Option Instr := none

end Sys2Proof
end

