-- ==== Sys2Proof/Machine/State.lean ====
section
/-! DEFINITION. The station's state as plain data, block by block in the order of the spec's chapters,
the closed fault and refusal types, and the state after reset (R198 and the reset rule of each block). -/

namespace Sys2Proof.Machine

/-! ### Ink metering (R1) -/

/-- Debounced state of a level mark (R1). -/
inductive MarkState where
  | settling | dry | wet
  deriving DecidableEq, Repr

/-- One level mark: its debounced state, the raw line, the reading of the latest sample, and the count
of consecutive samples that differ (or, while SETTLING, agree) (R1, R3). -/
structure Mark where
  state : MarkState
  raw : Bool
  sample : Bool
  count : Nat
  deriving DecidableEq, Repr

/-- Whether a channel's estimate has been anchored (R1). -/
inductive EstimateState where
  | unknown | known
  deriving DecidableEq, Repr

/-- Ink metering's state of one channel (R1). -/
structure InkChannel where
  estimate : Nat
  residue : Nat
  state : EstimateState
  low : Mark
  full : Mark
  deriving DecidableEq, Repr

/-! ### Refill control (R23) -/

/-- The 100 ms flow window in progress (R23, R32). -/
structure FlowWindow where
  elapsed : Nat
  pulses : Nat
  deriving DecidableEq, Repr

/-- Refill control's state of one channel (R23). -/
structure RefillChannel where
  state : RefillState
  deficit : Nat
  effective : Nat
  waited : Nat
  backoff : Option Nat
  window : Option FlowWindow
  samples : List Nat
  average : Nat
  leakCount : Nat
  leakWindow : Option Nat
  starvedMark : Bool
  lockedMark : Bool
  deriving DecidableEq, Repr

/-! ### Band queue (R42) -/

/-- State of a band record (R42). -/
inductive BandState where
  | announced | covered | printing | stale
  deriving DecidableEq, Repr

/-- A band record (R42). -/
structure BandRecord where
  tag : Nat
  sheet : Nat
  start : Nat
  length : Nat
  issue : Nat
  drops : PerChannel Drops
  volume : PerChannel Nat
  state : BandState
  deriving DecidableEq, Repr

/-- The band queue: its records in queue order, the sheet reference, the last retired end and the guard
line (R42). -/
structure BandQueue where
  records : List BandRecord
  sheetRef : Option Nat
  lastRetired : Nat
  guard : GuardLine
  deriving DecidableEq, Repr

/-! ### Feed control (R63) -/

/-- The sheet record (R63). -/
structure SheetRecord where
  sheet : Nat
  active : StationSet
  printLength : Nat
  spitAllowed : Bool
  degraded : Bool
  leadLimit : Nat
  deriving DecidableEq, Repr

/-- Move state (R63). -/
inductive MoveState where
  | idle | running | held | done
  deriving DecidableEq, Repr

/-- The current move (R63). -/
structure Move where
  id : Nat
  distance : Nat
  speed : Nat
  eject : Bool
  stepsDone : Nat
  state : MoveState
  deriving DecidableEq, Repr

/-- Feed control's state (R63). The last five fields are implied by the rules named beside them. -/
structure Feed where
  sheet : Option SheetRecord
  phase : Phase
  position : Nat
  commanded : Nat
  capture : Option Nat
  stepsAtCapture : Option Nat
  trailing : Option Nat
  skew : Option Int
  skewWindow : Option Nat
  trim : Int
  move : Option Move
  fedPending : Nat
  fholdDrive : Bool
  vacuum : Bool
  underSegment : Bool
  /-- Whether FHOLD was last reported asserted (R77). -/
  fholdLine : Bool
  /-- An extra step of a positive trim is still to be issued (R70). -/
  extraOwed : Bool
  /-- The move began with the station not ready, which has not become ready since (R76 condition 4). -/
  readinessHold : Bool
  /-- EDGE LATE has been raised for this sheet (R80). -/
  edgeLateRaised : Bool
  /-- SLIP has been raised for this sheet (R85). -/
  slipRaised : Bool
  deriving DecidableEq, Repr

/-! ### Service arbiter (R91) -/

/-- Sled position (R91): standing at a switch, MOVING or UNKNOWN. -/
inductive SledPosition where
  | standing (p : SledPlace)
  | moving
  | unknown
  deriving DecidableEq, Repr

/-- A service action with the content that its sequence gives it (R91, R96). -/
inductive Action where
  | home
  | uncap
  | cap
  | gapSpit
  | sheetSpit
  | wipe
  | check (groups : List Nat)
  | purge (heavy : Bool) (channels : ChannelSet)
  deriving DecidableEq, Repr

/-- How far an action has come on its route (R96). -/
inductive Stage where
  | outbound | atHead | inbound
  deriving DecidableEq, Repr

/-- The current action with the parameters fixed at its start (R95): for a spit its block and the drops per
nozzle of each channel, for a spit or a purge its volumes; and the RESULTs taken (R94). -/
structure CurrentAction where
  action : Action
  stage : Stage
  block : Nat
  drops : PerChannel Nat
  volumes : PerChannel Nat
  results : List (Nat × List Nat)
  deriving DecidableEq, Repr

/-- A request made of the head driver (R94). -/
inductive HeadKind where
  | fire (block : Nat) (channels : ChannelSet) (drops : PerChannel Nat)
  | check (groups : List Nat)
  | purge (heavy : Bool) (channels : ChannelSet)
  deriving DecidableEq, Repr

/-- The request outstanding on the head port (R91, R94). -/
structure HeadRequest where
  number : Nat
  kind : HeadKind
  deriving DecidableEq, Repr

/-- A sequence on the in-service stack (R91): its source, its level, its remaining actions, the action in
progress among them, and for a RECOVERY the channel it serves (R146). -/
structure Sequence where
  source : Source
  level : Nat
  actions : List Action
  channel : Option Channel
  deriving DecidableEq, Repr

/-- The service arbiter's state (R91). The head of `stack` is its top. `motion` is the commanded target
(SLD1, SLD0, SLDRUN), `wiper` the WIPER output, `closed` the position switch that reads closed, taken or not
(R92; notes/assumptions/40.md). -/
structure Service where
  sled : SledPosition
  motion : Option SledPlace
  wiper : Bool
  closed : Option SledPlace
  capped : Bool
  current : Option CurrentAction
  timeLeft : Option Nat
  head : Option HeadRequest
  requestNumber : Nat
  pending : PerSource Bool
  order : Option Action
  mask : Nat
  stack : List Sequence
  stopped : Bool
  capIdle : Nat
  deriving DecidableEq, Repr

/-! ### Keep-wet unit (R115) -/

/-- The keep-wet unit's state (R115); an absent counter is stopped. -/
structure KeepWet where
  counter : Option Nat
  cappedTicks : Nat
  pointer : Nat
  missed : Nat
  dry : List Nat
  forced : Bool
  underCheck : Option (List Nat)
  deriving DecidableEq, Repr

/-! ### Nozzle health (R129, R130) -/

/-- Group state (R129). -/
inductive GroupState where
  | healthy | weak | uncovered
  deriving DecidableEq, Repr

/-- Nozzle health's state of one group (R129). -/
structure Group where
  ring : List Nat
  suspects : List Nat
  bands : Nat
  bandsOver : Bool
  span : Nat
  spanOver : Bool
  state : GroupState
  deriving DecidableEq, Repr

/-- An entry of the failed nozzle list (R130). -/
structure FailedNozzle where
  channel : Channel
  nozzle : Nat
  deriving DecidableEq, Repr

/-- The content of a NOZZLE NOTICE (R138). -/
structure Notice where
  issue : Nat
  group : Nat
  added : List Nat
  removed : List Nat
  span : Nat
  spanOver : Bool
  deriving DecidableEq, Repr

/-- The recovery ladder of one channel (R130). -/
structure Ladder where
  level : Nat
  exhausted : Bool
  affected : List Nat
  inService : Bool
  deriving DecidableEq, Repr

/-- Nozzle health's state (R129, R130): the 96 groups of each channel, the failed list, and the rest. -/
structure Nozzle where
  groups : PerChannel (List Group)
  failed : List FailedNozzle
  issue : Nat
  notices : List Notice
  armed : Bool
  blocked : Bool
  ladders : PerChannel Ladder
  deriving DecidableEq, Repr

/-! ### Tally unit (R153, R155, R157) -/

/-- The tallies of one channel (R153). -/
structure TallyChannel where
  printed : Nat
  spit : Nat
  purge : Nat
  refilled : Nat
  adjusted : Int
  bands : Nat
  estimateOpen : Nat
  overflow : Bool
  deriving DecidableEq, Repr

/-- One copy of the metering settings with its issue number (R155). -/
structure SettingsCopy where
  issue : Nat
  values : PerChannel Settings
  deriving DecidableEq, Repr

/-- One channel of a report (R157). -/
structure ReportChannel where
  tally : TallyChannel
  estimate : Nat
  residue : Nat
  settings : Settings
  deriving DecidableEq, Repr

/-- A tally report (R157). -/
structure Report where
  peek : Bool
  limited : Bool
  leadingSeen : Bool
  trailingSeen : Bool
  issue : Nat
  startInPeriod : Bool
  missed : Nat
  channels : PerChannel ReportChannel
  deriving DecidableEq, Repr

/-- The tally unit's state (R153, R155, R158, R163, R166). -/
structure Tally where
  channels : PerChannel TallyChannel
  pendingCopy : PerChannel Settings
  inForce : SettingsCopy
  prior : SettingsCopy
  leadingSeen : Bool
  trailingSeen : Bool
  startInPeriod : Bool
  outstanding : Bool
  deriving DecidableEq, Repr

/-! ### Link interface (R173 to R187) -/

/-- Presence of a peer table entry (R180, R182). -/
inductive Presence where
  | absent | present | lost
  deriving DecidableEq, Repr

/-- A station entry of the peer table (R180); its fields are absent until heard. -/
structure PeerEntry where
  presence : Presence
  age : Nat
  fields : Option PeerStatus
  deriving DecidableEq, Repr

/-- The controller entry (R182). -/
structure ControllerEntry where
  presence : Presence
  age : Nat
  deriving DecidableEq, Repr

/-- The running error window (R173): time left, the counter when it started, and whether LINK ERRORS has
been raised in it. -/
structure ErrorWindow where
  left : Nat
  base : Nat
  raised : Bool
  deriving DecidableEq, Repr

/-- The order kinds that an outcome names, by the frame kinds of 12.4 (R184). -/
inductive OrderKind where
  | feed | abortSheet | sheet | band | service | settings | tally | clear | config | start | restart
  deriving DecidableEq, Repr

/-- Outcome codes (R184). -/
inductive OutcomeCode where
  | accepted | acceptedClamped | refusedMode | refusedBusy | refusedRange | refusedFull
  | refusedDuplicate | refusedSequence
  deriving DecidableEq, Repr

/-- The last-order outcome (R184). -/
structure OrderOutcome where
  kind : OrderKind
  ref : Nat
  code : OutcomeCode
  deriving DecidableEq, Repr

/-- The content of the TALLY REPORT slot: the report and how many of its three parts have gone (R158). -/
structure ReportSlot where
  report : Report
  partsSent : Nat
  deriving DecidableEq, Repr

/-- The four send slots (R175). -/
inductive Slot where
  | faultNotice | nozzleNotice | tallyReport | status
  deriving DecidableEq, Repr

/-- The frame this station has on the line: its slot, its bytes as fixed when it began (R176), whether
the slot's content was replaced since (R175), the ticks since it began, and for a STATUS the early mark
that its beginning cleared (R179). -/
structure TxFrame where
  slot : Slot
  bytes : List Byte
  replaced : Bool
  age : Nat
  earlyBefore : Bool
  deriving DecidableEq, Repr

/-- The link interface's state (R173, R175, R179, R180, R182, R184). -/
structure Link where
  errors : Nat
  errorWindow : Option ErrorWindow
  faultSlot : Bool
  nozzleSlot : Option Notice
  reportSlot : Option ReportSlot
  statusDue : Bool
  periodCount : Nat
  spacingCount : Nat
  early : Bool
  peers : PerStation PeerEntry
  controller : ControllerEntry
  outcome : Option OrderOutcome
  tx : Option TxFrame
  deriving DecidableEq, Repr

/-! ### Mode control (R188, R211) -/

/-- The first-part store of section 3 (R211). -/
structure FirstPart where
  ref : Nat
  content : Section3First
  deriving DecidableEq, Repr

/-- Mode control's state (R188, R211), the configuration in force at the reading blocks, whether any
START has been taken since power-on (R194), and whether the RESET pin is asserted (R198). -/
structure ModeControl where
  mode : Mode
  station : StationNo
  held : Sections
  received0 : Bool
  received1 : Bool
  received2 : Bool
  received3 : Bool
  firstPart : Option FirstPart
  inForce : Sections
  started : Bool
  resetPin : Bool
  deriving DecidableEq, Repr

/-! ### Fault unit (R200) -/

/-- The sixteen faults of 11.1, in code order. -/
inductive FaultCode where
  | duplicateStation | serviceTimeout | slip | edgeLate | skew | peerLost | controllerSilent
  | valveLeak | lineStarved | overfill | underrun | driftExcess | nozzleListFull | columnUncovered
  | tallyOverflow | linkErrors
  deriving DecidableEq, Repr

/-- A fault's detail (R200). -/
inductive Detail where
  | none
  | channel (c : Channel)
  | group (g : Nat)
  | station (n : StationNo)
  deriving DecidableEq, Repr

/-- A raise: a code with its detail (R201). -/
structure Raise where
  code : FaultCode
  detail : Detail
  deriving DecidableEq, Repr

/-- The first-fault record (R200, R203). -/
structure FirstFault where
  raise : Raise
  sheet : Option Nat
  tag : Option Nat
  position : Nat
  deriving DecidableEq, Repr

/-- The fault unit's state (R200); `active` lists the active codes in code order, each once. -/
structure FaultUnit where
  active : List FaultCode
  record : Option FirstFault
  count : Nat
  notice : Option Raise
  deriving DecidableEq, Repr

/-! ### The whole station -/

/-- The state of the station, block by block, and the queue of waiting commands, first in, first out. -/
structure State where
  ink : PerChannel InkChannel
  refill : PerChannel RefillChannel
  bands : BandQueue
  feed : Feed
  service : Service
  keepWet : KeepWet
  nozzle : Nozzle
  tally : Tally
  link : Link
  mode : ModeControl
  faults : FaultUnit
  pending : List Instr
  deriving DecidableEq, Repr

/-- Why a step stops with a fault. The spec gives every command an effect in every state (a refused
order, an event that is not taken, or its full effect), so there is no reason of this kind and no
constructor: safe. -/
inductive Fault where
  deriving DecidableEq, Repr

/-- Why a step gives no meaning. -/
inductive Refusal where
  /-- Raised by `exec` alone for a command that has no meaning yet; no arm raises it. Safe: the machine
  stops. -/
  | notModelled (mnemonic : String)
  deriving DecidableEq, Repr

/-! ### Power-on values -/

/-- A level mark after power-on (R3, R22): SETTLING. The raw line reads dry until reported otherwise
(DESIGN CHOICE, notes/assumptions/5.md). -/
def Mark.reset : Mark := { state := .settling, raw := false, sample := false, count := 0 }

/-- R22. -/
def InkChannel.reset : InkChannel :=
  { estimate := 0, residue := 0, state := .unknown, low := Mark.reset, full := Mark.reset }

/-- R41. -/
def RefillChannel.reset : RefillChannel :=
  { state := .held, deficit := 0, effective := 0, waited := 0, backoff := none, window := none,
    samples := [], average := 0, leakCount := 0, leakWindow := none, starvedMark := false,
    lockedMark := false }

/-- R59. -/
def BandQueue.reset : BandQueue :=
  { records := [], sheetRef := none, lastRetired := 0, guard := .line 0 }

/-- R89. -/
def Feed.reset : Feed :=
  { sheet := none, phase := .none, position := 0, commanded := 0, capture := none,
    stepsAtCapture := none, trailing := none, skew := none, skewWindow := none, trim := 0,
    move := none, fedPending := 0, fholdDrive := true, vacuum := false, underSegment := false,
    fholdLine := false, extraOwed := false, readinessHold := false, edgeLateRaised := false,
    slipRaised := false }

/-- R113. -/
def Service.reset : Service :=
  { sled := .unknown, motion := none, wiper := false, closed := none, capped := true,
    current := none, timeLeft := none, head := none, requestNumber := 0,
    pending := PerSource.fill false, order := none, mask := 7, stack := [], stopped := false,
    capIdle := 0 }

/-- R127. -/
def KeepWet.reset : KeepWet :=
  { counter := none, cappedTicks := 0, pointer := 0, missed := 0, dry := [], forced := false,
    underCheck := none }

/-- R151, one group. -/
def Group.reset : Group :=
  { ring := [], suspects := [], bands := 0, bandsOver := false, span := 0, spanOver := false,
    state := .healthy }

/-- R151, one ladder. -/
def Ladder.reset : Ladder := { level := 0, exhausted := false, affected := [], inService := false }

/-- R151. -/
def Nozzle.reset : Nozzle :=
  { groups := PerChannel.fill (List.replicate Config.groupsPerChannel Group.reset), failed := [],
    issue := 0, notices := [], armed := false, blocked := false,
    ladders := PerChannel.fill Ladder.reset }

/-- R167, one channel. -/
def TallyChannel.reset : TallyChannel :=
  { printed := 0, spit := 0, purge := 0, refilled := 0, adjusted := 0, bands := 0,
    estimateOpen := 0, overflow := false }

/-- R155, R167. -/
def Tally.reset : Tally :=
  { channels := PerChannel.fill TallyChannel.reset
    pendingCopy := PerChannel.fill Settings.zero
    inForce := { issue := 0, values := PerChannel.fill Settings.zero }
    prior := { issue := 0, values := PerChannel.fill Settings.zero }
    leadingSeen := false, trailingSeen := false, startInPeriod := false, outstanding := false }

/-- An ABSENT station entry (R180, R187). -/
def PeerEntry.absentEntry : PeerEntry := { presence := .absent, age := 0, fields := none }

/-- R179, R187: STATUS due at once. -/
def Link.reset : Link :=
  { errors := 0, errorWindow := none, faultSlot := false, nozzleSlot := none, reportSlot := none,
    statusDue := true, periodCount := 0, spacingCount := 2, early := false,
    peers := PerStation.fill PeerEntry.absentEntry, controller := { presence := .absent, age := 0 },
    outcome := none, tx := none }

/-- R188, R198, R211. The straps read 0 (DESIGN CHOICE, notes/assumptions/4.md). -/
def ModeControl.reset : ModeControl :=
  { mode := .config, station := 0, held := Sections.powerOn, received0 := false,
    received1 := false, received2 := false, received3 := false, firstPart := none,
    inForce := Sections.powerOn, started := false, resetPin := false }

/-- R200, R208. -/
def FaultUnit.reset : FaultUnit := { active := [], record := none, count := 0, notice := none }

/-- The station right after power-on (R198), with no command waiting. -/
def State.reset : State :=
  { ink := PerChannel.fill InkChannel.reset
    refill := PerChannel.fill RefillChannel.reset
    bands := BandQueue.reset
    feed := Feed.reset
    service := Service.reset
    keepWet := KeepWet.reset
    nozzle := Nozzle.reset
    tally := Tally.reset
    link := Link.reset
    mode := ModeControl.reset
    faults := FaultUnit.reset
    pending := [] }

end Sys2Proof.Machine
end

