-- ==== Sys2Proof/Machine/Ops.lean ====
section
/-! DEFINITION. The named operations on the state that every block shares: reading what is in force, the
working state of one event (`Work`), raising a fault, recording an outcome, adding to a tally, raising a
service request, and asking for an early STATUS. -/

namespace Sys2Proof.Machine

/-! ### Reading what is in force -/

/-- Whether a channel is in the enabled set latched at the latest START (R2). -/
def State.enabled (s : State) (c : Channel) : Bool := s.mode.inForce.sec0.enabled.get c

/-- The reservoir configuration in force of a channel (R192). -/
def State.reservoir (s : State) (c : Channel) : Reservoir := s.mode.inForce.sec0.reservoir.get c

/-- The metering settings in force of a channel (R155). -/
def State.settingsOf (s : State) (c : Channel) : Settings := s.tally.inForce.values.get c

/-- Section 1 in force (R192). -/
def State.sec1 (s : State) : Section1 := s.mode.inForce.sec1

/-- Section 2 in force (R193). -/
def State.sec2 (s : State) : Section2 := s.mode.inForce.sec2

/-- Section 3 in force (R193). -/
def State.sec3 (s : State) : Section3First := s.mode.inForce.sec3.first

/-- The age at which a station entry becomes LOST: three status periods (R181). -/
def State.lostAge (s : State) : Nat := 3 * s.sec1.statusPeriod

/-- Whether the station is in RUN. -/
def State.inRun (s : State) : Bool := decide (s.mode.mode = .run)

/-! ### The order outcome codes and their numbers -/

/-- The code of a fault (11.1), which is also its priority. -/
def FaultCode.num : FaultCode → Nat
  | .duplicateStation => 0
  | .serviceTimeout => 1
  | .slip => 2
  | .edgeLate => 3
  | .skew => 4
  | .peerLost => 5
  | .controllerSilent => 6
  | .valveLeak => 7
  | .lineStarved => 8
  | .overfill => 9
  | .underrun => 10
  | .driftExcess => 11
  | .nozzleListFull => 12
  | .columnUncovered => 13
  | .tallyOverflow => 14
  | .linkErrors => 15

/-- All fault codes, in code order. -/
def FaultCode.all : List FaultCode :=
  [.duplicateStation, .serviceTimeout, .slip, .edgeLate, .skew, .peerLost, .controllerSilent,
   .valveLeak, .lineStarved, .overfill, .underrun, .driftExcess, .nozzleListFull,
   .columnUncovered, .tallyOverflow, .linkErrors]

/-- The sheet-stop faults (11.1, R86). -/
def FaultCode.sheetStop : FaultCode → Bool
  | .serviceTimeout | .slip | .edgeLate | .skew | .peerLost | .controllerSilent => true
  | _ => false

/-! ### One event -/

/-- The station while one event is worked: the state so far, the state the event found, the faults raised
so far (R201, R202), and which end-of-event work the event has called for: the coverage walk (R21), the
guard line (R53), the refill classes (R24, R25), the peer tests of refill (R28, R29), the arbiter's
boundary (R105) and the FHOLD drive (R76). -/
structure Work extends State where
  pre : State
  raised : List Raise
  cover : Bool
  guardDue : Bool
  classes : Bool
  peersHeard : Bool
  boundary : Bool
  drive : Bool

/-- An event begins. -/
def Work.begin (s : State) : Work :=
  { toState := s, pre := s, raised := [], cover := false, guardDue := false, classes := false,
    peersHeard := false, boundary := false, drive := false }

/-- A block raises a fault (R201); the fault unit takes it at the end of the event (R202). -/
def Work.raise (w : Work) (code : FaultCode) (detail : Detail) : Work :=
  { w with raised := w.raised ++ [{ code := code, detail := detail }] }

/-- The link records an order's outcome (R184). -/
def Work.outcome (w : Work) (kind : OrderKind) (ref : Nat) (code : OutcomeCode) : Work :=
  { w with link := { w.link with outcome := some { kind := kind, ref := ref, code := code } } }

/-! ### Tallies (R153, R154) -/

/-- The four nL tallies that only grow (R153). -/
inductive Amount where
  | printed | spit | purge | refilled
  deriving DecidableEq, Repr

/-- A sum that stops at the end of its range, and whether it was stopped (R154). -/
def saturateAdd (top a b : Nat) : Nat × Bool :=
  if top < a + b then (top, true) else (a + b, false)

/-- The adjusted tally with an amount added, and whether it was stopped at an end (R154). -/
def saturateAdjust (a d : Int) : Int × Bool :=
  if Config.maxAdjusted < a + d then (Config.maxAdjusted, true)
  else if a + d < Config.minAdjusted then (Config.minAdjusted, true)
  else (a + d, false)

/-- One nL tally of a channel with an amount added, and whether it saturated. -/
def TallyChannel.add (t : TallyChannel) (k : Amount) (n : Nat) : TallyChannel × Bool :=
  match k with
  | .printed => let r := saturateAdd Config.maxTally t.printed n; ({ t with printed := r.1 }, r.2)
  | .spit => let r := saturateAdd Config.maxTally t.spit n; ({ t with spit := r.1 }, r.2)
  | .purge => let r := saturateAdd Config.maxTally t.purge n; ({ t with purge := r.1 }, r.2)
  | .refilled =>
    let r := saturateAdd Config.maxTally t.refilled n; ({ t with refilled := r.1 }, r.2)

/-- The tally channel as an addition leaves it: a saturation sets the overflow mark (R154). -/
def TallyChannel.marked (r : TallyChannel × Bool) : TallyChannel :=
  { r.1 with overflow := r.1.overflow || r.2 }

/-- Stores a tally channel; TALLY OVERFLOW is raised when its mark goes from clear to set (R154). -/
def Work.putTally (w : Work) (c : Channel) (t : TallyChannel) : Work :=
  { w with
    tally := { w.tally with channels := w.tally.channels.set c t }
    raised :=
      if t.overflow && !(w.tally.channels.get c).overflow then
        w.raised ++ [{ code := .tallyOverflow, detail := .channel c }]
      else w.raised }

/-- Hands an amount to one of the growing tallies (R153, R154). -/
def Work.addTally (w : Work) (c : Channel) (k : Amount) (n : Nat) : Work :=
  w.putTally c (TallyChannel.marked ((w.tally.channels.get c).add k n))

/-- Hands an amount to the adjusted tally (R153, R154). -/
def Work.adjust (w : Work) (c : Channel) (d : Int) : Work :=
  let t := w.tally.channels.get c
  let r := saturateAdjust t.adjusted d
  w.putTally c (TallyChannel.marked ({ t with adjusted := r.1 }, r.2))

/-- The band count of a channel rises by one (R12, R154). -/
def Work.countBand (w : Work) (c : Channel) : Work :=
  let t := w.tally.channels.get c
  let r := saturateAdd Config.maxBandCount t.bands 1
  w.putTally c (TallyChannel.marked ({ t with bands := r.1 }, r.2))

/-! ### Small setters -/

/-- Replaces a channel's ink state: an input of coverage and of the class (R21, R24). -/
def Work.putInk (w : Work) (c : Channel) (x : InkChannel) : Work :=
  { w with ink := w.ink.set c x, cover := true, classes := true }

/-- Replaces a channel's refill state, with the class and valve tests of the end of the event (R24). -/
def Work.putRefill (w : Work) (c : Channel) (x : RefillChannel) : Work :=
  { w with refill := w.refill.set c x, classes := true }

/-- A request reaches the arbiter: the source's pending flag is set; a second request merges (R102). -/
def Work.request (w : Work) (src : Source) : Work :=
  { w with
    service := { w.service with pending := w.service.pending.set src true }
    boundary := true, classes := true }

/-- A source withdraws its request (R102, R108, R110, R145). -/
def Work.withdraw (w : Work) (src : Source) : Work :=
  { w with
    service := { w.service with pending := w.service.pending.set src false }
    boundary := true, classes := true }

/-- The link is asked for an early STATUS: the early mark is set, and the slot is due at once when the
spacing count stands at 2 (R179). -/
def Link.requestEarly (l : Link) : Link :=
  { l with early := true, statusDue := l.statusDue || decide (2 ≤ l.spacingCount) }

/-- The capped flag takes a value; the capped tick count restarts at each change (R96, R116), and
readiness may have changed (R67, R76). -/
def Work.setCapped (w : Work) (b : Bool) : Work :=
  { w with
    service := { w.service with capped := b }
    keepWet :=
      if w.service.capped = b then w.keepWet else { w.keepWet with cappedTicks := 0 }
    drive := true, boundary := true }

end Sys2Proof.Machine
end

