-- ==== Sys2Proof/Machine/Flags.lean ====
section
/-! DEFINITION. Every condition the blocks read of one another, as a function of the state: the sheet's
position marks, readiness, the effective limit and the FHOLD drive; the current and next sheet; the
purge ink test; precedence on a supply line; the arbiter's needs; idle standing; what STATUS shows. -/

namespace Sys2Proof.Machine

/-! ### Feed control: sheet base, readiness, limit, drive -/

/-- The sheet base: the leading capture plus D, while a capture is held (R48). -/
def State.sheetBase (s : State) : Option Nat :=
  match s.feed.capture with
  | some p => some (p + s.sec2.sensorDistance)
  | none => none

/-- The station's own number is in the active set of the sheet record. -/
def State.inActiveSet (s : State) : Bool :=
  match s.feed.sheet with
  | some r => r.active.get s.mode.station
  | none => false

/-- Phase PENDING, ACTIVE or TRAILING: a sheet of this station in progress. -/
def State.sheetInProgress (s : State) : Bool :=
  match s.feed.phase with
  | .pending | .active | .trailing => true
  | .none | .ended => false

/-- Phase ACTIVE or TRAILING. -/
def State.sheetAtSensor (s : State) : Bool :=
  match s.feed.phase with
  | .active | .trailing => true
  | .none | .pending | .ended => false

/-- Phase NONE or ENDED. -/
def State.betweenSheets (s : State) : Bool :=
  match s.feed.phase with
  | .none | .ended => true
  | .pending | .active | .trailing => false

/-- The sled is away from PARK (R92), or has been commanded away from it: from the start of the action feed
control withholds the step (R93; notes/assumptions/21.md). -/
def State.sledAway (s : State) : Bool :=
  decide (s.service.sled ≠ .standing .park)
    || (match s.service.motion with
      | some p => decide (p ≠ .park)
      | none => false)

/-- Readiness (R67): uncapped, no dry-suspect block, no forced check pending (R125). -/
def State.ready (s : State) : Bool :=
  !s.service.capped && s.keepWet.dry.isEmpty && !s.keepWet.forced

/-- Whether the current move is RUNNING or HELD. -/
def State.moveInProgress (s : State) : Bool :=
  match s.feed.move with
  | some m => match m.state with
    | .running | .held => true
    | .idle | .done => false
  | none => false

/-- A non-eject move is RUNNING or HELD. -/
def State.boundMoveInProgress (s : State) : Bool :=
  match s.feed.move with
  | some m => match m.state with
    | .running | .held => !m.eject
    | .idle | .done => false
  | none => false

/-- The move state as STATUS shows it: IDLE with no current move (R178). -/
def State.moveState (s : State) : MoveState :=
  match s.feed.move with
  | some m => m.state
  | none => .idle

/-- The smaller of two guard lines, OPEN counting above every line (R73). -/
def GuardLine.min : GuardLine → GuardLine → GuardLine
  | .allClear, g => g
  | g, .allClear => g
  | .line a, .line b => .line (Nat.min a b)

/-- The guard line that a peer entry counts for a sheet (R73). -/
def PeerEntry.guardFor (e : PeerEntry) (sheetId : Nat) : GuardLine :=
  match e.presence, e.fields with
  | .present, some f => if f.sheet = some sheetId then f.guard else .line 0
  | _, _ => .line 0

/-- The effective guard line (R73): the smallest of the guards that count for the sheet. -/
def State.effectiveGuard (s : State) (r : SheetRecord) : GuardLine :=
  allStations.foldl
    (fun g n =>
      if r.active.get n then
        if n = s.mode.station then GuardLine.min g s.bands.guard
        else GuardLine.min g ((s.link.peers.get n).guardFor r.sheet)
      else g)
    .allClear

/-- Some other station of the active set has a LOST entry (R74). -/
def State.activePeerLost (s : State) (r : SheetRecord) : Bool :=
  allStations.any fun n =>
    r.active.get n && decide (n ≠ s.mode.station)
      && decide ((s.link.peers.get n).presence = .lost)

/-- An effective limit (R74). -/
inductive Limit where
  /-- No limit. -/
  | unlimited
  /-- The feed position, whatever it is. -/
  | atPosition
  /-- A feed position. -/
  | at_ (p : Nat)
  deriving DecidableEq, Repr

/-- The effective limit (R74), by the first line of its table that applies. -/
def State.effectiveLimit (s : State) : Limit :=
  match s.feed.sheet with
  | none => .atPosition
  | some r =>
    if s.feed.phase = .none then .atPosition
    else if s.inActiveSet && s.sheetInProgress && s.activePeerLost r then .atPosition
    else match s.sheetBase with
      | none => .unlimited
      | some base =>
        match s.effectiveGuard r with
        | .allClear => .unlimited
        | .line n => .at_ (base + 4 * n)

/-- Whether the limit keeps a non-eject move from its next step: the feed position or the commanded step
count is at or past it (R69). -/
def State.limitReached (s : State) : Bool :=
  match s.effectiveLimit with
  | .unlimited => false
  | .atPosition => true
  | .at_ p => decide (p ≤ s.feed.position) || decide (p ≤ s.feed.commanded)

/-- The position or the commanded step count is within the stop margin of the limit (R76 condition 3). -/
def State.nearLimit (s : State) : Bool :=
  match s.effectiveLimit with
  | .unlimited => false
  | .atPosition => true
  | .at_ p =>
    decide (p ≤ s.feed.position + s.sec2.stopMargin)
      || decide (p ≤ s.feed.commanded + s.sec2.stopMargin)

/-- The sheet stands within the stop margin of the print line while the sled is out (R76 condition 5). -/
def State.nearBaseWithSledOut (s : State) : Bool :=
  match s.sheetBase with
  | none => false
  | some base =>
    s.sheetAtSensor && s.sledAway
      && (decide (base ≤ s.feed.position + s.sec2.stopMargin)
        || decide (base ≤ s.feed.commanded + s.sec2.stopMargin + 1))

/-- Some sheet-stop fault is active (R86). -/
def State.sheetStopped (s : State) : Bool := s.faults.active.any FaultCode.sheetStop

/-- The five conditions under which the station drives FHOLD (R76). -/
def State.fholdWanted (s : State) : Bool :=
  !s.inRun
    || s.sheetStopped
    || (s.boundMoveInProgress && s.nearLimit)
    || s.feed.readinessHold
    || (s.moveInProgress && s.nearBaseWithSledOut)

/-- FHOLD reads asserted: this station drives it, or the last report of the line was of another station's
pull (00_scope.md, "Hold and stop"; notes/assumptions/7.md). -/
def State.fholdReads (s : State) : Bool := s.feed.fholdDrive || s.feed.fholdLine

/-- The sled guard on a step: with the sled away from PARK and a base known in ACTIVE or TRAILING, the
step would bring the commanded step count to the sheet base (R69). -/
def State.stepMeetsBase (s : State) : Bool :=
  match s.sheetBase with
  | none => false
  | some base => s.sledAway && s.sheetAtSensor && decide (s.feed.commanded + 1 = base)

/-- The three conditions of R69 under which a step due is issued. -/
def State.stepAllowed (s : State) (m : Move) : Bool :=
  !s.fholdReads && (m.eject || !s.limitReached) && !s.stepMeetsBase

/-! ### Band queue: current and next sheet -/

/-- The sheet id after `n`: 16 bits (R210). -/
def nextSheetId (n : Nat) : Nat := (n + 1) % 65536

/-- The current sheet of queue order and of the position tests (R43). -/
def State.currentSheet (s : State) : Option Nat :=
  if s.feed.phase = .none then none else s.bands.sheetRef

/-- The sheet taking bands (R43). -/
def State.takingSheet (s : State) : Option Nat :=
  if s.sheetInProgress then s.bands.sheetRef else none

/-- The next sheet (R43). -/
def State.nextSheet (s : State) : Option Nat :=
  match s.bands.sheetRef with
  | some n => some (nextSheetId n)
  | none => none

/-- The first line after a record (R42). -/
def BandRecord.endLine (r : BandRecord) : Nat := r.start + r.length

/-- The records of one sheet, in queue order. -/
def State.recordsOf (s : State) (sheetId : Nat) : List BandRecord :=
  s.bands.records.filter fun r => r.sheet = sheetId

/-- The tag of the PRINTING record, as the band queue gives it to the fault unit (R49). -/
def State.printingTag (s : State) : Option Nat :=
  (s.bands.records.find? fun r => r.state = .printing).map BandRecord.tag

/-- How urgently the station asks for bands (R55). -/
inductive BandsWanted where
  | none | normal | urgent
  deriving DecidableEq, Repr

/-- The bands-wanted urgency (R55). -/
def State.bandsWanted (s : State) : BandsWanted :=
  if !s.inRun then .none
  else if s.bands.records.length ≤ s.sec2.highMark then .urgent
  else if s.bands.records.length ≤ s.sec2.lowMark then .normal
  else .none

/-- The guard line (R53), by the first case that applies. -/
def State.guardLine (s : State) : GuardLine :=
  match s.currentSheet with
  | none => .line 0
  | some cur =>
    let mine := s.recordsOf cur
    match mine.find? fun r => r.state ≠ .covered ∧ r.state ≠ .printing with
    | some r => .line r.start
    | none =>
      let line := match mine.getLast? with
        | some r => r.endLine
        | none => s.bands.lastRetired
      match s.feed.sheet with
      | some rec => if line = rec.printLength then .allClear else .line line
      | none => .line line

/-! ### Ink: the purge ink test -/

/-- The purge volume in force of a channel (R8). -/
def State.purgeVolume (s : State) (heavy : Bool) (c : Channel) : Nat :=
  if heavy then (s.settingsOf c).heavyPurge else (s.settingsOf c).lightPurge

/-- The purge ink test of one channel (R8). -/
def State.inkTest (s : State) (heavy : Bool) (c : Channel) : Bool :=
  s.enabled c && decide ((s.ink.get c).state = .known)
    && decide (s.purgeVolume heavy c + (s.settingsOf c).reserve ≤ (s.ink.get c).estimate)

/-- Every listed channel passes the purge ink test (R96, R107). -/
def State.purgeInked (s : State) (heavy : Bool) (set : ChannelSet) : Bool :=
  Channel.all.all fun c => !set.get c || s.inkTest heavy c

/-! ### Nozzle health as the other blocks read it -/

/-- Some group of an enabled channel is UNCOVERED (R137). -/
def State.anyUncovered (s : State) : Bool :=
  Channel.all.any fun c =>
    s.enabled c && (s.nozzle.groups.get c).any fun g => g.state = .uncovered

/-- A channel's ladder is due (R130). -/
def Ladder.due (l : Ladder) : Bool :=
  decide (1 ≤ l.level) && decide (l.level ≤ 4) && !l.exhausted && !l.inService

/-- The failed list holds a nozzle of a group (R144, R147). -/
def State.groupHasFailed (s : State) (g : Nat) : Bool :=
  s.nozzle.failed.any fun f =>
    decide (f.channel.num * Config.groupsPerChannel + f.nozzle / Config.groupNozzles = g)

/-- Some affected group of a channel's ladder holds a failed nozzle (R144, R147). -/
def State.ladderHasFailed (s : State) (l : Ladder) : Bool := l.affected.any s.groupHasFailed

/-- The channel's refill is starved or locked, so it is not purged (R144, R148). -/
def State.refillMarked (s : State) (c : Channel) : Bool :=
  (s.refill.get c).starvedMark || (s.refill.get c).lockedMark

/-- A due channel passes both tests of R144. -/
def State.recoverable (s : State) (c : Channel) : Bool :=
  let l := s.nozzle.ladders.get c
  l.due && s.ladderHasFailed l && !(decide (3 ≤ l.level) && s.refillMarked c)

/-- The RECOVERY sequence of a ladder level (R144). -/
def ladderActions (level : Nat) (c : Channel) (affected : List Nat) : List Action :=
  let only : ChannelSet := (PerChannel.fill false).set c true
  if level = 1 then [.gapSpit, .check affected]
  else if level = 2 then [.wipe, .gapSpit, .check affected]
  else if level = 3 then [.purge false only, .wipe, .gapSpit, .check affected]
  else [.purge true only, .wipe, .gapSpit, .check affected]

/-- The channel that a RECOVERY request would serve: the lowest-numbered due one that passes the tests of
R144. -/
def State.recoveryChannel (s : State) : Option Channel := Channel.all.find? s.recoverable

/-! ### Keep-wet: groups of the spit blocks -/

/-- The group set of a spit block for the enabled channels (R91, R115), in ascending group number. -/
def State.blockGroups (s : State) (b : Nat) : List Nat :=
  sortNums (Channel.all.flatMap fun c =>
    if s.enabled c then
      [c.num * Config.groupsPerChannel + b, c.num * Config.groupsPerChannel + b + Config.spitBlocks]
    else [])

/-- The content of a FORCED-CHECK: the group sets of the dry-suspect blocks (R121). -/
def State.forcedGroups (s : State) : List Nat :=
  sortNums (s.keepWet.dry.flatMap s.blockGroups)

/-! ### The service arbiter -/

/-- Whether the action moves the sled (R93, R96). -/
def Action.moves : Action → Bool
  | .sheetSpit => false
  | _ => true

/-- The need "sheet clear" (R93). -/
def State.sheetClear (s : State) : Bool :=
  !s.feed.underSegment
    && match s.sheetBase with
      | none => true
      | some base => !s.sheetAtSensor || decide (s.feed.commanded < base)

/-- The sheet record allows sheet spit. -/
def State.sheetSpitAllowed (s : State) : Bool :=
  match s.feed.sheet with
  | some r => r.spitAllowed
  | none => false

/-- The needs of an action at its start (R96). With the sled UNKNOWN, HOME's needs stand in for those of
an action that moves it, but a purge still waits for its ink (R104, R107; notes/assumptions/12.md). Both
read the same: sheet clear, and for a purge its ink. -/
def State.needsHold (s : State) (a : Action) : Bool :=
  match a with
  | .sheetSpit =>
    s.feed.underSegment && s.sheetSpitAllowed && decide (s.service.sled = .standing .park)
  | .purge heavy set => s.sheetClear && s.purgeInked heavy set
  | .home | .uncap | .cap | .gapSpit | .wipe | .check _ => s.sheetClear

/-- The sequence that a pending request of a source would run now (R102). -/
def State.requestActions (s : State) (src : Source) : List Action :=
  match src with
  | .order => match s.service.order with
    | some a => [a]
    | none => []
  | .uncapNeed => [.uncap]
  | .keepWet => if s.service.capped then [.uncap, .gapSpit, .cap] else [.gapSpit]
  | .sheetSpit => [.sheetSpit]
  | .recovery => match s.recoveryChannel with
    | some c =>
      ladderActions (s.nozzle.ladders.get c).level c (s.nozzle.ladders.get c).affected
    | none => []
  | .forcedCheck => [.check s.forcedGroups]
  | .capIdle => [.cap]

/-- The level of a source in force (R91). -/
def State.sourceLevel (s : State) (src : Source) : Nat := s.sec3.levels.get src

/-- The arbiter may start actions: RUN, stopped mark clear, none in progress (R101, R104, R105). -/
def State.mayStart (s : State) : Bool :=
  s.inRun && !s.service.stopped && s.service.current.isNone

/-- A pending request is eligible (R104). -/
def State.eligible (s : State) (src : Source) : Bool :=
  s.service.pending.get src
    && s.inRun && !s.service.stopped
    && decide (s.sourceLevel src ≤ s.service.mask)
    && (match s.service.stack with
      | [] => true
      | q :: _ => decide (s.sourceLevel src < q.level))
    && (match s.requestActions src with
      | [] => false
      | a :: _ => s.needsHold a)

/-- The eligible request of numerically lowest level, ties by source order (R105 step 1). -/
def State.chosenSource (s : State) : Option Source :=
  Source.all.foldl
    (fun best src =>
      if s.eligible src then
        match best with
        | none => some src
        | some b => if s.sourceLevel src < s.sourceLevel b then some src else some b
      else best)
    none

/-- The action in progress is one of the top sequence's, not HOME. -/
def State.topStarted (s : State) : Bool :=
  match s.service.current with
  | some a => decide (a.action ≠ .home)
  | none => false

/-- The actions of each sequence on the stack that have not started (R106, R118). -/
def State.unstarted (s : State) : List (Source × List Action) :=
  match s.service.stack with
  | [] => []
  | q :: qs =>
    (q.source, if s.topStarted then q.actions.tail else q.actions)
      :: qs.map fun p => (p.source, p.actions)

/-- The channels of an action's purge, if it is one. -/
def purgeChannels : Option Action → ChannelSet
  | some (.purge _ set) => set
  | _ => PerChannel.fill false

/-- Whether an action that is pending or next is a purge listing a channel that fails its ink test. -/
def State.purgeWaitsFor (s : State) (c : Channel) : Option Action → Bool
  | some (.purge heavy set) => set.get c && !s.inkTest heavy c
  | _ => false

/-- The purges that are pending: an ORDER purge, a RECOVERY that begins with one, and the next actions of
the sequences on the stack (R107). -/
def State.pendingPurges (s : State) : List (Option Action) :=
  (if s.service.pending.get .order then s.service.order else none)
    :: (if s.service.pending.get .recovery then (s.requestActions .recovery).head? else none)
    :: s.unstarted.map fun p => p.2.head?

/-- A pending purge lists the channel and the channel fails the purge ink test (R25, R107). -/
def State.purgeRaise (s : State) (c : Channel) : Bool :=
  s.pendingPurges.any fun a => s.purgeWaitsFor c a

/-- A purge action is in progress (R36, R37). -/
def State.purgeRunning (s : State) : Bool :=
  match s.service.current with
  | some a => match a.action with
    | .purge _ _ => true
    | _ => false
  | none => false

/-- A keep-wet spit is outstanding (R118). -/
def State.spitOutstanding (s : State) : Bool :=
  s.service.pending.get .keepWet || s.service.pending.get .sheetSpit
    || s.unstarted.any fun p =>
        decide (p.1 = .keepWet ∨ p.1 = .sheetSpit)
          && p.2.any fun a => decide (a = .gapSpit ∨ a = .sheetSpit)

/-- The sled is not at CAP, or the capped flag is clear (R110). -/
def State.notCappedHome (s : State) : Bool :=
  decide (s.service.sled ≠ .standing .cap) || !s.service.capped

/-- The station stands idle and uncapped, so that the cap idle count runs (R110). -/
def State.idleUncapped (s : State) : Bool :=
  s.inRun && s.betweenSheets && s.service.current.isNone && s.service.stack.isEmpty
    && s.notCappedHome

/-- The arbiter raises UNCAP-NEED at a boundary (R109). -/
def State.uncapNeeded (s : State) : Bool :=
  s.inRun && s.inActiveSet && s.sheetInProgress && s.service.current.isNone
    && s.service.stack.isEmpty && (s.sledAway || s.service.capped)

/-- Service busy as STATUS shows it (R114). -/
def State.serviceBusy (s : State) : Bool :=
  s.service.current.isSome || !s.service.stack.isEmpty

/-- The time limit of an action (R96, R100). -/
def State.timeLimit (s : State) : Action → Nat
  | .home | .uncap | .cap => s.sec3.limits.move
  | .gapSpit | .sheetSpit => s.sec3.limits.spit
  | .wipe => s.sec3.limits.wipe
  | .check _ => s.sec3.limits.check
  | .purge heavy _ => if heavy then s.sec3.limits.heavyPurge else s.sec3.limits.lightPurge

/-! ### Refill: classes and precedence -/

/-- The deficit class (R24). -/
def State.deficitClass (s : State) (c : Channel) : Nat :=
  if !s.enabled c then 0
  else if (s.ink.get c).estimate < (s.settingsOf c).reserve then 3
  else if (s.ink.get c).estimate < (s.reservoir c).lowLevel ∨ (s.ink.get c).state = .unknown then 2
  else if (s.ink.get c).estimate < (s.settingsOf c).refillMark then 1
  else 0

/-- The effective class of a channel with a given deficit class and time waited (R25). -/
def State.effectiveClass (s : State) (c : Channel) (deficit waited : Nat) : Nat :=
  if s.purgeRaise c then 3
  else if Config.waitingLimit ≤ waited then Nat.min 3 (deficit + 1)
  else deficit

/-- What a peer entry counts for on a channel (R26): its view while it is PRESENT and shows RUN. -/
def PeerEntry.viewOf (e : PeerEntry) (c : Channel) : Option ChannelView :=
  match e.presence, e.fields with
  | .present, some f => if f.mode = .run then some (f.channels.get c) else none
  | _, _ => none

/-- The peers that count on a channel, with their numbers (R26, R180). -/
def State.peerViews (s : State) (c : Channel) : List (StationNo × ChannelView) :=
  allStations.filterMap fun n =>
    if n = s.mode.station then none
    else ((s.link.peers.get n).viewOf c).map fun v => (n, v)

/-- A peer has precedence over this station on a channel (R26). -/
def peerAhead (own : StationNo) (ownClass : Nat) (p : StationNo × ChannelView) : Bool :=
  decide (ownClass < p.2.effective) || (decide (p.2.effective = ownClass) && decide (p.1 < own))

/-- The opening test of R28, for an effective class. -/
def State.openingTest (s : State) (c : Channel) (cls : Nat) : Bool :=
  let vs := s.peerViews c
  let opens := (vs.filter fun p => p.2.state = .opened).length
  let waits := (vs.filter fun p => p.2.state = .want && peerAhead s.mode.station cls p).length
  decide (opens + waits < s.sec1.budget.get c) && !(vs.any fun p => p.2.starved)

/-- The rank of an OPEN channel (R29). -/
def State.rank (s : State) (c : Channel) (cls : Nat) : Nat :=
  ((s.peerViews c).filter fun p => p.2.state = .opened && peerAhead s.mode.station cls p).length

/-- The overfill level of a channel (R34). -/
def State.overfillLevel (s : State) (c : Channel) : Nat :=
  Nat.min ((s.reservoir c).fullLevel + (s.reservoir c).tolerance) (s.reservoir c).capacity

/-- The starved flag that STATUS shows: STARVED, or HELD with the mark set (R33, R40). -/
def RefillChannel.starvedFlag (x : RefillChannel) : Bool :=
  match x.state with
  | .starved => true
  | .held => x.starvedMark
  | _ => false

end Sys2Proof.Machine
end

