-- ==== Sys2Proof/Machine/Metering.lean ====
section
/-! DEFINITION. Ink metering (chapter 1): volumes, deductions, flow credit, reconciliation, what a START
does to the estimates, and coverage of the band queue. -/

namespace Sys2Proof.Machine

/-! ### Volumes (R5, R7) -/

/-- The drop volume of a class (R155). -/
def dropVolume (v : Settings) (k : Fin 4) : Nat :=
  match k.val with
  | 0 => v.v0
  | 1 => v.v1
  | 2 => v.v2
  | _ => v.v3

/-- The volume of one channel of a band record under the settings in force (R5). -/
def State.bandVolume (s : State) (d : PerChannel Drops) (c : Channel) : Nat :=
  if s.enabled c then (d.get c).count * dropVolume (s.settingsOf c) (d.get c).volumeClass else 0

/-- A record valued under the settings in force (R6). -/
def State.valued (s : State) (r : BandRecord) : BandRecord :=
  { r with volume := PerChannel.gen (s.bandVolume r.drops) }

/-- The spit volume of a channel for a number of drops per nozzle (R7). -/
def State.spitVolume (s : State) (drops : Nat) (c : Channel) : Nat :=
  if s.enabled c then drops * 128 * (s.settingsOf c).v0 else 0

/-- Every record that is not PRINTING is revalued (R6). -/
def Work.revalue (w : Work) : Work :=
  { w with
    bands := { w.bands with
      records := w.bands.records.map fun r => if r.state = .printing then r else w.valued r }
    cover := true, guardDue := true }

/-! ### Deduction (R9 to R11) -/

/-- Takes a whole number of nL from a KNOWN channel, leaving residue `r` (R9, R10). -/
def Work.takeWhole (w : Work) (k : Amount) (c : Channel) (whole r : Nat) : Work :=
  let x := w.ink.get c
  if whole ≤ x.estimate then
    (w.putInk c { x with estimate := x.estimate - whole, residue := r }).addTally c k whole
  else
    (((w.putInk c { x with estimate := 0, residue := r }).addTally c k whole).adjust c
      ((whole : Int) - x.estimate)).raise .underrun (.channel c)

/-- Hands a whole number of nL from a channel in UNKNOWN, whose estimate does not move (R11). -/
def Work.takeUnknown (w : Work) (k : Amount) (c : Channel) (whole : Nat) : Work :=
  (w.addTally c k whole).adjust c whole

/-- A deduction of a volume in 0.01 pL, through the residue (R9, R10, R11). A disabled channel has no
volume (R2). -/
def Work.deduct (w : Work) (k : Amount) (c : Channel) (v : Nat) : Work :=
  if !w.enabled c then w
  else match (w.ink.get c).state with
    | .unknown => w.takeUnknown k c (v / Config.unitsPerNl)
    | .known =>
      let total := (w.ink.get c).residue + v
      w.takeWhole k c (total / Config.unitsPerNl) (total % Config.unitsPerNl)

/-- A deduction of a purge volume, in whole nL, past the residue (R9, R10, R11). -/
def Work.deductPurge (w : Work) (c : Channel) (whole : Nat) : Work :=
  if !w.enabled c then w
  else match (w.ink.get c).state with
    | .unknown => w.takeUnknown .purge c whole
    | .known => w.takeWhole .purge c whole (w.ink.get c).residue

/-- The six deductions of a retirement, channel by channel with its band count (R12). -/
def Work.deductBand (w : Work) (r : BandRecord) : Work :=
  Channel.all.foldl
    (fun w c => if w.enabled c then (w.deduct .printed c (r.volume.get c)).countBand c else w) w

/-- The deductions of a completed spit (R13). -/
def Work.deductSpit (w : Work) (volumes : PerChannel Nat) : Work :=
  Channel.all.foldl (fun w c => w.deduct .spit c (volumes.get c)) w

/-- The deductions of a completed purge (R13). -/
def Work.deductPurges (w : Work) (set : ChannelSet) (volumes : PerChannel Nat) : Work :=
  Channel.all.foldl (fun w c => if set.get c then w.deductPurge c (volumes.get c) else w) w

/-! ### Credit (R14, R15) -/

/-- A flow meter pulse at metering (R14, R15); a disabled channel's is not credited (R2). -/
def Work.credit (w : Work) (c : Channel) : Work :=
  if !w.enabled c then w
  else
    let x := w.ink.get c
    let f := (w.reservoir c).credit
    let top := (w.reservoir c).capacity
    match x.state with
    | .unknown => (w.addTally c .refilled f).adjust c (-(f : Int))
    | .known =>
      if x.estimate + f ≤ top then
        (w.putInk c { x with estimate := x.estimate + f }).addTally c .refilled f
      else
        ((w.putInk c { x with estimate := top }).addTally c .refilled f).adjust c
          ((top : Int) - (x.estimate + f : Nat))

/-! ### Reconciliation and anchoring (R4, R16) -/

/-- Sets a KNOWN channel's estimate to a mark level and books the difference (R16). -/
def Work.reconcile (w : Work) (c : Channel) (level : Nat) : Work :=
  let x := w.ink.get c
  let d : Int := (level : Int) - x.estimate
  let w1 := (w.putInk c { x with estimate := level }).adjust c d
  if (w.reservoir c).tolerance < d.natAbs then w1.raise .driftExcess (.channel c) else w1

/-- An UNKNOWN channel becomes KNOWN at the FULL level (R4). -/
def Work.anchor (w : Work) (c : Channel) : Work :=
  let x := w.ink.get c
  let level := (w.reservoir c).fullLevel
  (w.putInk c { x with estimate := level, state := .known }).adjust c
    ((level : Int) - x.estimate)

/-- What a debounced mark change does to the estimate of an enabled channel (R4, R16). -/
def Work.markReconcile (w : Work) (c : Channel) (m : MarkName) (wet : Bool) : Work :=
  if !w.enabled c then w
  else match (w.ink.get c).state, m with
    | .known, .low => w.reconcile c (w.reservoir c).lowLevel
    | .known, .full => w.reconcile c (w.reservoir c).fullLevel
    | .unknown, .full => if wet then w.anchor c else w
    | .unknown, .low => w

/-- What a START does to one channel (R22); `was` says whether it was enabled before. -/
def Work.startInk (w : Work) (was : Bool) (c : Channel) : Work :=
  let x := w.ink.get c
  let top := (w.reservoir c).capacity
  let w1 :=
    if was && w.enabled c then
      if top < x.estimate then
        (w.putInk c { x with estimate := top }).adjust c ((top : Int) - x.estimate)
      else w
    else if was then
      (w.putInk c { x with estimate := 0, residue := 0, state := .unknown }).adjust c
        (-(x.estimate : Int))
    else if w.enabled c then
      w.putInk c { x with estimate := 0, residue := 0, state := .unknown }
    else w
  if w1.enabled c && decide ((w1.ink.get c).state = .unknown)
      && decide ((w1.ink.get c).full.state = .wet) then
    w1.anchor c
  else w1

/-! ### Coverage (R19, R20) -/

/-- The whole nL a channel must give up once the summed volumes have retired (R19). -/
def State.need (s : State) (c : Channel) (sum : Nat) : Nat :=
  ((s.ink.get c).residue + sum + (Config.unitsPerNl - 1)) / Config.unitsPerNl

/-- The ink condition of R20: every enabled channel stays at or above its reserve. -/
def State.inkCovers (s : State) (sums : PerChannel Nat) : Bool :=
  Channel.all.all fun c =>
    !s.enabled c
      || decide ((s.settingsOf c).reserve + s.need c (sums.get c) ≤ (s.ink.get c).estimate)

/-- No enabled channel is UNKNOWN (R20). -/
def State.allKnown (s : State) : Bool :=
  Channel.all.all fun c => !s.enabled c || decide ((s.ink.get c).state = .known)

/-- The degraded-print allowance of a record's sheet (R20). -/
def State.degradedAllowed (s : State) (r : BandRecord) : Bool :=
  match s.feed.sheet with
  | some rec => decide (rec.sheet = r.sheet) && rec.degraded
  | none => false

/-- The conditions of R20 on one record, given the sums up to it and whether every record before it is
COVERED or PRINTING. -/
def State.judged (s : State) (ahead : Bool) (sums : PerChannel Nat) (r : BandRecord) : Bool :=
  ahead && s.allKnown && (!s.anyUncovered || s.degradedAllowed r) && s.inkCovers sums

/-- The sums with one record's volumes added (R19). -/
def addVolumes (sums v : PerChannel Nat) : PerChannel Nat :=
  PerChannel.gen fun c => sums.get c + v.get c

/-- The coverage walk over the rest of the queue (R19, R20). -/
def State.coverWalk (s : State) : List BandRecord → PerChannel Nat → Bool → List BandRecord
  | [], _, _ => []
  | r :: rs, sums, ahead =>
    let sums' := addVolumes sums r.volume
    match r.state with
    | .printing => r :: s.coverWalk rs sums' ahead
    | .stale => r :: s.coverWalk rs sums' false
    | .announced | .covered =>
      if s.judged ahead sums' r then
        { r with state := .covered } :: s.coverWalk rs sums' ahead
      else { r with state := .announced } :: s.coverWalk rs sums' false

/-- The queue as a re-working of coverage leaves it (R20, R47). -/
def State.coveredRecords (s : State) : List BandRecord :=
  s.coverWalk s.bands.records (PerChannel.fill 0) true

end Sys2Proof.Machine
end

