-- ==== Sys2Proof/Machine/Bands.lean ====
section
/-! DEFINITION. The band queue (chapter 3): the tests of a BAND order, acceptance and replacement,
retirement, the position tests, staleness, and what a SHEET, an ABORT SHEET or an overrun removes. -/

namespace Sys2Proof.Machine

/-! ### Retirement and removal -/

/-- A group's bands since clean after one retirement (R134). -/
def Group.bump (g : Group) : Group :=
  if g.bands < 15 then { g with bands := g.bands + 1 } else { g with bandsOver := true }

/-- Every group of every enabled channel counts one more band since clean (R50, R134). -/
def Work.bumpGroups (w : Work) : Work :=
  { w with
    nozzle := { w.nozzle with
      groups := PerChannel.gen fun c =>
        if w.enabled c then (w.nozzle.groups.get c).map Group.bump else w.nozzle.groups.get c } }

/-- The queue's records are replaced, which coverage and the guard line read (R21, R53). -/
def Work.putRecords (w : Work) (l : List BandRecord) : Work :=
  { w with bands := { w.bands with records := l }, cover := true, guardDue := true }

/-- A record retires (R50): it leaves the queue, its end becomes the last retired end, its volumes are
deducted and the bands since clean are counted. -/
def Work.retire (w : Work) (r : BandRecord) : Work :=
  let w1 := w.putRecords (w.bands.records.erase r)
  (({ w1 with bands := { w1.bands with lastRetired := r.endLine } } : Work).deductBand r).bumpGroups

/-- The PRINTING record, if there is one (R42). -/
def State.printing (s : State) : Option BandRecord :=
  s.bands.records.find? fun r => r.state = .printing

/-- The PRINTING record retires, if there is one. -/
def Work.retirePrinting (w : Work) : Work :=
  match w.printing with
  | some r => w.retire r
  | none => w

/-- Every record of the current sheet goes, a PRINTING one by retirement (R51, R57). -/
def Work.removeCurrent (w : Work) : Work :=
  match w.currentSheet with
  | none => w
  | some cur =>
    let w1 := w.retirePrinting
    w1.putRecords (w1.bands.records.filter fun r => r.sheet ≠ cur)

/-- What a SHEET order taken does to the queue (R56): the PRINTING record retires, the other records of
another sheet go (all of them where the id repeats), records beyond the new print length go, and the
sheet becomes current with nothing retired. -/
def Work.sheetQueue (w : Work) (n printLength : Nat) : Work :=
  let again := decide (w.bands.sheetRef = some n)
  let w1 := w.retirePrinting
  let kept := w1.bands.records.filter fun r =>
    !again && decide (r.sheet = n) && decide (r.endLine ≤ printLength)
  let w2 := w1.putRecords kept
  { w2 with bands := { w2.bands with sheetRef := some n, lastRetired := 0 } }

/-! ### Position tests (R48 to R51) -/

/-- The retirement test on the PRINTING record at a position (R50). -/
def Work.retireAt (w : Work) (base pos : Nat) : Work :=
  match w.printing with
  | some r => if base + 4 * r.endLine ≤ pos then w.retire r else w
  | none => w

/-- The first record of the current sheet that is not PRINTING (R48). -/
def State.firstWaiting (s : State) : Option BandRecord :=
  match s.currentSheet with
  | none => none
  | some cur => s.bands.records.find? fun r => r.sheet = cur ∧ r.state ≠ .printing

/-- The start test on that record at a position: it enters PRINTING (R49), or the sheet has overrun it
(R51). -/
def Work.startAt (w : Work) (base pos : Nat) : Work :=
  match w.firstWaiting with
  | none => w
  | some r =>
    if base + 4 * r.start < pos then
      if r.state = .covered ∧ r.issue = w.nozzle.issue then
        w.putRecords (w.bands.records.map fun x =>
          if x = r then { x with state := .printing } else x)
      else w.removeCurrent
    else w

/-- The tests of R48 at one change of the feed position. -/
def Work.positionTests (w : Work) : Work :=
  match w.sheetBase with
  | none => w
  | some base => (w.retireAt base w.feed.position).startAt base w.feed.position

/-! ### Staleness (R52) -/

/-- Every ANNOUNCED or COVERED record planned under another map issue becomes STALE (R52). -/
def Work.stale (w : Work) : Work :=
  w.putRecords (w.bands.records.map fun r =>
    match r.state with
    | .announced | .covered =>
      if r.issue = w.nozzle.issue then r else { r with state := .stale }
    | .printing | .stale => r)

/-! ### BAND orders (R44 to R46) -/

/-- The announced end of the current sheet (R44). -/
def State.announcedEnd (s : State) (sheetId : Nat) (isCurrent : Bool) : Nat :=
  match (s.recordsOf sheetId).getLast? with
  | some r => r.endLine
  | none => if isCurrent then s.bands.lastRetired else 0

/-- The print length of the sheet record (R63); 0 with no record. -/
def State.printLength (s : State) : Nat :=
  match s.feed.sheet with
  | some r => r.printLength
  | none => 0

/-- The feed position has passed a line of the current sheet (R44 step 7). -/
def State.linePassed (s : State) (line : Nat) : Bool :=
  match s.sheetBase with
  | some base => decide (base + 4 * line < s.feed.position)
  | none => false

/-- Steps 3 to 8 of R44: the outcome of the first test that fails. -/
def State.bandRefusal (s : State) (sheetId start length : Nat) : Option OutcomeCode :=
  let isCurrent := decide (s.takingSheet = some sheetId)
  let isNext := decide (s.nextSheet = some sheetId)
  if Config.queueSize ≤ s.bands.records.length then some .refusedFull
  else if !isCurrent && !isNext then some .refusedSequence
  else if length = 0 ∨ 256 < length then some .refusedRange
  else if start < s.announcedEnd sheetId isCurrent then some .refusedSequence
  else if isCurrent && s.linePassed start then some .refusedSequence
  else if isCurrent && decide (s.printLength < start + length) then some .refusedRange
  else none

/-- The record of the same sheet that follows a record in queue order (R46). -/
def State.nextStart (s : State) (r : BandRecord) : Option Nat :=
  ((s.bands.records.find? fun x => x.sheet = r.sheet ∧ r.start < x.start)).map BandRecord.start

/-- The tests of R46 on the replacement of a STALE record. -/
def State.replaceRefusal (s : State) (old : BandRecord) (length : Nat) : Option OutcomeCode :=
  if length = 0 ∨ 256 < length then some .refusedRange
  else if (match s.nextStart old with
      | some n => decide (n < old.start + length)
      | none => false) then some .refusedSequence
  else if s.currentSheet = some old.sheet ∧ s.printLength < old.start + length then
    some .refusedRange
  else none

/-- A drop count brought into its range (R45). -/
def clampDrops (d : Drops) : Drops := { d with count := Nat.min d.count Config.maxDrops }

/-- Some drop count is above its range (R45). -/
def dropsClamped (d : PerChannel Drops) : Bool :=
  Channel.all.any fun c => decide (Config.maxDrops < (d.get c).count)

/-- The record that a BAND order makes (R45): ANNOUNCED under the current map issue, else STALE, valued
under the settings in force. -/
def State.newRecord (s : State) (tag sheetId start length issue : Nat) (drops : PerChannel Drops) :
    BandRecord :=
  s.valued
    { tag := tag, sheet := sheetId, start := start, length := length, issue := issue
      drops := PerChannel.gen fun c => clampDrops (drops.get c)
      volume := PerChannel.fill 0
      state := if issue = s.nozzle.issue then .announced else .stale }

/-- A record placed after every record of its sheet, and ahead of the next sheet's when it is the current
sheet's (R45). -/
def State.placed (s : State) (r : BandRecord) : List BandRecord :=
  if s.currentSheet = some r.sheet then
    (s.bands.records.filter fun x => x.sheet = r.sheet) ++ r
      :: s.bands.records.filter fun x => x.sheet ≠ r.sheet
  else s.bands.records ++ [r]

/-- The outcome code of a taken order (R45, R156, R191). -/
def takenCode (clamped : Bool) : OutcomeCode :=
  if clamped then .acceptedClamped else .accepted

/-- A BAND order in RUN, from step 2 of R44 on. -/
def Work.takeBand (w : Work) (ref tag sheetId start length issue : Nat) (drops : PerChannel Drops) :
    Work :=
  let rec' := w.newRecord tag sheetId start length issue drops
  let code := takenCode (dropsClamped drops)
  match w.bands.records.find? fun r => r.tag = tag with
  | some old =>
    if old.state = .stale ∧ old.sheet = sheetId ∧ old.start = start then
      match w.replaceRefusal old length with
      | some refusal => w.outcome .band ref refusal
      | none =>
        (w.putRecords (w.bands.records.map fun x => if x = old then rec' else x)).outcome .band ref
          code
    else w.outcome .band ref .refusedDuplicate
  | none =>
    match w.bandRefusal sheetId start length with
    | some refusal => w.outcome .band ref refusal
    | none => (w.putRecords (w.placed rec')).outcome .band ref code

end Sys2Proof.Machine
end

