-- ==== Sys2Proof/Machine/Nozzles.lean ====
section
/-! DEFINITION. Nozzle health (chapter 7): reading a check group by group, the map issue, group states,
NOZZLE NOTICE contents, the recovery ladders, and the raising and withdrawing of RECOVERY. -/

namespace Sys2Proof.Machine

/-! ### RECOVERY requests (R144, R145) -/

/-- Some channel is due (R130). -/
def State.someDue (s : State) : Bool :=
  Channel.all.any fun c => (s.nozzle.ladders.get c).due

/-- RECOVERY is raised in RUN when armed, unblocked and some channel is due (R145). -/
def Work.raiseRecovery (w : Work) : Work :=
  if w.inRun && w.nozzle.armed && !w.nozzle.blocked && w.someDue then w.request .recovery else w

/-- A pending RECOVERY is withdrawn when the station is blocked or no channel is due (R145). -/
def Work.withdrawRecovery (w : Work) : Work :=
  if w.service.pending.get .recovery && (w.nozzle.blocked || !w.someDue) then
    w.withdraw .recovery
  else w

/-- The two tests of R144 on one channel's ladder: with no failed nozzle in its affected groups a due
ladder returns to level 0; at level 3 or 4 with the channel STARVED or LOCKED it is exhausted. -/
def State.screenedLadder (s : State) (c : Channel) : Ladder :=
  let l := s.nozzle.ladders.get c
  if !l.due then l
  else if !s.ladderHasFailed l then { l with level := 0, affected := [] }
  else if decide (3 ≤ l.level) && s.refillMarked c then { l with exhausted := true }
  else l

/-- The ladders take new values: a pending RECOVERY with no channel left due is withdrawn, and the pending
purges, which the effective classes read, may have changed (R25, R107, R145). -/
def Work.putLadders (w : Work) (l : PerChannel Ladder) : Work :=
  ({ w with nozzle := { w.nozzle with ladders := l }, classes := true } : Work).withdrawRecovery

/-- The tests of R144 on every channel. -/
def Work.screenRecovery (w : Work) : Work := w.putLadders (PerChannel.gen w.screenedLadder)

/-- A channel whose refill record stood as `before`: where its STARVED or LOCKED mark has changed, the tests
of R144 are made at once if the channel is due at level 3 or 4 (R145). They are made on every channel, and
also where no RECOVERY is pending (DESIGN CHOICE, notes/assumptions/36.md). -/
def Work.marksChanged (w : Work) (c : Channel) (before : RefillChannel) : Work :=
  let changed := decide (before.starvedMark ≠ (w.refill.get c).starvedMark)
    || decide (before.lockedMark ≠ (w.refill.get c).lockedMark)
  if changed && (w.nozzle.ladders.get c).due && decide (3 ≤ (w.nozzle.ladders.get c).level) then
    w.screenRecovery
  else w

/-! ### One group of a check (R131 to R133) -/

/-- What a check event has changed so far: the nozzle state, the entries added and removed, and the group
of the first nozzle that a full list refused. -/
structure CheckWork where
  nozzle : Nozzle
  added : List FailedNozzle
  removed : List FailedNozzle
  refused : Option Nat

/-- The place of an entry in (channel, nozzle) order (R130). -/
def FailedNozzle.rank (f : FailedNozzle) : Nat := f.channel.num * 6144 + f.nozzle

/-- The failed list with an entry in its place (R132). -/
def insertFailed (f : FailedNozzle) : List FailedNozzle → List FailedNozzle
  | [] => [f]
  | g :: gs =>
    if f.rank < g.rank then f :: g :: gs
    else if f.rank = g.rank then g :: gs
    else g :: insertFailed f gs

/-- The missed set of a RESULT: the nozzles of the group that it names, each once (R131). -/
def missedSet (gi : Nat) (named : List Nat) : List Nat :=
  sortNums (named.filter fun n => n / Config.groupNozzles = gi)

/-- Confirmation of one missed suspect (R132 step 2). -/
def CheckWork.confirm (k : CheckWork) (c : Channel) (g gi n : Nat) : CheckWork :=
  if k.nozzle.failed.length < Config.failedListSize then
    let f : FailedNozzle := { channel := c, nozzle := n }
    { k with
      nozzle := { k.nozzle with
        failed := insertFailed f k.nozzle.failed
        groups := k.nozzle.groups.set c ((k.nozzle.groups.get c).modify gi fun grp =>
          { grp with suspects := grp.suspects.filter (· ≠ n) }) }
      added := k.added ++ [f] }
  else { k with refused := match k.refused with
    | some r => some r
    | none => some g }

/-- The history ring with a missed count appended (R132 step 1). -/
def pushRing (ring : List Nat) (n : Nat) : List Nat :=
  if ring.length < 4 then ring ++ [n] else ring.tail ++ [n]

/-- Steps 1 and 3 to 6 on the group's own record, given the suspects it had before step 2 and whether a
nozzle is failed after it (R132, R133). -/
def Group.afterCheck (grp : Group) (before missed : List Nat) (failedNow : List Nat) : Group :=
  let joined := missed.foldl
    (fun acc n => if n ∈ before ∨ n ∈ failedNow then acc else insertNum n acc) grp.suspects
  { grp with
    ring := pushRing grp.ring missed.length
    suspects := joined.filter (· ∈ missed)
    span := grp.bands
    spanOver := grp.bandsOver
    bands := if missed.isEmpty then 0 else grp.bands
    bandsOver := if missed.isEmpty then false else grp.bandsOver }

/-- The entries of one group in a failed list. -/
def failedOf (l : List FailedNozzle) (c : Channel) (gi : Nat) : List FailedNozzle :=
  l.filter fun f => decide (f.channel = c) && decide (f.nozzle / Config.groupNozzles = gi)

/-- One group with a RESULT, through steps 1 to 6 (R132, R133). -/
def CheckWork.group (k : CheckWork) (result : Nat × List Nat) : CheckWork :=
  let g := result.1
  match Channel.ofNum (g / Config.groupsPerChannel) with
  | none => k
  | some c =>
    let gi := g % Config.groupsPerChannel
    let missed := missedSet gi result.2
    match (k.nozzle.groups.get c)[gi]? with
    | none => k
    | some grp =>
      let before := grp.suspects
      let k1 := (missed.filter (· ∈ before)).foldl (fun k n => k.confirm c g gi n) k
      let failedNow := (failedOf k1.nozzle.failed c gi).map FailedNozzle.nozzle
      let gone := (failedOf k1.nozzle.failed c gi).filter fun f => f.nozzle ∉ missed
      { k1 with
        nozzle := { k1.nozzle with
          failed := k1.nozzle.failed.filter fun f => f ∉ gone
          groups := k1.nozzle.groups.set c ((k1.nozzle.groups.get c).modify gi fun x =>
            x.afterCheck before missed failedNow) }
        removed := k1.removed ++ gone }

/-! ### Group states (R136, R137) -/

/-- The block numbers (0–47) of the columns of a channel that have lost both nozzles (R136). -/
def lostBlocks (failed : List FailedNozzle) (c : Channel) : List Nat :=
  (failed.filter fun f =>
    decide (f.channel = c) && decide (f.nozzle < Config.rowNozzles)
      && failed.any fun p =>
        decide (p.channel = c) && decide (p.nozzle = f.nozzle + Config.rowNozzles)).map
    fun f => f.nozzle / Config.groupNozzles

/-- The state of one group (R136). -/
def groupState (failed : List FailedNozzle) (lost : List Nat) (c : Channel) (gi : Nat) (g : Group) :
    GroupState :=
  if gi % Config.spitBlocks ∈ lost then .uncovered
  else if !g.suspects.isEmpty || !(failedOf failed c gi).isEmpty then .weak
  else .healthy

/-- The states of a run of groups worked out anew, the first of them numbered `gi`. -/
def restate (failed : List FailedNozzle) (lost : List Nat) (c : Channel) :
    Nat → List Group → List Group
  | _, [] => []
  | gi, g :: gs =>
    { g with state := groupState failed lost c gi g } :: restate failed lost c (gi + 1) gs

/-- Every group state worked out anew (R136). -/
def Nozzle.restated (n : Nozzle) : Nozzle :=
  { n with groups := PerChannel.gen fun c =>
      restate n.failed (lostBlocks n.failed c) c 0 (n.groups.get c) }

/-- The lowest-numbered UNCOVERED group of an enabled channel (R137). -/
def State.firstUncovered (s : State) : Option Nat :=
  Channel.all.findSome? fun c =>
    if s.enabled c then
      ((s.nozzle.groups.get c).findIdx? fun g => g.state = .uncovered).map fun gi =>
        c.num * Config.groupsPerChannel + gi
    else none

/-- COLUMN UNCOVERED is raised when the event takes the UNCOVERED groups of enabled channels from none to
some (R137, R150). -/
def Work.raiseUncovered (w : Work) (before : Bool) : Work :=
  match w.firstUncovered with
  | some g => if before then w else w.raise .columnUncovered (.group g)
  | none => w

/-! ### Notices (R138 to R140) -/

/-- The union of two rising lists less the numbers of a third (R139). -/
def mergeNozzles (a notIn b notIn' : List Nat) : List Nat :=
  sortNums (a.filter (· ∉ notIn) ++ b.filter (· ∉ notIn'))

/-- A pending notice merged with a later one of its group (R139). -/
def Notice.merge (old new : Notice) : Notice :=
  let past := old.spanOver || new.spanOver
  { issue := new.issue
    group := old.group
    added := mergeNozzles old.added new.removed new.added old.removed
    removed := mergeNozzles old.removed new.added new.removed old.added
    span := if past then 15 else Nat.max old.span new.span
    spanOver := past }

/-- A notice joins the pending list (R139). -/
def joinNotice (l : List Notice) (n : Notice) : List Notice :=
  if l.any fun m => m.group = n.group then
    l.map fun m => if m.group = n.group then m.merge n else m
  else l ++ [n]

/-- The station group number of an entry (R129). -/
def FailedNozzle.group (f : FailedNozzle) : Nat :=
  f.channel.num * Config.groupsPerChannel + f.nozzle / Config.groupNozzles

/-- The nozzles of a group among entries, ascending. -/
def nozzlesIn (l : List FailedNozzle) (g : Nat) : List Nat :=
  sortNums ((l.filter fun f => f.group = g).map FailedNozzle.nozzle)

/-- The span read of a group and its overflow flag (R133). -/
def Nozzle.spanRead (n : Nozzle) (g : Nat) : Nat × Bool :=
  match Channel.ofNum (g / Config.groupsPerChannel) with
  | none => (0, false)
  | some c => match (n.groups.get c)[g % Config.groupsPerChannel]? with
    | some grp => (grp.span, grp.spanOver)
    | none => (0, false)

/-- The notices of a check event, one per changed group, in ascending group number (R139). -/
def CheckWork.notices (k : CheckWork) : List Notice :=
  (sortNums ((k.added ++ k.removed).map FailedNozzle.group)).map fun g =>
    { issue := k.nozzle.issue, group := g, added := nozzlesIn k.added g,
      removed := nozzlesIn k.removed g, span := (k.nozzle.spanRead g).1,
      spanOver := (k.nozzle.spanRead g).2 }

/-- The NOZZLE NOTICE slot, while it holds no unsent content, is loaded with the first pending notice
(R140). -/
def Work.loadNotice (w : Work) : Work :=
  match w.link.nozzleSlot, w.nozzle.notices with
  | none, n :: rest =>
    { w with
      link := { w.link with nozzleSlot := some n }
      nozzle := { w.nozzle with notices := rest } }
  | _, _ => w

/-! ### Ladders (R142, R143, R147, R148) -/

/-- A group is persistently missing (R129). -/
def Group.persistent (g : Group) : Bool :=
  decide (g.ring.length = 4) && g.ring.all fun n => decide (0 < n)

/-- The station numbers of the groups of a channel that satisfy a test. -/
def groupsWhere (c : Channel) (p : Group → Bool) : Nat → List Group → List Nat
  | _, [] => []
  | gi, g :: gs =>
    if p g then (c.num * Config.groupsPerChannel + gi) :: groupsWhere c p (gi + 1) gs
    else groupsWhere c p (gi + 1) gs

/-- The persistently missing groups of a channel. -/
def Nozzle.persistentGroups (n : Nozzle) (c : Channel) : List Nat :=
  groupsWhere c Group.persistent 0 (n.groups.get c)

/-- The groups of a channel whose state is not HEALTHY. -/
def Nozzle.unhealthyGroups (n : Nozzle) (c : Channel) : List Nat :=
  groupsWhere c (fun g => decide (g.state ≠ .healthy)) 0 (n.groups.get c)

/-- The groups of a channel into which an event added nozzles. -/
def addedGroups (added : List FailedNozzle) (c : Channel) : List Nat :=
  sortNums ((added.filter fun f => f.channel = c).map FailedNozzle.group)

/-- A channel's ladder after a check event that added nozzles (R142, R143). -/
def Nozzle.ladderAfterCheck (n : Nozzle) (added : List FailedNozzle) (enabled : Bool)
    (c : Channel) : Ladder :=
  let l := n.ladders.get c
  let gs := addedGroups added c
  if !enabled || gs.isEmpty || l.exhausted then l
  else if l.level = 0 then
    if n.armed then
      { l with level := 1, affected := sortNums (gs ++ n.persistentGroups c) }
    else l
  else { l with affected := sortNums (l.affected ++ gs) }

/-- The ladder of a channel whose RECOVERY has just been checked (R147, R148). -/
def State.judgedLadder (s : State) (c : Channel) : Ladder :=
  let l := s.nozzle.ladders.get c
  if !l.inService then l
  else if !s.ladderHasFailed l then
    { l with level := 0, affected := [], inService := false }
  else if 4 ≤ l.level then { l with exhausted := true, inService := false }
  else if decide (l.level = 2) && s.refillMarked c then
    { l with exhausted := true, inService := false }
  else
    { l with
      level := l.level + 1
      inService := false
      affected := sortNums
        ((l.affected.filter fun g => g ∈ s.nozzle.unhealthyGroups c)
          ++ s.nozzle.persistentGroups c) }

/-! ### The check event whole (R131) -/

/-- A CHECK's results reach nozzle health, one event: the groups in ascending number, the map issue, the
group states, the notices and the ladders, in that order (R131, R135, R137, R139, R142, R147). `served` is
the channel of the RECOVERY sequence that the CHECK ends, if it ends one. -/
def Work.checkEvent (w : Work) (results : List (Nat × List Nat)) (served : Option Channel) : Work :=
  let uncoveredBefore := w.anyUncovered
  let k0 : CheckWork := { nozzle := w.nozzle, added := [], removed := [], refused := none }
  let k1 := results.foldl CheckWork.group k0
  let changed := !k1.added.isEmpty || !k1.removed.isEmpty
  let issue := if changed then (k1.nozzle.issue + 1) % 256 else k1.nozzle.issue
  let n2 := ({ k1.nozzle with issue := issue } : Nozzle).restated
  let k2 : CheckWork := { k1 with nozzle := n2 }
  let notices := if changed then k2.notices.foldl joinNotice n2.notices else n2.notices
  let ladders := PerChannel.gen fun c => n2.ladderAfterCheck k1.added (w.enabled c) c
  let w1 : Work :=
    { w with
      nozzle := { n2 with notices := notices, ladders := ladders }
      cover := true }
  let w2 := match k1.refused with
    | some g => w1.raise .nozzleListFull (.group g)
    | none => w1
  let w3 := if changed then w2.stale else w2
  let w4 := w3.raiseUncovered uncoveredBefore
  let w4 := if changed then w4.loadNotice else w4
  let w5 := match served with
    | some c =>
      { w4 with nozzle := { w4.nozzle with ladders := w4.nozzle.ladders.set c (w4.judgedLadder c) } }
    | none => w4
  w5.raiseRecovery.withdrawRecovery

/-- The ladder part of a CLEAR (R149): the named ladders return to 0. -/
def Work.clearLadders (w : Work) (set : ChannelSet) : Work :=
  w.putLadders (PerChannel.gen fun c =>
    if set.get c then Ladder.reset else w.nozzle.ladders.get c)

/-- What a START does at nozzle health (R150): the armed flag, the ladders of disabled channels, the report
to coverage, RECOVERY. -/
def Work.startNozzle (w : Work) (uncoveredBefore : Bool) : Work :=
  (({ w with
    nozzle := { w.nozzle with
      armed := w.sec3.autoRecovery
      ladders := PerChannel.gen fun c =>
        if w.enabled c then w.nozzle.ladders.get c else Ladder.reset }
    cover := true } : Work).raiseUncovered uncoveredBefore).raiseRecovery

end Sys2Proof.Machine
end

