-- ==== Sys2Proof/Machine/Refill.lean ====
section
/-! DEFINITION. Refill control (chapter 2): the holds, flow windows and starvation, leaks and overfill, the
CLEAR parts it owns, and the class and valve tests made at the end of an event. -/

namespace Sys2Proof.Machine

/-! ### Entering and leaving HELD (R36, R37) -/

/-- A channel enters HELD (R36). -/
def RefillChannel.hold (x : RefillChannel) : RefillChannel :=
  match x.state with
  | .held => x
  | _ => { x with state := .held, window := none, backoff := none, waited := 0 }

/-- Every channel of the station enters HELD (R36). -/
def Work.holdRefill (w : Work) : Work :=
  { w with
    refill := PerChannel.gen fun c => (w.refill.get c).hold
    classes := true }

/-- Where a channel goes when its hold ends: by its marks (R37). -/
def RefillChannel.released (x : RefillChannel) : RefillChannel :=
  match x.state with
  | .held =>
    { x with
      state := if x.lockedMark then .locked else if x.starvedMark then .starved else .idle }
  | _ => x

/-- The enabled channels leave HELD when the station is in RUN and no purge is running (R37). -/
def Work.releaseRefill (w : Work) : Work :=
  if w.inRun && !w.purgeRunning then
    { w with
      refill := PerChannel.gen fun c =>
        if w.enabled c then (w.refill.get c).released else w.refill.get c
      classes := true }
  else w

/-! ### Marks and pulses (R31, R32, R35) -/

/-- The FULL mark of a channel has turned WET: an OPEN valve closes (R31). -/
def RefillChannel.fullWet (x : RefillChannel) : RefillChannel :=
  match x.state with
  | .opened => { x with state := .idle, waited := 0, window := none }
  | _ => x

/-- A channel locked out by its LOCKED mark (R34, R35): HELD keeps its state, and every other state becomes
LOCKED with its valve closed. -/
def RefillChannel.lock (x : RefillChannel) : RefillChannel :=
  match x.state with
  | .held => { x with lockedMark := true }
  | .locked => { x with lockedMark := true }
  | _ =>
    { x with lockedMark := true, state := .locked, waited := 0, window := none, backoff := none }

/-- A leak pulse counted (R35): it starts a window or counts in the running one. The count stops at 256,
the end of its range (notes/assumptions/19.md). -/
def RefillChannel.leakPulse (x : RefillChannel) : RefillChannel :=
  match x.leakWindow with
  | none => { x with leakWindow := some Config.leakWindowTicks, leakCount := 1 }
  | some _ => { x with leakCount := Nat.min 256 (x.leakCount + 1) }

/-- A pulse of a channel at refill control: counted in the open flow window (R32), or a leak pulse that may
exceed the limit in force (R35, R194). -/
def Work.countPulse (w : Work) (c : Channel) : Work :=
  let x := w.refill.get c
  match x.state with
  | .opened =>
    match x.window with
    | some f =>
      w.putRefill c { x with window := some { f with pulses := Nat.min 65535 (f.pulses + 1) } }
    | none => w
  | _ =>
    let x1 := x.leakPulse
    if w.mode.started && decide (w.sec1.leakLimit < x1.leakCount) then
      ((w.putRefill c { x1.lock with leakCount := 0, leakWindow := none }).raise .valveLeak
        (.channel c)).marksChanged c x
    else w.putRefill c x1

/-! ### Flow windows and starvation (R32, R33) -/

/-- The sample list with one more sample, eight at most (R32). -/
def pushSample (l : List Nat) (n : Nat) : List Nat :=
  if l.length < 8 then l ++ [n] else l.tail ++ [n]

/-- The rolling flow average (R32). -/
def rollingAverage (l : List Nat) : Nat := l.sum / l.length

/-- The flow window of an OPEN channel ends: the sample, the average, a new window, and starvation when
eight samples average below the threshold (R32, R33). -/
def Work.windowEnd (w : Work) (c : Channel) (f : FlowWindow) : Work :=
  let x := w.refill.get c
  let samples := pushSample x.samples f.pulses
  let avg := rollingAverage samples
  if samples.length = 8 ∧ avg < w.sec1.starveThreshold then
    ((w.putRefill c
      { x with
        samples := samples, average := avg, state := .starved, window := none, waited := 0,
        starvedMark := true }).raise .lineStarved (.channel c)).marksChanged c x
  else
    w.putRefill c
      { x with samples := samples, average := avg, window := some { elapsed := 0, pulses := 0 } }

/-! ### Overfill (R34) -/

/-- The overfill test of one channel after a change of its E (R34). -/
def Work.overfillTest (w : Work) (c : Channel) : Work :=
  let x := w.refill.get c
  if x.state = .opened ∧ (w.ink.get c).full.state ≠ .wet
      ∧ (w.ink.get c).estimate ≠ (w.pre.ink.get c).estimate
      ∧ w.overfillLevel c ≤ (w.ink.get c).estimate then
    ((w.putRefill c x.lock).raise .overfill (.channel c)).marksChanged c x
  else w

/-- The overfill test of every channel, in channel order. -/
def Work.overfillTests (w : Work) : Work :=
  Channel.all.foldl (fun w c => w.overfillTest c) w

/-! ### CLEAR at refill control (R38, R39) -/

/-- CLEAR line-starved on one channel (R38). -/
def RefillChannel.clearStarved (x : RefillChannel) : RefillChannel :=
  if x.starvedMark then
    match x.state with
    | .starved =>
      { x with starvedMark := false, state := if x.lockedMark then .locked else .idle }
    | _ => { x with starvedMark := false }
  else x

/-- The line-starved part of a CLEAR (R38). -/
def Work.clearStarved (w : Work) (set : ChannelSet) : Work :=
  let w1 : Work :=
    { w with
      refill := PerChannel.gen fun c =>
        if set.get c then (w.refill.get c).clearStarved else w.refill.get c
      classes := true }
  Channel.all.foldl (fun v c => v.marksChanged c (w.refill.get c)) w1

/-- CLEAR faults on one channel (R39). -/
def RefillChannel.clearLocked (x : RefillChannel) : RefillChannel :=
  match x.state with
  | .locked =>
    { x with
      lockedMark := false, leakCount := 0, leakWindow := none
      state := if x.starvedMark then .starved else .idle }
  | _ => { x with lockedMark := false, leakCount := 0, leakWindow := none }

/-- The LOCKED marks of every channel clear (R39). -/
def Work.clearLocked (w : Work) : Work :=
  let w1 : Work :=
    { w with refill := PerChannel.gen fun c => (w.refill.get c).clearLocked, classes := true }
  Channel.all.foldl (fun v c => v.marksChanged c (w.refill.get c)) w1

/-! ### The tests at the end of an event (R24, R25, R27 to R29) -/

/-- The valve opens (R28). The rolling flow average keeps the value of the previous opening until the first
sample: R23 gives none for an empty sample list (DESIGN CHOICE, notes/assumptions/34.md). -/
def RefillChannel.openValve (x : RefillChannel) : RefillChannel :=
  { x with
    state := .opened, samples := [], window := some { elapsed := 0, pulses := 0 }
    leakCount := 0, leakWindow := none }

/-- The back-off time of the station (R29). -/
def State.backoffTime (s : State) : Nat := 50 * (s.mode.station.val + 1)

/-- The valve closes for the rank rule (R29). -/
def RefillChannel.backOff (x : RefillChannel) (t : Nat) : RefillChannel :=
  { x with state := .backoff, backoff := some t, window := none }

/-- A channel in WANT: the opening test of R28. -/
def Work.tryOpen (w : Work) (c : Channel) (x : RefillChannel) : RefillChannel :=
  if w.openingTest c x.effective then x.openValve else x

/-- What the tests of R27 to R29 make of a channel whose class has been worked out; `fresh` says that its
class or FULL mark has changed or that it has entered its state in this event. -/
def Work.valveTests (w : Work) (c : Channel) (fresh : Bool) (x : RefillChannel) : RefillChannel :=
  match x.state with
  | .idle =>
    if fresh && w.enabled c && decide (1 ≤ x.effective)
        && decide ((w.ink.get c).full.state = .dry) then
      w.tryOpen c { x with state := .want }
    else x
  | .want =>
    if x.effective = 0 ∨ (w.ink.get c).full.state = .wet then { x with state := .idle, waited := 0 }
    else if fresh || w.peersHeard then w.tryOpen c x
    else x
  | .opened =>
    if (fresh || w.peersHeard) && decide (w.sec1.budget.get c ≤ w.rank c x.effective) then
      x.backOff w.backoffTime
    else x
  | _ => x

/-- The FULL mark's debounced state has changed in this event; the first settling is no change (R3). -/
def Work.fullChanged (w : Work) (c : Channel) : Bool :=
  decide ((w.ink.get c).full.state ≠ (w.pre.ink.get c).full.state)
    && decide ((w.pre.ink.get c).full.state ≠ .settling)

/-- A channel at the end of an event: its classes worked out anew, the tests that their change calls for,
and the effective class as those tests leave it (R24, R25, R27 to R29). -/
def Work.settledChannel (w : Work) (c : Channel) : RefillChannel :=
  let x := w.refill.get c
  let d := w.deficitClass c
  let e := w.effectiveClass c d x.waited
  let fresh := decide (e ≠ x.effective) || w.fullChanged c
    || decide (x.state ≠ (w.pre.refill.get c).state)
  let y := w.valveTests c fresh { x with deficit := d, effective := e }
  { y with effective := w.effectiveClass c d y.waited }

/-- The end-of-event work of refill control, when the event called for it. -/
def Work.refillStage (w : Work) : Work :=
  { w with
    refill := if w.classes || w.peersHeard then PerChannel.gen w.settledChannel else w.refill }

/-! ### Timers (R30, R35) -/

/-- The back-off time of a channel has ended (R30): WANT where it still needs ink and its FULL mark is DRY,
otherwise IDLE. -/
def Work.backoffOver (w : Work) (c : Channel) : Work :=
  let x := w.refill.get c
  if 1 ≤ x.effective ∧ (w.ink.get c).full.state = .dry then
    w.putRefill c { x with state := .want, backoff := none }
  else w.putRefill c { x with state := .idle, backoff := none, waited := 0 }

end Sys2Proof.Machine
end

