-- ==== Sys2Proof/Machine/Faults.lean ====
section
/-! DEFINITION. The fault unit (chapter 11): the active set and the blocks that act on it, taking the
faults of one event in priority order, the first-fault record, and what each removal takes out. -/

namespace Sys2Proof.Machine

/-- The faults that block recovery (R141). -/
def FaultCode.blocksRecovery : FaultCode → Bool
  | .serviceTimeout | .nozzleListFull => true
  | _ => false

/-- The active set with a fault entered, in code order (R200, R201). -/
def enterFault (f : FaultCode) (l : List FaultCode) : List FaultCode :=
  FaultCode.all.filter fun g => decide (g = f) || decide (g ∈ l)

/-- The active set takes a new content, which is handed to feed control and nozzle health (R204): the
block condition is worked out anew, and RECOVERY is withdrawn or raised at its change (R141, R145). -/
def Work.setActive (w : Work) (l : List FaultCode) : Work :=
  let b := l.any FaultCode.blocksRecovery
  let w1 : Work :=
    { w with
      faults := { w.faults with active := l }
      nozzle := { w.nozzle with blocked := b }
      drive := true }
  if b && !w.nozzle.blocked then w1.withdrawRecovery
  else if !b && w.nozzle.blocked then w1.raiseRecovery
  else w1

/-- The raises of an event with one more, in priority order, raises of one code in the order given
(R202). -/
def insertRaise (r : Raise) : List Raise → List Raise
  | [] => [r]
  | x :: xs => if r.code.num < x.code.num then r :: x :: xs else x :: insertRaise r xs

/-- The raises of one event in the order the fault unit takes them (R202). -/
def priorityOrder (l : List Raise) : List Raise := l.foldl (fun acc r => insertRaise r acc) []

/-- Taking one raise: the count, and the record where it is empty (R201, R203). The record's tag is that
of the record PRINTING when the event began. -/
def Work.takeRaise (w : Work) (f : FaultUnit) (r : Raise) : FaultUnit :=
  { f with
    count := Nat.min 255 (f.count + 1)
    record := match f.record with
      | some x => some x
      | none => some
        { raise := r, sheet := w.feed.sheet.map SheetRecord.sheet, tag := w.pre.printingTag,
          position := w.feed.position } }

/-- The FAULT NOTICE slot is loaded with a raise; a frame of it on the line no longer empties the slot
(R175, R205). -/
def Work.loadFault (w : Work) (r : Raise) : Work :=
  { w with
    faults := { w.faults with notice := some r }
    link := { w.link with
      faultSlot := true
      tx := w.link.tx.map fun t =>
        if t.slot = .faultNotice then { t with replaced := true } else t } }

/-- The fault unit takes the faults of the event in priority order and loads the notice once (R201,
R202). -/
def Work.faultStage (w : Work) : Work :=
  match priorityOrder w.raised with
  | [] => w
  | r :: rs =>
    let f := (r :: rs).foldl w.takeRaise w.faults
    let active := (r :: rs).foldl (fun l x => enterFault x.code l) w.faults.active
    (({ w with faults := f } : Work).setActive active).loadFault r

/-- Whether a CLEAR faults keeps a fault in the active set (R207). -/
def State.keptAtClear (s : State) (f : FaultCode) : Bool :=
  match f with
  | .duplicateStation => true
  | .lineStarved => Channel.all.any fun c => (s.refill.get c).starvedMark
  | f => f.sheetStop

/-- The faults part of a CLEAR (R207): the record, the LOCKED marks, the stopped mark and its choice, the
active set. -/
def Work.clearFaultsPart (w : Work) : Work :=
  let w1 := ({ w with faults := { w.faults with record := none } } : Work).clearLocked
  let w2 : Work := { w1 with service := { w1.service with stopped := false }, boundary := true }
  w2.setActive (w2.faults.active.filter w2.keptAtClear)

/-- Every sheet-stop fault leaves the active set (R87, R208). -/
def Work.removeSheetStops (w : Work) : Work :=
  w.setActive (w.faults.active.filter fun f => !f.sheetStop)

end Sys2Proof.Machine
end

