-- ==== Sys2Proof/Machine/Service.lean ====
section
/-! DEFINITION. The service unit and its arbiter, and the keep-wet unit (chapters 5 and 6): the sled, the
head port, the routes of the actions, completion and failure, the choice at an action boundary, the
requests the two units raise, and missed spits. -/

namespace Sys2Proof.Machine

/-! ### The sled and the head port (R92, R94) -/

/-- The sled stands at a place, or that place's switch already reads closed (R92). -/
def State.sledThere (s : State) (p : SledPlace) : Bool :=
  decide (s.service.sled = .standing p) || decide (s.service.closed = some p)

/-- The sled is commanded to a place: it is there at once where its switch already reads closed (R92).
Otherwise the command itself leaves the sled position as it stands: it becomes MOVING when a departure is
reported. A sled that is UNKNOWN between switches thus stays UNKNOWN until a departure or the arrival is
reported, a case on which R92 is silent (DESIGN CHOICE, notes/assumptions/41.md). -/
def Work.commandSled (w : Work) (p : SledPlace) : Work :=
  if w.sledThere p then
    { w with service := { w.service with sled := .standing p, motion := none }, drive := true }
  else { w with service := { w.service with motion := some p }, drive := true }

/-- The current action with its stage replaced. -/
def Work.setStage (w : Work) (g : Stage) : Work :=
  { w with
    service := { w.service with current := w.service.current.map fun a => { a with stage := g } } }

/-- A request goes to the head driver under the next request number (R94; notes/assumptions/18.md). -/
def Work.sendHead (w : Work) (k : HeadKind) : Work :=
  let n := (w.service.requestNumber + 1) % 256
  ({ w with
    service := { w.service with requestNumber := n, head := some { number := n, kind := k } } } :
    Work).setStage .atHead

/-! ### Completion (R96 to R99) -/

/-- The action in progress ends: no action, no time limit, no head request, no motion. -/
def Work.endAction (w : Work) : Work :=
  { w with
    service := { w.service with current := none, timeLeft := none, head := none, motion := none }
    boundary := true, classes := true, drive := true }

/-- The stack with the completed action taken from its top sequence; a sequence with none left goes
(R106). -/
def popAction : List Sequence → List Sequence
  | [] => []
  | q :: qs =>
    match q.actions.tail with
    | [] => qs
    | acts => { q with actions := acts } :: qs

/-- The completed action leaves its sequence (R106). -/
def Work.popStack (w : Work) : Work :=
  { w with service := { w.service with stack := popAction w.service.stack } }

/-- The sequence that the action in progress is the last of, if it is the last of one. -/
def State.endingSequence (s : State) : Option Sequence :=
  match s.service.stack with
  | q :: _ => if q.actions.tail.isEmpty then some q else none
  | [] => none

/-- A spit has fired its block: the volumes are deducted and the pointer stands one beyond it (R97,
R120). -/
def Work.spitDone (w : Work) (a : CurrentAction) : Work :=
  let w1 := w.deductSpit a.volumes
  { w1 with keepWet := { w1.keepWet with pointer := (a.block + 1) % Config.spitBlocks } }

/-- A purge has completed: the volumes are deducted and the hold on refill ends (R99, R37). -/
def Work.purgeDone (w : Work) (set : ChannelSet) (volumes : PerChannel Nat) : Work :=
  (w.deductPurges set volumes).releaseRefill

/-- A forced check has completed (R123): the blocks under check whose groups were all handed with a RESULT
leave the dry-suspect set. -/
def Work.forcedDone (w : Work) (unchecked : List Nat) : Work :=
  let blocks := match w.keepWet.underCheck with
    | some l => l
    | none => []
  let left := w.keepWet.dry.filter fun b =>
    decide (b ∉ blocks) || unchecked.any fun g => decide (g % Config.spitBlocks = b)
  let w1 : Work :=
    { w with
      keepWet := { w.keepWet with
        dry := left, underCheck := none, forced := if left.isEmpty then false else w.keepWet.forced }
      drive := true }
  if left.isEmpty then w1 else w1.request .forcedCheck

/-- A CHECK has completed: its RESULTs go to nozzle health, and to the keep-wet unit for a forced check
(R98). `ended` is the sequence it ends. -/
def Work.checkDone (w : Work) (a : CurrentAction) (groups : List Nat) (ended : Option Sequence) :
    Work :=
  let unchecked := groups.filter fun g => !(a.results.any fun p => decide (p.1 = g))
  match ended with
  | some q =>
    match q.source with
    | .recovery => w.checkEvent a.results q.channel
    | .forcedCheck => (w.checkEvent a.results none).forcedDone unchecked
    | _ => w.checkEvent a.results none
  | none => w.checkEvent a.results none

/-- The action in progress completes (R96 to R99, R106). -/
def Work.complete (w : Work) : Work :=
  match w.service.current with
  | none => w
  | some a =>
    let ended := w.endingSequence
    let w1 := w.endAction
    match a.action with
    | .home => w1.setCapped false
    | .uncap => w1.popStack.setCapped false
    | .cap => w1.popStack.setCapped true
    | .gapSpit => (w1.popStack.setCapped false).spitDone a
    | .sheetSpit => w1.popStack.spitDone a
    | .wipe => w1.popStack.setCapped false
    | .check groups => (w1.popStack.setCapped false).checkDone a groups ended
    | .purge _ set => (w1.popStack.setCapped true).purgeDone set a.volumes

/-! ### The routes (R95, R96) -/

/-- The last leg of a route: the sled to PARK, where the action completes (R96). -/
def Work.goPark (w : Work) : Work :=
  let w1 := (w.setStage .inbound).commandSled .park
  if w.sledThere .park then w1.complete else w1

/-- The sled has reached the target commanded for the action in progress (R96). -/
def Work.reached (w : Work) : Work :=
  match w.service.current with
  | none => w
  | some a =>
    match a.stage with
    | .atHead => w
    | .inbound => w.complete
    | .outbound =>
      match a.action with
      | .home | .uncap | .cap => w.complete
      | .gapSpit => w.sendHead (.fire a.block (PerChannel.gen w.enabled) a.drops)
      | .wipe =>
        ({ w with service := { w.service with wiper := false } } : Work).goPark
      | .check groups => w.sendHead (.check groups)
      | .purge heavy set => w.sendHead (.purge heavy set)
      | .sheetSpit => w

/-- The sled is sent to the first target of a route and goes on at once where it stands there (R96). -/
def Work.firstLeg (w : Work) (p : SledPlace) : Work :=
  let w1 := w.commandSled p
  if w.sledThere p then w1.reached else w1

/-- The drops per nozzle fixed at the start of an action for each enabled channel (R7, R95). -/
def State.fixedDrops (s : State) (a : Action) : PerChannel Nat :=
  PerChannel.gen fun c =>
    if s.enabled c then
      match a with
      | .gapSpit => (s.settingsOf c).spitDrops
      | .sheetSpit => 1
      | _ => 0
    else 0

/-- The volumes fixed at the start of an action (R7, R8, R95). -/
def State.fixedVolumes (s : State) (a : Action) : PerChannel Nat :=
  match a with
  | .gapSpit | .sheetSpit => PerChannel.gen fun c => s.spitVolume ((s.fixedDrops a).get c) c
  | .purge heavy _ => PerChannel.gen fun c => s.purgeVolume heavy c
  | _ => PerChannel.fill 0

/-- An action starts (R95): its parameters are fixed, its time limit is loaded and its route begins. A
purge holds refill (R36, R99). -/
def Work.startAction (w : Work) (a : Action) : Work :=
  let w1 : Work :=
    { w with
      service := { w.service with
        current := some
          { action := a, stage := .outbound, block := w.keepWet.pointer,
            drops := w.fixedDrops a, volumes := w.fixedVolumes a, results := [] }
        timeLeft := some (w.timeLimit a)
        wiper := decide (a = .wipe) }
      classes := true }
  match a with
  | .home | .uncap => w1.firstLeg .park
  | .cap => w1.firstLeg .cap
  | .gapSpit | .wipe => w1.firstLeg .spit
  | .check _ => w1.firstLeg .detect
  | .purge _ _ => w1.holdRefill.firstLeg .cap
  | .sheetSpit =>
    w1.sendHead (.fire w.keepWet.pointer (PerChannel.gen w.enabled) (w.fixedDrops a))

/-! ### The choice at a boundary (R105, R106, R109) -/

/-- The action to start first where `a` is chosen: HOME, with the sled UNKNOWN (R95). -/
def State.homeFirst (s : State) (a : Action) : Bool :=
  a.moves && decide (s.service.sled = .unknown)

/-- A request's sequence is pushed onto the stack and its pending flag clears (R105 step 1). -/
def Work.push (w : Work) (src : Source) (acts : List Action) (ch : Option Channel) : Work :=
  { w with
    service := { w.service with
      pending := w.service.pending.set src false
      order := if src = .order then none else w.service.order
      stack := { source := src, level := w.sourceLevel src, actions := acts, channel := ch }
        :: w.service.stack } }

/-- What the start of a request does at its owner: the in-service mark of a RECOVERY's channel, with
RECOVERY raised again for another due channel (R145, R146), and the blocks under check (R121). -/
def Work.requestStarted (w : Work) (src : Source) (ch : Option Channel) : Work :=
  match src, ch with
  | .recovery, some c =>
    ({ w with
      nozzle := { w.nozzle with
        ladders := w.nozzle.ladders.set c { w.nozzle.ladders.get c with inService := true } } } :
      Work).raiseRecovery
  | .forcedCheck, _ => { w with keepWet := { w.keepWet with underCheck := some w.keepWet.dry } }
  | _, _ => w

/-- The chosen request starts, or HOME does (R95, R105). -/
def Work.beginSource (w : Work) (src : Source) : Work :=
  match w.requestActions src with
  | [] => w
  | a :: acts =>
    if w.homeFirst a then w.startAction .home
    else
      let ch := if src = .recovery then w.recoveryChannel else none
      ((w.push src (a :: acts) ch).requestStarted src ch).startAction a

/-- The top sequence's next action, where its needs hold (R105 step 2). -/
def State.topReady (s : State) : Option Action :=
  match s.service.stack with
  | [] => none
  | q :: _ =>
    match q.actions with
    | [] => none
    | a :: _ => if s.needsHold a then some a else none

/-- The top sequence's next action starts, or HOME does (R95, R105). -/
def Work.beginTop (w : Work) (a : Action) : Work :=
  if w.homeFirst a then w.startAction .home else w.startAction a

/-- The arbiter at an action boundary: UNCAP-NEED where R109 asks for it, the tests of R144 on a pending
RECOVERY, then the choice of R105. The tests of R144 are made at every boundary where an action may start, also
where the mask or the stack holds the RECOVERY back (DESIGN CHOICE, notes/assumptions/42.md). An action that
completes within its start makes another boundary, so the choice is made again; a run of such completions is
at most the home of the sled and the actions that need no motion, well below the bound `n`. -/
def Work.arbitrate : Nat → Work → Work
  | 0, w => w
  | n + 1, w =>
    let w1 := if w.uncapNeeded then w.request .uncapNeed else w
    if !w1.mayStart then w1
    else
      let w2 := if w1.service.pending.get .recovery then w1.screenRecovery else w1
      match w2.chosenSource with
      | some src => Work.arbitrate n (w2.beginSource src)
      | none =>
        match w2.topReady with
        | some a => Work.arbitrate n (w2.beginTop a)
        | none => w2

/-- An E of a channel listed by a pending purge has changed in this event (R105). -/
def Work.purgeInkMoved (w : Work) : Bool :=
  Channel.all.any fun c =>
    decide ((w.ink.get c).estimate ≠ (w.pre.ink.get c).estimate)
      && w.pendingPurges.any fun a => (purgeChannels a).get c

/-- The end-of-event work of the arbiter: the choice at a boundary (R105), and the cap idle count back to 0
where its conditions fail (R110). The conditions are read at the end of the event alone, so that an action
that starts and completes within one event leaves the count standing (DESIGN CHOICE,
notes/assumptions/35.md). -/
def Work.arbiterStage (w : Work) : Work :=
  if w.boundary || w.purgeInkMoved then
    let w1 := w.arbitrate 16
    if w1.idleUncapped then w1
    else { w1 with service := { w1.service with capIdle := 0 } }
  else w

/-! ### Failure (R100) -/

/-- The action in progress fails (R100). -/
def Work.fail (w : Work) : Work :=
  let purge := w.purgeRunning
  let w1 := w.endAction
  let w2 : Work :=
    { w1 with service := { w1.service with sled := .unknown, stopped := true } }
  let w3 := w2.raise .serviceTimeout .none
  if purge then w3.releaseRefill else w3

/-! ### Spits and the sheet (R108), idle capping (R110) -/

/-- The sheet-under-segment flag takes a value; a pending spit moves between its two sources at a change
(R108). -/
def Work.setUnder (w : Work) (b : Bool) : Work :=
  let w1 : Work := { w with feed := { w.feed with underSegment := b }, boundary := true }
  if w.feed.underSegment = b then w1
  else if b then
    if w.sheetSpitAllowed && w.service.pending.get .keepWet then
      (w1.withdraw .keepWet).request .sheetSpit
    else w1
  else if w.service.pending.get .sheetSpit then (w1.withdraw .sheetSpit).request .keepWet
  else w1

/-- CAP-IDLE is raised unless the sled stands at CAP with the head capped (R110). -/
def Work.raiseCapIdle (w : Work) : Work :=
  if w.notCappedHome then w.request .capIdle else w

/-! ### SERVICE orders (R111) -/

/-- An ORDER is in hand: pending, or on the stack (R111 step 3). -/
def State.orderInHand (s : State) : Bool :=
  s.service.pending.get .order || s.service.stack.any fun q => decide (q.source = .order)

/-- Steps 3 and 4 of R111 and the taking of the order: `fits` is the range test of step 4. -/
def Work.takeService (w : Work) (ref : Nat) (a : Action) (fits : Bool) : Work :=
  if w.orderInHand then w.outcome .service ref .refusedBusy
  else if !fits then w.outcome .service ref .refusedRange
  else
    (({ w with service := { w.service with order := some a } } : Work).request .order).outcome
      .service ref .accepted

/-- The range test on a CHECK list (R111 step 4). -/
def State.checkListFits (s : State) (groups : List Nat) : Bool :=
  decide (1 ≤ groups.length) && decide (groups.length ≤ 16)
    && groups.all fun g =>
      match Channel.ofNum (g / Config.groupsPerChannel) with
      | some c => s.enabled c
      | none => false

/-- The range test on a purge's channel set (R111 step 4). -/
def State.purgeSetFits (s : State) (set : ChannelSet) : Bool :=
  set.anySet && Channel.all.all fun c => !set.get c || s.enabled c

/-! ### The head driver's answers (R94) -/

/-- The results with one group's RESULT, in ascending group number, a second replacing the first (R94). -/
def insertResult (g : Nat) (missed : List Nat) : List (Nat × List Nat) → List (Nat × List Nat)
  | [] => [(g, missed)]
  | p :: ps =>
    if g < p.1 then (g, missed) :: p :: ps
    else if g = p.1 then (g, missed) :: ps
    else p :: insertResult g missed ps

/-- A RESULT of the head driver (R94): taken for a group of the outstanding CHECK with its number. -/
def Work.takeResult (w : Work) (number g : Nat) (missed : List Nat) : Work :=
  match w.service.head with
  | some h =>
    match h.kind with
    | .check groups =>
      if h.number = number ∧ g ∈ groups then
        { w with
          service := { w.service with
            current := w.service.current.map fun a =>
              { a with results := insertResult g missed a.results } } }
      else w
    | _ => w
  | none => w

/-- The DONE of the outstanding request: the action goes on to PARK, or completes (R96). A CHECK of the empty
group set, which R121 has complete with its DONE, completes at the arrival at PARK like every other, as R96
says (DESIGN CHOICE, notes/assumptions/43.md). -/
def Work.headAnswered (w : Work) : Work :=
  let w1 : Work := { w with service := { w.service with head := none } }
  match w.service.current with
  | none => w1
  | some a =>
    match a.action with
    | .gapSpit | .check _ => w1.goPark
    | .sheetSpit | .purge _ _ => w1.complete
    | _ => w1

/-! ### Keep-wet expiries (R117, R119) and START (R126) -/

/-- A missed expiry (R119). -/
def Work.missedExpiry (w : Work) : Work :=
  ({ w with
    keepWet := { w.keepWet with
      missed := Nat.min 255 (w.keepWet.missed + 1)
      dry := insertNum w.keepWet.pointer w.keepWet.dry
      pointer := (w.keepWet.pointer + 1) % Config.spitBlocks
      forced := true }
    drive := true } : Work).request .forcedCheck

/-- An expiry of the spit interval counter (R117). -/
def Work.expiry (w : Work) : Work :=
  let w1 : Work :=
    { w with keepWet := { w.keepWet with counter := some w.sec3.keepWetInterval } }
  if w.spitOutstanding then w1.missedExpiry
  else if w.feed.underSegment && w.sheetSpitAllowed then w1.request .sheetSpit
  else w1.request .keepWet

/-- The keep-wet unit at a START (R126). -/
def Work.startKeepWet (w : Work) : Work :=
  let owes := !w.keepWet.dry.isEmpty
  let w1 : Work :=
    { w with
      keepWet := { w.keepWet with
        counter := some w.sec3.keepWetInterval, cappedTicks := 0
        forced := w.keepWet.forced || owes } }
  if owes then w1.request .forcedCheck else w1

end Sys2Proof.Machine
end

