-- ==== Sys2Proof/Machine/Operands.lean ====
section
/-! DEFINITION. The operands of the orders as their owners take them: the ranges that a SETTINGS order and
the configuration sections are clamped to (R155, R192, R193), whether anything was clamped, and the tests
on marks. -/

namespace Sys2Proof.Machine

/-! ### Metering settings (R155, R156) -/

/-- A channel's settings brought into the ranges of R155 (R156). -/
def clampSettings (v : Settings) : Settings :=
  { v0 := clampTo 100 2000 v.v0
    v1 := clampTo 100 2000 v.v1
    v2 := clampTo 100 2000 v.v2
    v3 := clampTo 100 2000 v.v3
    spitDrops := clampTo 1 32 v.spitDrops
    lightPurge := clampTo 10000 2000000 v.lightPurge
    heavyPurge := clampTo 50000 5000000 v.heavyPurge
    refillMark := clampTo 0 67108863 v.refillMark
    reserve := clampTo 0 67108863 v.reserve }

/-- Every channel's settings brought into range (R156). -/
def clampAllSettings (t : PerChannel Settings) : PerChannel Settings :=
  PerChannel.gen fun c => clampSettings (t.get c)

/-! ### Configuration sections (R192, R193) -/

/-- A channel's reservoir brought into range (R192). -/
def clampReservoir (r : Reservoir) : Reservoir :=
  { capacity := clampTo 1000000 67108863 r.capacity
    lowLevel := clampTo 0 67108863 r.lowLevel
    fullLevel := clampTo 0 67108863 r.fullLevel
    tolerance := clampTo 0 1000000 r.tolerance
    credit := clampTo 100 100000 r.credit }

/-- Section 0 brought into range (R192). -/
def clampSection0 (x : Section0) : Section0 :=
  { enabled := x.enabled, reservoir := PerChannel.gen fun c => clampReservoir (x.reservoir.get c) }

/-- Section 1 brought into range (R192). -/
def clampSection1 (x : Section1) : Section1 :=
  { budget := PerChannel.gen fun c => clampTo 1 8 (x.budget.get c)
    starveThreshold := clampTo 1 255 x.starveThreshold
    leakLimit := clampTo 1 255 x.leakLimit
    statusPeriod := clampTo 5 100 x.statusPeriod
    controllerTimeout := clampTo 100 5000 x.controllerTimeout
    errorLimit := clampTo 1 1000 x.errorLimit }

/-- Section 2 brought into range (R193). -/
def clampSection2 (x : Section2) : Section2 :=
  { sensorDistance := clampTo 1 1048575 x.sensorDistance
    stopMargin := clampTo 0 4095 x.stopMargin
    skewLimit := clampTo 0 1023 x.skewLimit
    slipLimit := clampTo 1 65535 x.slipLimit
    vacuumTail := clampTo 0 1048575 x.vacuumTail
    highMark := clampTo 0 16 x.highMark
    lowMark := clampTo 0 16 x.lowMark }

/-- The action time limits brought into range (R193). -/
def clampLimits (x : TimeLimits) : TimeLimits :=
  { move := clampTo 100 65535 x.move
    spit := clampTo 100 65535 x.spit
    wipe := clampTo 100 65535 x.wipe
    check := clampTo 100 65535 x.check
    lightPurge := clampTo 100 65535 x.lightPurge
    heavyPurge := clampTo 100 65535 x.heavyPurge }

/-- The first part of section 3 brought into range (R193). -/
def clampSection3First (x : Section3First) : Section3First :=
  { x with
    keepWetInterval := clampTo 200 60000 x.keepWetInterval
    capIdleTime := clampTo 1000 600000 x.capIdleTime
    levels := PerSource.gen fun src => clampTo 0 7 (x.levels.get src)
    limits := clampLimits x.limits }

/-- Section 3 brought into range, its two parts together (R191, R193, R211). -/
def clampSection3 (x : Section3) : Section3 :=
  { first := clampSection3First x.first, initial := clampAllSettings x.initial }

/-! ### Tests on marks (R156, R191, R195) -/

/-- Step 3 of R191: for every channel, L_low is below L_full and L_full is not above C. -/
def marksFit (x : Section0) : Bool :=
  Channel.all.all fun c =>
    decide ((x.reservoir.get c).lowLevel < (x.reservoir.get c).fullLevel)
      && decide ((x.reservoir.get c).fullLevel ≤ (x.reservoir.get c).capacity)

/-- Every channel's refill mark is below its L_full under a section 0 (R156 step 2, R195 step 3). -/
def refillMarksFit (v : PerChannel Settings) (x : Section0) : Bool :=
  Channel.all.all fun c => decide ((v.get c).refillMark < (x.reservoir.get c).fullLevel)

end Sys2Proof.Machine
end

