-- ==== Sys2Proof/Machine/Tallies.lean ====
section
/-! DEFINITION. The tally unit (chapter 8): snapshots and the TALLY REPORT slot, full and limited closes,
peeks, the edge-triggered operations, and what a START loads. -/

namespace Sys2Proof.Machine

/-! ### Snapshots (R157) -/

/-- One channel of a snapshot. -/
def State.reportChannel (s : State) (c : Channel) : ReportChannel :=
  { tally := s.tally.channels.get c, estimate := (s.ink.get c).estimate,
    residue := (s.ink.get c).residue, settings := s.settingsOf c }

/-- A snapshot of the tally unit and of the metering state (R157). -/
def State.snapshot (s : State) (peek limited : Bool) : Report :=
  { peek := peek
    limited := limited
    leadingSeen := s.tally.leadingSeen
    trailingSeen := s.tally.trailingSeen
    issue := s.tally.inForce.issue
    startInPeriod := s.tally.startInPeriod
    missed := s.keepWet.missed
    channels := PerChannel.gen s.reportChannel }

/-- The TALLY REPORT slot is loaded with a snapshot, starting at part 0; a part on the line no longer
counts toward it (R158, R175). -/
def Work.loadReport (w : Work) (r : Report) : Work :=
  { w with
    link := { w.link with
      reportSlot := some { report := r, partsSent := 0 }
      tx := w.link.tx.map fun t =>
        if t.slot = .tallyReport then { t with replaced := true } else t } }

/-! ### Closes and peeks (R160 to R162) -/

/-- A channel's tallies at the opening of a period, from its estimate (R160). -/
def TallyChannel.openedAt (estimate : Nat) : TallyChannel :=
  { TallyChannel.reset with estimateOpen := estimate }

/-- A close, full or limited (R160). -/
def Work.closePeriod (w : Work) (limited : Bool) : Work :=
  let r := w.snapshot false limited
  ({ w with
    tally := { w.tally with
      channels := PerChannel.gen fun c => TallyChannel.openedAt (w.ink.get c).estimate
      leadingSeen := false, trailingSeen := false, startInPeriod := false, outstanding := true } } :
    Work).loadReport r

/-- The pending settings take force at a full close (R161); the classes and the waiting purges are read
anew. -/
def Work.settingsInForce (w : Work) : Work :=
  ({ w with
    tally := { w.tally with
      prior := w.tally.inForce
      inForce := { issue := (w.tally.inForce.issue + 1) % 256, values := w.tally.pendingCopy } }
    classes := true, boundary := true } : Work).revalue

/-- A full close (R160, R161). -/
def Work.fullClose (w : Work) : Work := (w.closePeriod false).settingsInForce

/-- A peek (R162). -/
def Work.peekPeriod (w : Work) (limited : Bool) : Work := w.loadReport (w.snapshot true limited)

/-! ### Sheet edges (R163, R164) -/

/-- The edge-triggered operation of one edge, by the first line of R164 that applies. -/
def Work.edgeOperation (w : Work) (close peek : Bool) : Work :=
  if !w.inRun || w.tally.outstanding then w
  else if close then w.closePeriod true
  else if peek then w.peekPeriod true
  else w

/-- The tally unit is told of a leading capture (R163, R164). -/
def Work.tallyLeading (w : Work) : Work :=
  ({ w with tally := { w.tally with leadingSeen := true } } : Work).edgeOperation
    w.sec3.leadingClose w.sec3.leadingPeek

/-- The tally unit is told of a trailing capture (R163, R164). -/
def Work.tallyTrailing (w : Work) : Work :=
  ({ w with tally := { w.tally with trailingSeen := true } } : Work).edgeOperation
    w.sec3.trailingClose w.sec3.trailingPeek

/-! ### START (R166) -/

/-- The tally unit at a START: the initial settings into all three copies under the next issue (R166). -/
def Tally.started (t : Tally) (initial : PerChannel Settings) : Tally :=
  let copy : SettingsCopy := { issue := (t.inForce.issue + 1) % 256, values := initial }
  { t with pendingCopy := initial, inForce := copy, prior := copy, startInPeriod := true }

end Sys2Proof.Machine
end

