-- ==== Sys2Proof/Machine/FeedOps.lean ====
section
/-! DEFINITION. Feed control's operations (chapter 4): changes of the sheet phase, taking and aborting a
sheet, position events, steps with their trim, the skew estimate, the slip test, and moves under FHOLD. -/

namespace Sys2Proof.Machine

/-! ### Sheet phase (R53, R75, R105, R110) -/

/-- What the arbiter and feed control do when the phase becomes `p` (R75, R110). -/
def Work.phaseEffects (w : Work) (p : Phase) : Work :=
  let lost := decide (w.link.controller.presence = .lost)
  match p with
  | .pending =>
    let w1 := w.withdraw .capIdle
    if lost then w1.raise .controllerSilent .none else w1
  | .none | .ended => if lost then w.raiseCapIdle else w
  | .active | .trailing => w

/-- The sheet phase becomes `p`: the guard line, the limit and the boundary are worked out anew (R53, R74,
R105), with the effects of R75 and R110 at a change. -/
def Work.setPhase (w : Work) (p : Phase) : Work :=
  let w1 : Work :=
    { w with feed := { w.feed with phase := p }, guardDue := true, boundary := true, drive := true }
  if w.feed.phase = p then w1 else w1.phaseEffects p

/-! ### Slip (R85) -/

/-- The difference of R85: steps issued since the capture less encoder counts since the capture. -/
def State.slipDifference (s : State) : Option Int :=
  match s.feed.capture, s.feed.stepsAtCapture with
  | some p, some n =>
    some (((s.feed.commanded : Int) - n) - ((s.feed.position : Int) - p))
  | _, _ => none

/-- The slip test, made until SLIP has been raised for the sheet (R85). With the commanded step count and the
position both at the end of the count, where R64 says that a roller driven on raises SLIP, the difference of R85
moves no further and nothing is raised (DESIGN CHOICE, notes/assumptions/44.md). -/
def Work.slipTest (w : Work) : Work :=
  match w.slipDifference with
  | none => w
  | some d =>
    if !w.feed.slipRaised && decide (w.sec2.slipLimit < d.natAbs) then
      ({ w with feed := { w.feed with slipRaised := true } } : Work).raise .slip .none
    else w

/-! ### Position events (R64, R81, R82) -/

/-- The position at which the sheet leaves the print line: the trailing capture plus D (R81). -/
def State.leavingPosition (s : State) : Option Nat :=
  s.feed.trailing.map fun t => t + s.sec2.sensorDistance

/-- The sheet comes under the segment at its base (R81). -/
def Work.underTest (w : Work) : Work :=
  if w.sheetAtSensor && decide (w.sheetBase = some w.feed.position) then w.setUnder true else w

/-- The sheet leaves the segment, and the phase becomes ENDED (R81). -/
def Work.leaveTest (w : Work) : Work :=
  if decide (w.feed.phase = .trailing) && decide (w.leavingPosition = some w.feed.position) then
    (w.setUnder false).setPhase .ended
  else w

/-- The vacuum zone turns off once the tail has passed (R82). -/
def Work.vacuumTest (w : Work) : Work :=
  match w.leavingPosition with
  | some p =>
    if p + w.sec2.vacuumTail = w.feed.position then
      { w with feed := { w.feed with vacuum := false } }
    else w
  | none => w

/-- A forward encoder count (R64): one position event. A count at the end of the range moves nothing, and
only the slip test sees it. -/
def Work.positionEvent (w : Work) : Work :=
  if w.feed.position < Config.maxPosition then
    let w1 : Work :=
      { w with feed := { w.feed with position := w.feed.position + 1 }, drive := true }
    w1.positionTests.underTest.leaveTest.vacuumTest.slipTest
  else ({ w with drive := true } : Work).slipTest

/-! ### Steps (R69, R70, R80) -/

/-- A step is issued to the roller (R64, R80): the commanded step count, and while PENDING the distance
fed with its late-edge test; then the slip test (R85). -/
def Work.issueStep (w : Work) : Work :=
  let pending := decide (w.feed.phase = .pending)
  let fed :=
    if pending then Nat.min Config.maxPosition (w.feed.fedPending + 1) else w.feed.fedPending
  let w1 : Work :=
    { w with
      feed := { w.feed with
        commanded := Nat.min Config.maxPosition (w.feed.commanded + 1), fedPending := fed }
      boundary := true, drive := true }
  let late := match w.feed.sheet with
    | some r => pending && !w.feed.edgeLateRaised && decide (r.leadLimit < fed)
    | none => false
  let w2 :=
    if late then
      ({ w1 with feed := { w1.feed with edgeLateRaised := true } } : Work).raise .edgeLate .none
    else w1
  w2.slipTest

/-- The move with its steps done, DONE at its distance (R69). -/
def Move.advanced (m : Move) (n : Nat) : Move :=
  { m with stepsDone := n, state := if n = m.distance then .done else m.state }

/-- A counted step has been issued (R69), and at a multiple of 16 below the distance the trim is spent
(R70): an extra step is owed, or a step is omitted. -/
def Work.countStep (w : Work) (m : Move) : Work :=
  let n := m.stepsDone + 1
  if n % 16 = 0 ∧ n < m.distance ∧ 0 < w.feed.trim then
    { w with feed := { w.feed with move := some (m.advanced n), extraOwed := true } }
  else if n % 16 = 0 ∧ n < m.distance ∧ w.feed.trim < 0 then
    { w with feed := { w.feed with move := some (m.advanced (n + 1)), trim := w.feed.trim + 1 } }
  else { w with feed := { w.feed with move := some (m.advanced n) } }

/-- A step due of a RUNNING move that the tests of R69 allow: an extra step where one is owed (R70), else a
counted one. -/
def Work.takeStep (w : Work) (m : Move) : Work :=
  if w.feed.extraOwed then
    ({ w with feed := { w.feed with extraOwed := false, trim := w.feed.trim - 1 } } :
      Work).issueStep
  else (w.countStep m).issueStep

/-! ### Moves under FHOLD (R77) -/

/-- The current move with one state turned into another (R77). -/
def Work.turnMove (w : Work) (old new : MoveState) : Work :=
  { w with
    feed := { w.feed with
      move := w.feed.move.map fun m => if m.state = old then { m with state := new } else m }
    drive := true }

/-- The move state becomes IDLE, whatever it was, with the move id kept (R89). -/
def Move.idled (m : Move) : Move := { m with state := .idle }

/-- A move in progress ends: its state becomes IDLE with the move id kept (R87). -/
def Move.ended (m : Move) : Move :=
  match m.state with
  | .running | .held => m.idled
  | .idle | .done => m

/-- Whether the move of a FEED order starts under a readiness hold (R76 condition 4). -/
def State.startsUnready (s : State) (eject : Bool) : Bool :=
  !eject && s.inActiveSet && s.sheetInProgress && !s.ready

/-- A FEED order taken (R68): the move starts RUNNING, or HELD where FHOLD is driven for it or already
reads asserted (R76, R77). -/
def Work.takeFeed (w : Work) (moveId distance speed : Nat) (eject : Bool) : Work :=
  let w1 : Work :=
    { w with
      feed := { w.feed with
        move := some
          { id := moveId, distance := distance, speed := speed, eject := eject, stepsDone := 0,
            state := .running }
        readinessHold := w.startsUnready eject }
      drive := true }
  if w1.fholdWanted || w1.feed.fholdLine then w1.turnMove .running .held else w1

/-! ### Sheets (R65, R66, R87) -/

/-- Step 3 of R65. -/
def State.sheetFits (s : State) (active : StationSet) (printLength leadLimit : Nat) : Bool :=
  active.anySet && decide (1 ≤ printLength) && decide (printLength ≤ 4194303)
    && decide (1 ≤ leadLimit) && decide (leadLimit ≤ Config.maxPosition)
    && decide (leadLimit + s.sec2.sensorDistance + 4 * printLength ≤ Config.maxPosition)

/-- The outcome of the first test of R65 that fails, after the mode test. -/
def State.sheetRefusal (s : State) (active : StationSet) (printLength leadLimit : Nat) :
    Option OutcomeCode :=
  if !s.betweenSheets || s.moveInProgress then some .refusedBusy
  else if !s.sheetFits active printLength leadLimit then some .refusedRange
  else none

/-- Feed control's captures, skew and trim with nothing captured (R66, R87). -/
def Feed.uncaptured (f : Feed) : Feed :=
  { f with
    capture := none, stepsAtCapture := none, trailing := none, skew := none, skewWindow := none,
    trim := 0, extraOwed := false, vacuum := false }

/-- Taking a SHEET order (R66, R56). -/
def Work.takeSheet (w : Work) (r : SheetRecord) : Work :=
  let w1 := (w.sheetQueue r.sheet r.printLength).setUnder false
  let w2 : Work :=
    { w1 with
      feed := { w1.feed.uncaptured with
        sheet := some r, position := 0, commanded := 0, fedPending := 0
        edgeLateRaised := false, slipRaised := false }
      cover := true, guardDue := true, boundary := true, drive := true }
  if r.active.get w2.mode.station then
    let w3 := w2.setPhase .pending
    if w3.service.capped then w3.request .uncapNeed else w3
  else w2.setPhase .ended

/-- Step 2 of R87. -/
def State.abortFits (s : State) (sheetId : Nat) : Bool :=
  decide (s.feed.phase = .none) || decide (s.feed.sheet.map SheetRecord.sheet = some sheetId)

/-- Taking an ABORT SHEET order (R87, R57). -/
def Work.takeAbort (w : Work) : Work :=
  let w1 := w.removeCurrent.setUnder false
  let w2 : Work :=
    { w1 with
      feed := { w1.feed.uncaptured with move := w1.feed.move.map Move.ended }
      cover := true, guardDue := true, drive := true }
  (w2.setPhase .none).removeSheetStops

/-! ### Edges and skew (R78, R79, R83, R84) -/

/-- The station number one below, where there is one (R83). -/
def leftOf (n : StationNo) : Option StationNo :=
  if n.val = 0 then none else some (n - 1)

/-- The station number one above, where there is one (R83). -/
def rightOf (n : StationNo) : Option StationNo :=
  if n.val = 7 then none else some (n + 1)

/-- A station number as a neighbour: it is one while it is in the active set (R83). -/
def State.neighbour (s : State) (n : Option StationNo) : Option StationNo :=
  match n, s.feed.sheet with
  | some m, some r => if r.active.get m then some m else none
  | _, _ => none

/-- A neighbour's capture, where it is available (R83). -/
def State.captureFrom (s : State) (n : Option StationNo) : Option Nat :=
  match s.neighbour n, s.feed.sheet with
  | some m, some r =>
    match (s.link.peers.get m).presence, (s.link.peers.get m).fields with
    | .present, some f => if f.sheet = some r.sheet then f.capture else none
    | _, _ => none
  | _, _ => none

/-- The captures of all neighbours are available (R83). -/
def State.capturesIn (s : State) : Bool :=
  (s.neighbour (leftOf s.mode.station)).isNone ==
      (s.captureFrom (leftOf s.mode.station)).isNone
    && (s.neighbour (rightOf s.mode.station)).isNone ==
      (s.captureFrom (rightOf s.mode.station)).isNone

/-- The skew estimate for an own capture and the captures available (R84). -/
def skewOf (a : Nat) : Option Nat → Option Nat → Int
  | some b, some c => (2 * (a : Int) - b - c).tdiv 2
  | some b, none => (a : Int) - b
  | none, some c => (a : Int) - c
  | none, none => 0

/-- The skew estimate is worked out: it sets the trim or raises SKEW (R84). -/
def Work.estimateSkew (w : Work) : Work :=
  match w.feed.capture with
  | none => w
  | some a =>
    let d := skewOf a (w.captureFrom (leftOf w.mode.station)) (w.captureFrom (rightOf w.mode.station))
    if w.sec2.skewLimit < d.natAbs then
      ({ w with feed := { w.feed with skew := some d, skewWindow := none } } : Work).raise .skew
        .none
    else { w with feed := { w.feed with skew := some d, skewWindow := none, trim := -d } }

/-- The estimate is made where every neighbour's capture is available and the window runs (R83). -/
def Work.skewTest (w : Work) : Work :=
  if w.feed.skewWindow.isSome && w.capturesIn then w.estimateSkew else w

/-- The leading edge (R78). -/
def Work.takeLeading (w : Work) : Work :=
  let w1 : Work :=
    { w with
      feed := { w.feed with
        capture := some w.feed.position, stepsAtCapture := some w.feed.commanded, vacuum := true
        skewWindow := some (2 * w.sec1.statusPeriod) } }
  ((w1.setPhase .active).skewTest).tallyLeading

/-- The trailing edge (R79). -/
def Work.takeTrailing (w : Work) : Work :=
  let w1 : Work := { w with feed := { w.feed with trailing := some w.feed.position } }
  (w1.setPhase .trailing).tallyTrailing

end Sys2Proof.Machine
end

