-- ==== Sys2Proof/Machine/LinkOps.lean ====
section
/-! DEFINITION. The link interface's operations (chapter 9) but for the bytes of its frames: link errors,
the peer table and its changes of presence, the STATUS timers, and the end of an own frame. -/

namespace Sys2Proof.Machine

/-! ### Link errors (R173) -/

/-- A link error counted (R173). -/
def Work.linkError (w : Work) : Work :=
  let n := Nat.min 65535 (w.link.errors + 1)
  let win : ErrorWindow := match w.link.errorWindow with
    | some x => x
    | none => { left := Config.errorWindowTicks, base := w.link.errors, raised := false }
  if w.mode.started && !win.raised && decide (win.base + w.sec1.errorLimit < n) then
    ({ w with
      link := { w.link with errors := n, errorWindow := some { win with raised := true } } } :
      Work).raise .linkErrors .none
  else { w with link := { w.link with errors := n, errorWindow := some win } }

/-! ### The peer table (R180 to R183) -/

/-- A change of presence or a STATUS reaches the readers: the tests of R28, R29 and R74. -/
def Work.peersChanged (w : Work) : Work := { w with peersHeard := true, drive := true }

/-- A STATUS heard from another station (R180): the entry, then the skew test of R83. -/
def Work.hearPeer (w : Work) (n : StationNo) (f : PeerStatus) : Work :=
  (({ w with
    link := { w.link with
      peers := w.link.peers.set n { presence := .present, age := 0, fields := some f } } } :
    Work).peersChanged).skewTest

/-- A station entry becomes LOST (R181), with PEER LOST where R75 says so. -/
def Work.losePeer (w : Work) (n : StationNo) : Work :=
  let w1 := ({ w with
    link := { w.link with
      peers := w.link.peers.set n { w.link.peers.get n with presence := .lost } } } :
    Work).peersChanged
  let concerned := match w.feed.sheet with
    | some r => w.sheetInProgress && r.active.get n
    | none => false
  if concerned then w1.raise .peerLost (.station n) else w1

/-- A station entry that one tick may bring to its LOST age: it is PRESENT and its age has reached it
(R181). -/
def State.peerDue (s : State) (n : StationNo) : Bool :=
  decide ((s.link.peers.get n).presence = .present)
    && decide (s.lostAge ≤ (s.link.peers.get n).age)

/-- The entries of a set that are due become LOST, in ascending number (R181, R202). -/
def Work.losePeers (w : Work) (stations : StationSet) : Work :=
  allStations.foldl
    (fun w n => if stations.get n && w.peerDue n then w.losePeer n else w) w

/-- The controller entry becomes LOST (R182): CONTROLLER SILENT with a sheet in progress (R75), idle
capping without (R110). -/
def Work.loseController (w : Work) : Work :=
  let w1 := ({ w with
    link := { w.link with controller := { w.link.controller with presence := .lost } } } :
    Work).peersChanged
  if w.sheetInProgress then w1.raise .controllerSilent .none else w1.raiseCapIdle

/-- The controller entry has reached the timeout in force (R182, R194). -/
def State.controllerDue (s : State) : Bool :=
  s.mode.started && decide (s.link.controller.presence = .present)
    && decide (s.sec1.controllerTimeout ≤ s.link.controller.age)

/-- A BEACON heard (R182). -/
def Work.hearBeacon (w : Work) (stopping : Bool) : Work :=
  let w1 : Work :=
    { w with link := { w.link with controller := { w.link.controller with age := 0 } } }
  if stopping then
    if w.link.controller.presence = .lost then w1 else w1.loseController
  else if w.link.controller.presence = .present then w1
  else ({ w1 with
    link := { w1.link with controller := { w1.link.controller with presence := .present } } } :
    Work).peersChanged

/-! ### STATUS timers (R179) -/

/-- The STATUS slot becomes due. -/
def Work.statusDueNow (w : Work) : Work := { w with link := { w.link with statusDue := true } }

/-- The link after a STATUS sent, `age` ticks after its winning attempt began (R177, R179): the slot is no
longer due and the counts restart from that beginning, unless a request made since, or the period,
already calls for another. -/
def Link.statusSent (l : Link) (age period : Nat) : Link :=
  { l with
    periodCount := Nat.min period age
    spacingCount := Nat.min 2 age
    statusDue := (l.early && decide (2 ≤ age)) || decide (period ≤ age) }

/-! ### The end of an own frame (R170, R177) -/

/-- The own frame leaves the line unsent: the slot keeps its content, and a STATUS gives back the early
mark that its beginning cleared (R170, R176). -/
def Link.txLost (l : Link) : Link :=
  { l with
    tx := none
    early := l.early || (match l.tx with
      | some t => t.earlyBefore
      | none => false) }

/-- The TALLY REPORT part on the line has been sent (R177). -/
def Work.partSent (w : Work) : Work :=
  match w.link.reportSlot with
  | none => w
  | some r =>
    if r.partsSent < 2 then
      { w with link := { w.link with reportSlot := some { r with partsSent := r.partsSent + 1 } } }
    else
      { w with
        link := { w.link with reportSlot := none }
        tally := { w.tally with outstanding := false } }

/-- An own frame sent to its end (R177). -/
def Work.endFrame (w : Work) (t : TxFrame) : Work :=
  let w1 : Work := { w with link := { w.link with tx := none } }
  match t.slot with
  | .faultNotice =>
    if t.replaced then w1
    else
      { w1 with
        link := { w1.link with faultSlot := false }
        faults := { w1.faults with notice := none } }
  | .nozzleNotice =>
    if t.replaced then w1
    else ({ w1 with link := { w1.link with nozzleSlot := none } } : Work).loadNotice
  | .tallyReport => if t.replaced then w1 else w1.partSent
  | .status => { w1 with link := w1.link.statusSent t.age w1.sec1.statusPeriod }

/-! ### START and RESTART at the link (R196, R187) -/

/-- The three tests the link makes once at a START (R196). -/
def Work.startLink (w : Work) : Work :=
  let w1 := if w.sec1.statusPeriod ≤ w.link.periodCount then w.statusDueNow else w
  let w2 := w1.losePeers (PerStation.fill true)
  if w2.controllerDue then w2.loseController else w2

/-- The link's values after a RESTART order, but for the outcome (R187, R177): a report part on the line no
longer counts toward anything. -/
def Link.restarted (l : Link) : Link :=
  { l with
    errors := 0, errorWindow := none, reportSlot := none
    peers := PerStation.fill PeerEntry.absentEntry
    controller := { presence := .absent, age := 0 }
    tx := l.tx.map fun t => if t.slot = .tallyReport then { t with replaced := true } else t }

end Sys2Proof.Machine
end

