-- ==== Sys2Proof/Machine/Frames.lean ====
section
/-! DEFINITION. The bytes of the station's own frames (R169, R178, R210 and chapter 12): the codes, the
payloads of the four slots, the payloads of the orders, the CRC, and the frame whole. -/

namespace Sys2Proof.Machine

/-! ### Numbers and sets as bytes (R210) -/

/-- A number in `n` bytes, most significant first (R210). -/
def beBytes : Nat → Nat → List Byte
  | 0, _ => []
  | n + 1, v => BitVec.ofNat 8 (v / 256 ^ n) :: beBytes n v

/-- The number that bytes spell, most significant first (R210). -/
def beNat (l : List Byte) : Nat := l.foldl (fun a b => a * 256 + b.toNat) 0

/-- A bit of weight `w`. -/
def flagBit (b : Bool) (w : Nat) : Nat := if b then w else 0

/-- A set of channels as a mask (R210). -/
def channelMask (t : ChannelSet) : Nat :=
  (Channel.all.map fun c => flagBit (t.get c) (2 ^ c.num)).sum

/-- A set of stations as a mask (R210). -/
def stationMask (t : StationSet) : Nat :=
  (allStations.map fun n => flagBit (t.get n) (2 ^ n.val)).sum

/-- A set of faults as a mask (R210). -/
def faultMask (l : List FaultCode) : Nat := (l.map fun f => 2 ^ f.num).sum

/-- An optional number's value bytes: 0 where it is absent (R210). -/
def optValue (x : Option Nat) : Nat :=
  match x with
  | some v => v
  | none => 0

/-- The adjusted tally in 32 bits, two's complement (R210). -/
def twosComplement (d : Int) : Nat := (d % 4294967296).toNat

/-! ### Codes (12.4) -/

/-- Station mode code. -/
def modeCode : Mode → Nat
  | .config => 0
  | .run => 1
  | .halted => 2

/-- Sheet phase code. -/
def phaseCode : Phase → Nat
  | .none => 0
  | .pending => 1
  | .active => 2
  | .trailing => 3
  | .ended => 4

/-- Move state code. -/
def moveCode : MoveState → Nat
  | .idle => 0
  | .running => 1
  | .held => 2
  | .done => 3

/-- Refill state code. -/
def refillCode : RefillState → Nat
  | .idle => 0
  | .want => 1
  | .opened => 2
  | .backoff => 3
  | .held => 4
  | .starved => 5
  | .locked => 6

/-- Bands-wanted code. -/
def wantedCode : BandsWanted → Nat
  | .none => 0
  | .normal => 1
  | .urgent => 2

/-- Current action code. -/
def actionCode : Option Action → Nat
  | none => 0
  | some .home => 1
  | some .uncap => 2
  | some .cap => 3
  | some .gapSpit => 4
  | some .sheetSpit => 5
  | some .wipe => 6
  | some (.check _) => 7
  | some (.purge false _) => 8
  | some (.purge true _) => 9

/-- The frame kind code that an outcome names (12.4). -/
def kindCode : OrderKind → Nat
  | .feed => 0
  | .abortSheet => 1
  | .sheet => 6
  | .band => 7
  | .service => 8
  | .settings => 9
  | .tally => 10
  | .clear => 12
  | .config => 13
  | .start => 14
  | .restart => 15

/-- Outcome code. -/
def outcomeCode : OutcomeCode → Nat
  | .accepted => 0
  | .acceptedClamped => 1
  | .refusedMode => 2
  | .refusedBusy => 3
  | .refusedRange => 4
  | .refusedFull => 5
  | .refusedDuplicate => 6
  | .refusedSequence => 7

/-- The guard line as STATUS shows it: OPEN is 4,194,303 (R53). -/
def guardCode : GuardLine → Nat
  | .line n => n
  | .allClear => 4194303

/-! ### STATUS (R178) -/

/-- The channel byte of STATUS (12.3). -/
def channelByte (x : RefillChannel) : Nat :=
  refillCode x.state + 8 * x.effective + flagBit x.starvedFlag 32

/-- The flags byte of STATUS (12.3). -/
def State.statusFlags (s : State) : Nat :=
  flagBit s.feed.sheet.isSome 1 + flagBit s.feed.capture.isSome 2 + flagBit s.feed.move.isSome 4
    + flagBit s.link.outcome.isSome 8 + flagBit s.feed.fholdDrive 16 + flagBit s.serviceBusy 32
    + flagBit s.service.capped 64

/-- The outcome bytes of STATUS: kind, reference, code (12.3). -/
def outcomeBytes : Option OrderOutcome → List Byte
  | none => beBytes 4 0
  | some o => beBytes 1 (kindCode o.kind) ++ beBytes 2 o.ref ++ beBytes 1 (outcomeCode o.code)

/-- The STATUS payload, every field read at this moment (R178, 12.3). -/
def State.statusPayload (s : State) : List Byte :=
  beBytes 1 (modeCode s.mode.mode) ++ beBytes 1 s.statusFlags
    ++ beBytes 2 (optValue (s.feed.sheet.map SheetRecord.sheet))
    ++ beBytes 1 (phaseCode s.feed.phase) ++ beBytes 3 (guardCode s.bands.guard)
    ++ beBytes 3 s.feed.position ++ beBytes 3 (optValue s.feed.capture)
    ++ beBytes 1 (optValue (s.feed.move.map Move.id)) ++ beBytes 1 (moveCode s.moveState)
    ++ Channel.all.flatMap (fun c => beBytes 1 (channelByte (s.refill.get c)))
    ++ beBytes 1 (s.bands.records.length + 32 * wantedCode s.bandsWanted)
    ++ beBytes 1 (actionCode (s.service.current.map CurrentAction.action))
    ++ beBytes 1 s.nozzle.issue ++ beBytes 1 s.tally.inForce.issue
    ++ beBytes 2 (faultMask s.faults.active) ++ outcomeBytes s.link.outcome

/-! ### FAULT NOTICE (R205) -/

/-- A detail in two bytes: its kind in bits 15–14 and its value in bits 9–0 (12.3). -/
def detailCode : Detail → Nat
  | .none => 0
  | .channel c => 16384 + c.num
  | .group g => 32768 + g
  | .station n => 49152 + n.val

/-- A raise: its code and its detail. -/
def raiseBytes : Option Raise → List Byte
  | none => beBytes 3 0
  | some r => beBytes 1 r.code.num ++ beBytes 2 (detailCode r.detail)

/-- Whether the record holds a sheet id and a tag. -/
def recordFlags : Option FirstFault → Nat
  | none => 0
  | some f => 2 + flagBit f.sheet.isSome 4 + flagBit f.tag.isSome 8

/-- The sheet id, tag and feed position of the record (12.3). -/
def recordBytes : Option FirstFault → List Byte
  | none => beBytes 6 0
  | some f => beBytes 2 (optValue f.sheet) ++ beBytes 1 (optValue f.tag) ++ beBytes 3 f.position

/-- The FAULT NOTICE payload (R205, 12.3). -/
def State.faultPayload (s : State) : List Byte :=
  beBytes 1 (flagBit s.faults.notice.isSome 1 + recordFlags s.faults.record)
    ++ raiseBytes s.faults.notice ++ raiseBytes (s.faults.record.map FirstFault.raise)
    ++ recordBytes s.faults.record ++ beBytes 2 (faultMask s.faults.active)
    ++ beBytes 1 s.faults.count

/-! ### NOZZLE NOTICE (R138) -/

/-- Nozzles of a group as a 64-bit map (12.3). -/
def nozzleMap (l : List Nat) : Nat := (l.map fun n => 2 ^ (n % Config.groupNozzles)).sum

/-- The NOZZLE NOTICE payload (R138, 12.3). -/
def noticePayload (n : Notice) : List Byte :=
  beBytes 1 n.issue ++ beBytes 2 n.group ++ beBytes 1 (n.span + flagBit n.spanOver 128)
    ++ beBytes 8 (nozzleMap n.added) ++ beBytes 8 (nozzleMap n.removed)

/-! ### TALLY REPORT (R157, R158) -/

/-- One channel block of a report (12.3). A set overflow mark is sent as 1 in its byte, for which 12.3 gives the size
alone (DESIGN CHOICE, notes/assumptions/45.md). -/
def reportBlock (x : ReportChannel) : List Byte :=
  beBytes 4 x.tally.printed ++ beBytes 4 x.tally.spit ++ beBytes 4 x.tally.purge
    ++ beBytes 4 x.tally.refilled ++ beBytes 4 (twosComplement x.tally.adjusted)
    ++ beBytes 2 x.tally.bands ++ beBytes 1 (flagBit x.tally.overflow 1)
    ++ beBytes 4 x.tally.estimateOpen ++ beBytes 4 x.estimate ++ beBytes 3 x.residue
    ++ beBytes 2 x.settings.v0 ++ beBytes 2 x.settings.v1 ++ beBytes 2 x.settings.v2
    ++ beBytes 2 x.settings.v3 ++ beBytes 1 x.settings.spitDrops

/-- The channels of a part (R158). -/
def partChannels (p : Nat) : List Channel :=
  if p = 0 then [.matteBlack, .photoBlack]
  else if p = 1 then [.cyan, .magenta]
  else [.yellow, .grey]

/-- The payload of one part of a report (R158, 12.3). -/
def reportPayload (r : Report) (p : Nat) : List Byte :=
  beBytes 1 p
    ++ beBytes 1 (flagBit r.peek 1 + flagBit r.limited 2 + flagBit r.leadingSeen 4
        + flagBit r.trailingSeen 8 + flagBit r.startInPeriod 16)
    ++ beBytes 1 r.issue ++ beBytes 1 r.missed
    ++ (partChannels p).flatMap fun c => reportBlock (r.channels.get c)

/-! ### Order payloads (12.3) -/

/-- One settings block: 152 bits from the most significant bit of its first byte (12.3). -/
def settingsBlock (v : Settings) : List Byte :=
  beBytes 19
    ([(11, v.v0), (11, v.v1), (11, v.v2), (11, v.v3), (6, v.spitDrops), (21, v.lightPurge),
      (23, v.heavyPurge), (26, v.refillMark), (26, v.reserve), (6, 0)].foldl
      (fun a f => a * 2 ^ f.1 + f.2) 0)

/-- Six settings blocks, in channel order (12.3). -/
def settingsBlocks (t : PerChannel Settings) : List Byte :=
  Channel.all.flatMap fun c => settingsBlock (t.get c)

/-- The fields of section 0 (12.3). -/
def section0Bytes (x : Section0) : List Byte :=
  beBytes 1 (channelMask x.enabled)
    ++ Channel.all.flatMap fun c =>
      beBytes 4 (x.reservoir.get c).capacity ++ beBytes 4 (x.reservoir.get c).lowLevel
        ++ beBytes 4 (x.reservoir.get c).fullLevel ++ beBytes 3 (x.reservoir.get c).tolerance
        ++ beBytes 3 (x.reservoir.get c).credit

/-- The fields of section 1 (12.3). -/
def section1Bytes (x : Section1) : List Byte :=
  Channel.all.flatMap (fun c => beBytes 1 (x.budget.get c)) ++ beBytes 1 x.starveThreshold
    ++ beBytes 1 x.leakLimit ++ beBytes 1 x.statusPeriod ++ beBytes 2 x.controllerTimeout
    ++ beBytes 2 x.errorLimit

/-- The fields of section 2 (12.3). -/
def section2Bytes (x : Section2) : List Byte :=
  beBytes 3 x.sensorDistance ++ beBytes 2 x.stopMargin ++ beBytes 2 x.skewLimit
    ++ beBytes 2 x.slipLimit ++ beBytes 3 x.vacuumTail ++ beBytes 1 x.highMark
    ++ beBytes 1 x.lowMark

/-- The fields of section 3's first part (12.3). -/
def section3Bytes (x : Section3First) : List Byte :=
  beBytes 2 x.keepWetInterval ++ beBytes 3 x.capIdleTime
    ++ Source.all.flatMap (fun src => beBytes 1 (x.levels.get src))
    ++ beBytes 2 x.limits.move ++ beBytes 2 x.limits.spit ++ beBytes 2 x.limits.wipe
    ++ beBytes 2 x.limits.check ++ beBytes 2 x.limits.lightPurge ++ beBytes 2 x.limits.heavyPurge
    ++ beBytes 1 (flagBit x.autoRecovery 1 + flagBit x.leadingClose 2 + flagBit x.leadingPeek 4
        + flagBit x.trailingClose 8 + flagBit x.trailingPeek 16)

/-- One drop word: class in bits 23–22, count in bits 21–0 (12.3). -/
def dropWord (d : Drops) : List Byte := beBytes 3 (d.volumeClass.val * 4194304 + d.count)

/-- The payload of an order's frame with its kind code (12.3); nothing for a command that is no order. -/
def orderPayload : Instr → Option (Nat × List Byte)
  | .feed m d k e => some (0, beBytes 1 m ++ beBytes 3 d ++ beBytes 1 (k + flagBit e 4))
  | .abortSheet n => some (1, beBytes 2 n)
  | .sheet r n a p sp dg lim =>
    some (6, beBytes 1 r ++ beBytes 2 n ++ beBytes 1 (stationMask a) ++ beBytes 3 p
      ++ beBytes 1 (flagBit sp 1 + flagBit dg 2) ++ beBytes 3 lim)
  | .band r t n st len mi d =>
    some (7, beBytes 1 r ++ beBytes 1 t ++ beBytes 2 n ++ beBytes 3 st ++ beBytes 2 len
      ++ beBytes 1 mi ++ Channel.all.flatMap fun c => dropWord (d.get c))
  | .serviceCap r => some (8, beBytes 1 r ++ beBytes 1 0)
  | .serviceUncap r => some (8, beBytes 1 r ++ beBytes 1 1)
  | .serviceWipe r => some (8, beBytes 1 r ++ beBytes 1 2)
  | .serviceGapSpit r => some (8, beBytes 1 r ++ beBytes 1 3)
  | .serviceCheck r g => some (8, beBytes 1 r ++ beBytes 1 4 ++ g.flatMap (beBytes 2))
  | .servicePurgeLight r c => some (8, beBytes 1 r ++ beBytes 1 5 ++ beBytes 1 (channelMask c))
  | .servicePurgeHeavy r c => some (8, beBytes 1 r ++ beBytes 1 6 ++ beBytes 1 (channelMask c))
  | .setMask r l => some (8, beBytes 1 r ++ beBytes 1 7 ++ beBytes 1 l)
  | .settings r v => some (9, beBytes 1 r ++ settingsBlocks v)
  | .tallyClose r => some (10, beBytes 1 r ++ beBytes 1 0)
  | .tallyPeek r => some (10, beBytes 1 r ++ beBytes 1 1)
  | .tallyUnknownOperation r o => some (10, beBytes 1 r ++ beBytes 1 o)
  | .clearFaults r => some (12, beBytes 1 r ++ beBytes 1 1 ++ beBytes 2 0)
  | .clearLadder r c => some (12, beBytes 1 r ++ beBytes 1 0 ++ beBytes 1 (channelMask c) ++ beBytes 1 0)
  | .clearLineStarved r c => some (12, beBytes 1 r ++ beBytes 2 0 ++ beBytes 1 (channelMask c))
  | .clearOrder r f l st =>
    some (12, beBytes 1 r ++ beBytes 1 (flagBit f 1) ++ beBytes 1 (channelMask l)
      ++ beBytes 1 (channelMask st))
  | .configSection0 r x => some (13, beBytes 1 r ++ beBytes 1 0 ++ section0Bytes x)
  | .configSection1 r x => some (13, beBytes 1 r ++ beBytes 1 1 ++ section1Bytes x)
  | .configSection2 r x => some (13, beBytes 1 r ++ beBytes 1 2 ++ section2Bytes x)
  | .configSection3FirstPart r x => some (13, beBytes 1 r ++ beBytes 1 3 ++ section3Bytes x)
  | .configSection3SecondPart r v => some (13, beBytes 1 r ++ beBytes 1 4 ++ settingsBlocks v)
  | .start r => some (14, beBytes 1 r)
  | .restart r _ => some (15, beBytes 1 r)
  | _ => none

/-! ### Frames (R169) -/

/-- One bit through the CRC register: generator x^16 + x^12 + x^5 + 1 (R169). -/
def crcBit (crc : BitVec 16) (b : Bool) : BitVec 16 :=
  if crc.msb = b then crc <<< 1 else (crc <<< 1) ^^^ 0x1021#16

/-- One byte through the CRC register, most significant bit first (R169). -/
def crcByte (crc : BitVec 16) (b : Byte) : BitVec 16 :=
  [7, 6, 5, 4, 3, 2, 1, 0].foldl (fun r n => crcBit r (b.getLsbD n)) crc

/-- The CRC of the bytes of a frame, from an initial value of all ones, with no final inversion (R169). -/
def crcOf (l : List Byte) : BitVec 16 := l.foldl crcByte 0xFFFF#16

/-- A frame whole: header, destination and source, length, payload, CRC (R169). -/
def frameOf (kind source dest : Nat) (payload : List Byte) : List Byte :=
  let body := beBytes 1 (kind * 16 + source) ++ beBytes 1 (dest * 16 + source)
    ++ beBytes 1 payload.length ++ payload
  body ++ beBytes 2 (crcOf body).toNat

/-! ### Offering a slot (R175, R176, R186) -/

/-- The mode offers a slot (R186). -/
def slotAllowed (m : Mode) (t : Slot) : Bool :=
  match t with
  | .faultNotice | .status => true
  | .nozzleNotice | .tallyReport => decide (m = .run)

/-- A slot is unsent (R175). -/
def Link.unsent (l : Link) : Slot → Bool
  | .faultNotice => l.faultSlot
  | .nozzleNotice => l.nozzleSlot.isSome
  | .tallyReport => l.reportSlot.isSome
  | .status => l.statusDue

/-- The unsent slot that stands first among those the mode allows (R176). -/
def State.offeredSlot (s : State) : Option Slot :=
  [Slot.faultNotice, .nozzleNotice, .tallyReport, .status].find? fun t =>
    s.link.unsent t && slotAllowed s.mode.mode t

/-- The frame of a slot, built as it begins (R176, R178, R205). Notices and reports go to node 15 and
STATUS to 14 (R172). -/
def State.slotFrame (s : State) (t : Slot) : List Byte :=
  match t with
  | .faultNotice => frameOf 2 s.mode.station.val 15 s.faultPayload
  | .nozzleNotice => frameOf 5 s.mode.station.val 15 (match s.link.nozzleSlot with
    | some n => noticePayload n
    | none => [])
  | .tallyReport => frameOf 11 s.mode.station.val 15 (match s.link.reportSlot with
    | some r => reportPayload r.report r.partsSent
    | none => [])
  | .status => frameOf 3 s.mode.station.val 14 s.statusPayload

/-- An own frame begins from a slot (R176); a STATUS takes the early mark with it (R179). -/
def Work.beginFrame (w : Work) (t : Slot) : Work :=
  let sts := decide (t = .status)
  { w with
    link := { w.link with
      tx := some
        { slot := t, bytes := w.slotFrame t, replaced := false, age := 0,
          earlyBefore := sts && w.link.early }
      early := w.link.early && !sts } }

end Sys2Proof.Machine
end

