-- ==== Sys2Proof/Machine/Receive.lean ====
section
/-! DEFINITION. What a received frame is to the station: the checks of R171, who takes what (R172, R174),
the reading of payloads (R210, R211), and the command that the frame puts into the queue. -/

namespace Sys2Proof.Machine

/-- A frame as the line gave it: its bytes, whether a stop bit read 0, and whether a further start bit
followed before the line became idle (R171). -/
structure RxFrame where
  bytes : List Byte
  stopError : Bool
  extraStart : Bool
  deriving DecidableEq, Repr

/-! ### Reading a payload (R210) -/

/-- The number in `n` bytes of a payload from an offset. -/
def field (p : List Byte) (off n : Nat) : Nat := beNat ((p.drop off).take n)

/-- Bit `k` of a number. -/
def bitOf (v k : Nat) : Bool := decide (v / 2 ^ k % 2 = 1)

/-- The set of channels of a mask; its spare bits are ignored (R210). -/
def channelsOf (v : Nat) : ChannelSet := PerChannel.gen fun c => bitOf v c.num

/-- The set of stations of a mask (R210). -/
def stationsOf (v : Nat) : StationSet := PerStation.gen fun n => bitOf v n.val

/-- One settings block (12.3). -/
def readSettings (p : List Byte) (off : Nat) : Settings :=
  let v := field p off 19
  { v0 := v / 2 ^ 141 % 2048
    v1 := v / 2 ^ 130 % 2048
    v2 := v / 2 ^ 119 % 2048
    v3 := v / 2 ^ 108 % 2048
    spitDrops := v / 2 ^ 102 % 64
    lightPurge := v / 2 ^ 81 % 2097152
    heavyPurge := v / 2 ^ 58 % 8388608
    refillMark := v / 2 ^ 32 % 67108864
    reserve := v / 2 ^ 6 % 67108864 }

/-- Six settings blocks from an offset (12.3). -/
def readAllSettings (p : List Byte) (off : Nat) : PerChannel Settings :=
  PerChannel.gen fun c => readSettings p (off + 19 * c.num)

/-- The fields of section 0 (12.3). -/
def readSection0 (p : List Byte) : Section0 :=
  { enabled := channelsOf (field p 2 1)
    reservoir := PerChannel.gen fun c =>
      { capacity := field p (3 + 18 * c.num) 4
        lowLevel := field p (7 + 18 * c.num) 4
        fullLevel := field p (11 + 18 * c.num) 4
        tolerance := field p (15 + 18 * c.num) 3
        credit := field p (18 + 18 * c.num) 3 } }

/-- The fields of section 1 (12.3). -/
def readSection1 (p : List Byte) : Section1 :=
  { budget := PerChannel.gen fun c => field p (2 + c.num) 1
    starveThreshold := field p 8 1
    leakLimit := field p 9 1
    statusPeriod := field p 10 1
    controllerTimeout := field p 11 2
    errorLimit := field p 13 2 }

/-- The fields of section 2 (12.3). -/
def readSection2 (p : List Byte) : Section2 :=
  { sensorDistance := field p 2 3
    stopMargin := field p 5 2
    skewLimit := field p 7 2
    slipLimit := field p 9 2
    vacuumTail := field p 11 3
    highMark := field p 14 1
    lowMark := field p 15 1 }

/-- The fields of section 3's first part (12.3). -/
def readSection3First (p : List Byte) : Section3First :=
  { keepWetInterval := field p 2 2
    capIdleTime := field p 4 3
    levels := { order := field p 7 1, uncapNeed := field p 8 1, keepWet := field p 9 1,
                sheetSpit := field p 10 1, recovery := field p 11 1, forcedCheck := field p 12 1,
                capIdle := field p 13 1 }
    limits := { move := field p 14 2, spit := field p 16 2, wipe := field p 18 2,
                check := field p 20 2, lightPurge := field p 22 2, heavyPurge := field p 24 2 }
    autoRecovery := bitOf (field p 26 1) 0
    leadingClose := bitOf (field p 26 1) 1
    leadingPeek := bitOf (field p 26 1) 2
    trailingClose := bitOf (field p 26 1) 3
    trailingPeek := bitOf (field p 26 1) 4 }

/-- The drop word of a channel in a BAND payload (12.3). -/
def readDrops (p : List Byte) (c : Channel) : Drops :=
  let v := field p (10 + 3 * c.num) 3
  { count := v % 4194304, volumeClass := Fin.ofNat 4 (v / 4194304) }

/-- The group numbers of a CHECK (12.3). -/
def readGroups : List Byte → List Nat
  | a :: b :: rest => beNat [a, b] :: readGroups rest
  | _ => []

/-! ### Orders (12.3, R210, R211) -/

/-- A SERVICE payload. -/
def readService (p : List Byte) : Instr :=
  let r := field p 0 1
  let k := field p 1 1
  let n := p.length
  if k = 0 ∧ n = 2 then .serviceCap r
  else if k = 1 ∧ n = 2 then .serviceUncap r
  else if k = 2 ∧ n = 2 then .serviceWipe r
  else if k = 3 ∧ n = 2 then .serviceGapSpit r
  else if k = 4 ∧ n % 2 = 0 then .serviceCheck r (readGroups (p.drop 2))
  else if k = 5 ∧ n = 3 then .servicePurgeLight r (channelsOf (field p 2 1))
  else if k = 6 ∧ n = 3 then .servicePurgeHeavy r (channelsOf (field p 2 1))
  else if k = 7 ∧ n = 3 then .setMask r (field p 2 1)
  else .serviceUnknownRequest r

/-- A TALLY payload. -/
def readTally (p : List Byte) : Instr :=
  if field p 1 1 = 0 then .tallyClose (field p 0 1)
  else if field p 1 1 = 1 then .tallyPeek (field p 0 1)
  else .tallyUnknownOperation (field p 0 1) (field p 1 1)

/-- A CLEAR payload: the row of the one part it names, or the order whole. -/
def readClear (p : List Byte) : Instr :=
  let r := field p 0 1
  let f := bitOf (field p 1 1) 0
  let l := channelsOf (field p 2 1)
  let t := channelsOf (field p 3 1)
  if f && !l.anySet && !t.anySet then .clearFaults r
  else if !f && l.anySet && !t.anySet then .clearLadder r l
  else if !f && !l.anySet && t.anySet then .clearLineStarved r t
  else .clearOrder r f l t

/-- A CONFIG payload. -/
def readConfig (p : List Byte) : Instr :=
  let r := field p 0 1
  let k := field p 1 1
  let n := p.length
  if k = 0 ∧ n = 111 then .configSection0 r (readSection0 p)
  else if k = 1 ∧ n = 15 then .configSection1 r (readSection1 p)
  else if k = 2 ∧ n = 16 then .configSection2 r (readSection2 p)
  else if k = 3 ∧ n = 27 then .configSection3FirstPart r (readSection3First p)
  else if k = 4 ∧ n = 116 then .configSection3SecondPart r (readAllSettings p 2)
  else .configUnknownSection r

/-- The order that a payload of an order kind carries, with the strap pins as they read (12.3); none for
the kinds that carry no order. -/
def readOrder (straps : StationNo) (kind : Nat) (p : List Byte) : Option Instr :=
  match kind with
  | 0 => some (.feed (field p 0 1) (field p 1 3) (field p 4 1 % 4) (bitOf (field p 4 1) 2))
  | 1 => some (.abortSheet (field p 0 2))
  | 6 => some (.sheet (field p 0 1) (field p 1 2) (stationsOf (field p 3 1)) (field p 4 3)
      (bitOf (field p 7 1) 0) (bitOf (field p 7 1) 1) (field p 8 3))
  | 7 => some (.band (field p 0 1) (field p 1 1 % 16) (field p 2 2) (field p 4 3 % 4194304)
      (field p 7 2) (field p 9 1) (PerChannel.gen (readDrops p)))
  | 8 => some (readService p)
  | 9 => some (.settings (field p 0 1) (readAllSettings p 1))
  | 10 => some (readTally p)
  | 12 => some (readClear p)
  | 13 => some (readConfig p)
  | 14 => some (.start (field p 0 1))
  | 15 => some (.restart (field p 0 1) straps)
  | _ => none

/-! ### STATUS and BEACON (R180, R182) -/

/-- A mode of its code. -/
def modeOf : Nat → Option Mode
  | 0 => some .config
  | 1 => some .run
  | 2 => some .halted
  | _ => none

/-- A refill state of its code. -/
def refillOf : Nat → Option RefillState
  | 0 => some .idle
  | 1 => some .want
  | 2 => some .opened
  | 3 => some .backoff
  | 4 => some .held
  | 5 => some .starved
  | 6 => some .locked
  | _ => none

/-- A channel byte of STATUS; an absent state is an enumerated value outside its codes. -/
def readView (v : Nat) : Option ChannelView :=
  (refillOf (v % 8)).map fun r =>
    { state := r, effective := v / 8 % 4, starved := bitOf v 5 }

/-- The channel views of a STATUS, where every state is one of the codes. -/
def readViews (p : List Byte) : Option (PerChannel ChannelView) :=
  match readView (field p 16 1), readView (field p 17 1), readView (field p 18 1),
    readView (field p 19 1), readView (field p 20 1), readView (field p 21 1) with
  | some a, some b, some c, some d, some e, some f =>
    some { matteBlack := a, photoBlack := b, cyan := c, magenta := d, yellow := e, grey := f }
  | _, _, _, _, _, _ => none

/-- The guard line of STATUS: 4,194,303 is OPEN (R53). Of three bytes that hold more, the low 22 bits alone
are read: R210 names no spare bits there and R53 no such line (DESIGN CHOICE, notes/assumptions/39.md). -/
def readGuard (v : Nat) : GuardLine :=
  if v % 4194304 = 4194303 then .allClear else .line (v % 4194304)

/-- The enumerated fields of a STATUS that no reader keeps are within their codes (R171, 12.4). The move
state is always carried, IDLE with no current move (R178), so that its code is tested with the move-present
bit clear too; R210 can also be read to ignore it there (DESIGN CHOICE, notes/assumptions/37.md). -/
def statusCodesFit (p : List Byte) : Bool :=
  decide (field p 4 1 ≤ 4) && decide (field p 15 1 ≤ 3) && decide (field p 22 1 / 32 % 4 ≤ 2)
    && decide (field p 23 1 ≤ 9)
    && (!bitOf (field p 1 1) 3 || (decide (field p 28 1 ≤ 15) && decide (field p 31 1 ≤ 7)))

/-- The fields of a STATUS that the readers use (R180), where every enumerated value is one of its codes
(R171). -/
def readStatus (p : List Byte) : Option PeerStatus :=
  match modeOf (field p 0 1), readViews p with
  | some m, some v =>
    if statusCodesFit p then
      some
        { mode := m
          sheet := if bitOf (field p 1 1) 0 then some (field p 2 2) else none
          guard := readGuard (field p 5 3)
          capture := if bitOf (field p 1 1) 1 then some (field p 11 3) else none
          channels := v }
    else none
  | _, _ => none

/-- The enumerated values of a FAULT NOTICE are within their codes (R171). -/
def faultCodesFit (p : List Byte) : Bool :=
  (!bitOf (field p 0 1) 0 || decide (field p 1 1 ≤ 15))
    && (!bitOf (field p 0 1) 1 || decide (field p 4 1 ≤ 15))

/-- A BEACON (12.3). -/
def readBeacon (p : List Byte) : Instr :=
  .beaconHeard (bitOf (field p 0 1) 0)
    (if bitOf (field p 0 1) 1 then some (field p 1 2) else none)

/-! ### The checks (R171) -/

/-- The payload lengths a kind may carry (12.3). -/
def lengthFits (kind n : Nat) : Bool :=
  match kind with
  | 0 => decide (n = 5)
  | 1 => decide (n = 2)
  | 2 => decide (n = 16)
  | 3 => decide (n = 32)
  | 4 => decide (n = 3)
  | 5 => decide (n = 20)
  | 6 => decide (n = 11)
  | 7 => decide (n = 28)
  | 8 => decide (2 ≤ n) && decide (n ≤ 120)
  | 9 => decide (n = 115)
  | 10 => decide (n = 2)
  | 11 => decide (n = 90)
  | 12 => decide (n = 4)
  | 13 => decide (n = 15 ∨ n = 16 ∨ n = 27 ∨ n = 111 ∨ n = 116)
  | 14 | 15 => decide (n = 1)
  | _ => false

/-- The enumerated values of a station kind are within their codes (R171). -/
def codesFit (kind : Nat) (p : List Byte) : Bool :=
  match kind with
  | 2 => faultCodesFit p
  | 3 => (readStatus p).isSome
  | _ => true

/-- A received frame's header kind, source, destination, length and payload. -/
def RxFrame.kind (f : RxFrame) : Nat := field f.bytes 0 1 / 16

/-- The source number of the header. -/
def RxFrame.source (f : RxFrame) : Nat := field f.bytes 0 1 % 16

/-- The destination number. -/
def RxFrame.dest (f : RxFrame) : Nat := field f.bytes 1 1 / 16

/-- The payload that the length byte states. -/
def RxFrame.payload (f : RxFrame) : List Byte := (f.bytes.drop 3).take (field f.bytes 2 1)

/-- A received frame passes the checks of R171. -/
def RxFrame.heard (f : RxFrame) : Bool :=
  let n := field f.bytes 2 1
  !f.stopError && !f.extraStart && decide (f.bytes.length = n + 5) && decide (n ≤ 120)
    && lengthFits f.kind n && codesFit f.kind f.payload
    && decide (field f.bytes (n + 3) 2 = (crcOf (f.bytes.take (n + 3))).toNat)
    && decide (field f.bytes 1 1 % 16 = f.source)

/-! ### Who takes what (R172, R174) -/

/-- What a waiting command does to the station number and to the RESET pin (R189, R198). -/
def numberAfter (at_ : StationNo × Bool) (c : Instr) : StationNo × Bool :=
  match c with
  | .powerOn straps _ => (straps, false)
  | .resetPinAsserted => (at_.1, true)
  | .restart _ straps => if at_.2 then at_ else (straps, false)
  | _ => at_

/-- The station number as the commands waiting leave it: the one under which a frame that joins them finds
the station at its turn (notes/assumptions/20.md). -/
def State.numberAtTurn (s : State) : StationNo :=
  (s.pending.foldl numberAfter (s.mode.station, s.mode.resetPin)).1

/-- A frame of the plot controller as a station of number `own` takes it (R172). -/
def takeController (own straps : StationNo) (f : RxFrame) : Instr :=
  let mine := decide (f.dest = own.val)
  let all := decide (f.dest = 14)
  let taken :=
    match f.kind with
    | 0 | 1 | 6 => all
    | 7 | 8 | 9 | 13 => mine
    | 10 | 12 | 14 | 15 => mine || all
    | _ => false
  if f.kind = 4 then readBeacon f.payload
  else if taken then
    match readOrder straps f.kind f.payload with
    | some c => c
    | none => .frameIgnored
  else .frameIgnored

/-- A frame of a station as a station of number `own` takes it (R172, R174): a STATUS goes to the peer
table, where its number is tested at its turn, and any other frame counts under the own number alone. The
mode is tested where the command is taken. -/
def takeStation (own : StationNo) (f : RxFrame) : Instr :=
  if f.kind = 3 then
    match readStatus f.payload with
    | some p => .peerStatusHeard (Fin.ofNat 8 f.source) p
    | none => .frameDiscarded
  else if f.source = own.val then .duplicateStationHeard
  else .frameIgnored

/-- The command that a received frame is to this station (R171, R172, R174), with the strap pins as they
read. Mode and station number count as the frame's turn in the queue finds them. -/
def State.receive (s : State) (straps : StationNo) (f : RxFrame) : Instr :=
  if !f.heard then .frameDiscarded
  else if f.source ≤ 7 then takeStation s.numberAtTurn f
  else if f.source = 15 then takeController s.numberAtTurn straps f
  else .frameIgnored

/-- A frame received on the line joins the queue as the command it is. While the RESET pin is asserted the
command is not taken at its turn (R198). -/
def State.hears (s : State) (straps : StationNo) (f : RxFrame) : State :=
  { s with pending := s.pending ++ [s.receive straps f] }

end Sys2Proof.Machine
end

