-- ==== Sys2Proof/Machine/Finish.lean ====
section
/-! DEFINITION. The end of an event: the overfill test, the faults, coverage, the guard line, the arbiter's
choice, the refill tests, the FHOLD drive and the early STATUS request, each made where the event called for
it, in this order (notes/assumptions/10.md); and the event whole. -/

namespace Sys2Proof.Machine

/-! ### Stages -/

/-- Coverage re-worked once at the end of the event (R21, R47). -/
def Work.coverStage (w : Work) : Work :=
  if w.cover then
    { w with bands := { w.bands with records := w.coveredRecords }, guardDue := true }
  else w

/-- The guard line derived anew; a change is handed to feed control (R53, R54). -/
def Work.guardStage (w : Work) : Work :=
  if w.guardDue then
    { w with
      bands := { w.bands with guard := w.guardLine }
      drive := w.drive || decide (w.guardLine ≠ w.bands.guard) }
  else w

/-- A readiness hold stands until readiness is reached or the move ends (R76). -/
def State.holdsForReadiness (s : State) : Bool :=
  s.feed.readinessHold && !s.ready && s.moveInProgress

/-- Feed control with the FHOLD drive worked out anew (R76). -/
def State.drivenFeed (s : State) : Feed :=
  let t : State := { s with feed := { s.feed with readinessHold := s.holdsForReadiness } }
  { t.feed with fholdDrive := t.fholdWanted }

/-- The FHOLD drive worked out anew where a condition of R76 may have changed. -/
def Work.driveStage (w : Work) : Work :=
  { w with feed := if w.drive then w.drivenFeed else w.feed }

/-- A channel's valve is open exactly while its refill state is OPEN (R28). -/
def State.valveOpen (s : State) (c : Channel) : Bool := decide ((s.refill.get c).state = .opened)

/-- Between two states, something has changed that asks for an early STATUS: the guard line, a valve, or
the move state (R179). -/
def earlyChange (a b : State) : Bool :=
  decide (a.bands.guard ≠ b.bands.guard)
    || (Channel.all.any fun c => decide (a.valveOpen c ≠ b.valveOpen c))
    || decide (a.moveState ≠ b.moveState)

/-- The early request of the event (R179). -/
def Work.earlyStage (w : Work) : Work :=
  { w with link := if earlyChange w.pre w.toState then w.link.requestEarly else w.link }

/-- The end of an event, but for the early request. -/
def Work.settle (w : Work) : Work :=
  w.overfillTests.faultStage.coverStage.guardStage.arbiterStage.refillStage.driveStage

/-- The end of an event. -/
def Work.finish (w : Work) : State := w.settle.earlyStage.toState

/-! ### The event whole -/

/-- One event: its body, then the end-of-event work. While the RESET pin is asserted the station holds its
power-on values and takes nothing (R198). -/
def event (s : State) (body : Work → Work) : Host.Outcome State Fault Refusal :=
  if s.mode.resetPin then .next s else .next (body (Work.begin s)).finish

/-- One order in RUN, or REFUSED_MODE (R190). -/
def orderInRun (s : State) (kind : OrderKind) (ref : Nat) (body : Work → Work) :
    Host.Outcome State Fault Refusal :=
  event s fun w => if w.inRun then body w else w.outcome kind ref .refusedMode

end Sys2Proof.Machine
end

