-- ==== Sys2Proof/Machine/FeedCommands.lean ====
section
/-! DEFINITION. The meanings of the sheet and feed commands: FEED, SHEET, ABORT SHEET, the steps, the
encoder, the edges, the skew window and the FHOLD line (chapter 4). -/

namespace Sys2Proof.Machine

/-- FEED (R68, R190): ignored outside RUN. -/
def execFeed (moveId distance speed : Nat) (eject : Bool) (s : State) :
    Host.Outcome State Fault Refusal :=
  event s fun w =>
    if !w.inRun then w
    else if w.moveInProgress then w.outcome .feed moveId .refusedBusy
    else if distance = 0 ∨ 1048575 < distance then w.outcome .feed moveId .refusedRange
    else (w.takeFeed moveId distance speed eject).outcome .feed moveId .accepted

/-- SHEET (R65, R66, R56). -/
def execSheet (ref sheetId : Nat) (active : StationSet) (printLength : Nat)
    (spitAllowed degraded : Bool) (leadLimit : Nat) (s : State) :
    Host.Outcome State Fault Refusal :=
  orderInRun s .sheet ref fun w =>
    match w.sheetRefusal active printLength leadLimit with
    | some code => w.outcome .sheet ref code
    | none =>
      (w.takeSheet
        { sheet := sheetId, active := active, printLength := printLength,
          spitAllowed := spitAllowed, degraded := degraded, leadLimit := leadLimit }).outcome
        .sheet ref .accepted

/-- ABORT SHEET (R87, R57, R208). -/
def execAbortSheet (sheetId : Nat) (s : State) : Host.Outcome State Fault Refusal :=
  orderInRun s .abortSheet sheetId fun w =>
    if w.abortFits sheetId then w.takeAbort.outcome .abortSheet sheetId .accepted
    else w.outcome .abortSheet sheetId .refusedSequence

/-- A step due (R69, R70): taken for a RUNNING move that the tests of R69 allow, and not made up later
otherwise. -/
def execStepDue (s : State) : Host.Outcome State Fault Refusal :=
  event s fun w =>
    match w.feed.move with
    | some m => if m.state = .running ∧ w.stepAllowed m then w.takeStep m else w
    | none => w

/-- A forward encoder count (R64, R48 to R51, R81, R82, R85). -/
def execEncoderCount (s : State) : Host.Outcome State Fault Refusal :=
  event s Work.positionEvent

/-- The edge sensor from clear to covered (R78): an edge in PENDING alone. -/
def execLeadingEdge (s : State) : Host.Outcome State Fault Refusal :=
  event s fun w => if w.feed.phase = .pending then w.takeLeading else w

/-- The edge sensor from covered to clear (R79): an edge in ACTIVE alone. -/
def execTrailingEdge (s : State) : Host.Outcome State Fault Refusal :=
  event s fun w => if w.feed.phase = .active then w.takeTrailing else w

/-- The skew window ends (R83): the estimate from the captures then available. -/
def execSkewWindowEnd (s : State) : Host.Outcome State Fault Refusal :=
  event s fun w => if w.feed.skewWindow = some 0 then w.estimateSkew else w

/-- FHOLD reads asserted (R77). -/
def execFholdAsserted (s : State) : Host.Outcome State Fault Refusal :=
  event s fun w =>
    ({ w with feed := { w.feed with fholdLine := true } } : Work).turnMove .running .held

/-- FHOLD reads released (R77): not while this station itself pulls the line. -/
def execFholdReleased (s : State) : Host.Outcome State Fault Refusal :=
  event s fun w =>
    if w.feed.fholdDrive then w
    else ({ w with feed := { w.feed with fholdLine := false } } : Work).turnMove .held .running

end Sys2Proof.Machine
end

