-- ==== Sys2Proof/Machine/InkCommands.lean ====
section
/-! DEFINITION. The meanings of the commands of ink metering and refill control: level marks, flow pulses,
and the timers of the refill channels (chapters 1 and 2). -/

namespace Sys2Proof.Machine

/-- The debounced state of a reading (R1). -/
def markReading (wet : Bool) : MarkState := if wet then .wet else .dry

/-- One of a channel's two marks. -/
def InkChannel.mark (x : InkChannel) (m : MarkName) : Mark :=
  match m with
  | .low => x.low
  | .full => x.full

/-- A channel with one of its two marks replaced. -/
def InkChannel.putMark (x : InkChannel) (m : MarkName) (k : Mark) : InkChannel :=
  match m with
  | .low => { x with low := k }
  | .full => { x with full := k }

/-- The raw line of a mark reads wet or dry (R3): what the sensor outside does, taken at the next tick's
sample and not before (notes/assumptions/3.md). -/
def State.markLine (s : State) (c : Channel) (m : MarkName) (wet : Bool) : State :=
  let x := s.ink.get c
  { s with ink := s.ink.set c (x.putMark m { x.mark m with raw := wet }) }

/-- The filter has counted its 20 samples, and they read as `wet` (R3). -/
def Mark.filtered (k : Mark) (wet : Bool) : Bool :=
  decide (Config.debounceTicks ≤ k.count) && decide (k.sample = wet)

/-- A channel with one mark's debounced state at a reading, its count restarted (R3). -/
def InkChannel.settleMark (x : InkChannel) (m : MarkName) (wet : Bool) : InkChannel :=
  x.putMark m { x.mark m with state := markReading wet, count := 0 }

/-- Refill control at a mark change: an OPEN channel whose FULL mark turns WET closes (R31). -/
def Work.markRefill (w : Work) (c : Channel) (m : MarkName) (wet : Bool) : Work :=
  match m with
  | .full => if wet then w.putRefill c (w.refill.get c).fullWet else w
  | .low => w

/-- A level mark's debounced state changes (R3, R4, R16, R31), where the filter's 20 samples call for it. A
reading equal to the debounced state, and any reading of a mark still SETTLING, is no change
(notes/assumptions/31.md). -/
def execMarkChange (channel : Channel) (mark : MarkName) (wet : Bool) (s : State) :
    Host.Outcome State Fault Refusal :=
  event s fun w =>
    let x := w.ink.get channel
    if !(x.mark mark).filtered wet ∨ (x.mark mark).state = .settling
        ∨ (x.mark mark).state = markReading wet then w
    else
      ((w.putInk channel (x.settleMark mark wet)).markRefill channel mark wet).markReconcile
        channel mark wet

/-- A SETTLING mark takes its first debounced state after 20 equal samples: no change in the sense of R3
(notes/assumptions/11.md). -/
def execMarkSettled (channel : Channel) (mark : MarkName) (wet : Bool) (s : State) :
    Host.Outcome State Fault Refusal :=
  event s fun w =>
    let x := w.ink.get channel
    if (x.mark mark).filtered wet ∧ (x.mark mark).state = .settling then
      { w with ink := w.ink.set channel (x.settleMark mark wet) }
    else w

/-- A flow meter pulse (R14, R15, R32, R35). -/
def execFlowPulse (channel : Channel) (s : State) : Host.Outcome State Fault Refusal :=
  event s fun w => (w.credit channel).countPulse channel

/-- A flow window of an OPEN channel ends, on the tick after its 99th (R32, R33). -/
def execFlowWindowEnd (channel : Channel) (s : State) : Host.Outcome State Fault Refusal :=
  event s fun w =>
    match (w.refill.get channel).state, (w.refill.get channel).window with
    | .opened, some f => if 99 ≤ f.elapsed then w.windowEnd channel f else w
    | _, _ => w

/-- A back-off time reaches 0 (R30). -/
def execBackoffEnd (channel : Channel) (s : State) : Host.Outcome State Fault Refusal :=
  event s fun w =>
    if (w.refill.get channel).state = .backoff ∧ (w.refill.get channel).backoff = some 0 then
      w.backoffOver channel
    else w

/-- A leak window ends (R35). -/
def execLeakWindowEnd (channel : Channel) (s : State) : Host.Outcome State Fault Refusal :=
  event s fun w =>
    if (w.refill.get channel).leakWindow = some 0 then
      w.putRefill channel { w.refill.get channel with leakCount := 0, leakWindow := none }
    else w

/-- A channel is waiting: WANT or BACKOFF (R25). -/
def RefillChannel.waiting (x : RefillChannel) : Bool :=
  match x.state with
  | .want | .backoff => true
  | _ => false

/-- Time waited reaches 2000 ms: the effective class rises by one (R25). -/
def execWaitingLimitReached (channel : Channel) (s : State) : Host.Outcome State Fault Refusal :=
  event s fun w =>
    if (w.refill.get channel).waiting ∧ Config.waitingLimit ≤ (w.refill.get channel).waited then
      { w with classes := true }
    else w

end Sys2Proof.Machine
end

