-- ==== Sys2Proof/Machine/ModeCommands.lean ====
section
/-! DEFINITION. The meanings of the mode commands: power-on and the RESET pin, the configuration sections,
START, RESTART, and the duplicate station (chapters 9 and 10). -/

namespace Sys2Proof.Machine

/-! ### Power-on and the RESET pin (R198) -/

/-- A mark after power-on: SETTLING, with the raw line as it reads (R22). -/
def Mark.poweredOn (m : Mark) : Mark := { Mark.reset with raw := m.raw }

/-- The whole station at its power-on values (R198). What lies outside it is kept: the commands waiting,
the raw mark lines, the FHOLD line as last reported, and the position switch that reads closed. -/
def State.poweredOn (s : State) (station : StationNo) (closed : Option SledPlace) (pin : Bool) :
    State :=
  { State.reset with
    ink := PerChannel.gen fun c =>
      { InkChannel.reset with low := (s.ink.get c).low.poweredOn, full := (s.ink.get c).full.poweredOn }
    feed := { Feed.reset with fholdLine := s.feed.fholdLine }
    service := { Service.reset with closed := closed }
    mode := { ModeControl.reset with station := station, resetPin := pin }
    pending := s.pending }

/-- POWER ON: the end of power-on or the release of the RESET pin (R198, R189). -/
def execPowerOn (straps : StationNo) (closed : Option SledPlace) (s : State) :
    Host.Outcome State Fault Refusal :=
  .next (s.poweredOn straps closed false)

/-- The RESET pin asserted (R198): the power-on values, held; the number is latched at the release
(R189). -/
def execResetPinAsserted (s : State) : Host.Outcome State Fault Refusal :=
  .next (s.poweredOn s.mode.station s.service.closed true)

/-! ### Configuration (R191, R211) -/

/-- One order in CONFIG, or REFUSED_MODE (R190, R191 step 1). A frame refused for the mode leaves the
first-part store as it stands, a byte-4 frame with the held reference too (R190, R211; DESIGN CHOICE,
notes/assumptions/38.md). -/
def orderInConfig (s : State) (ref : Nat) (body : Work → Work) :
    Host.Outcome State Fault Refusal :=
  event s fun w => if w.mode.mode = .config then body w else w.outcome .config ref .refusedMode

/-- A section taken (R191): mode control's new state, with the outcome. -/
def Work.takeSection (w : Work) (ref : Nat) (m : ModeControl) (clamped : Bool) : Work :=
  ({ w with mode := m } : Work).outcome .config ref (takenCode clamped)

/-- CONFIG for section 0 (R191, R192). -/
def execConfigSection0 (ref : Nat) (content : Section0) (s : State) :
    Host.Outcome State Fault Refusal :=
  orderInConfig s ref fun w =>
    let x := clampSection0 content
    if !marksFit x then w.outcome .config ref .refusedRange
    else
      w.takeSection ref { w.mode with held := { w.mode.held with sec0 := x }, received0 := true }
        (decide (x ≠ content))

/-- CONFIG for section 1 (R191, R192). -/
def execConfigSection1 (ref : Nat) (content : Section1) (s : State) :
    Host.Outcome State Fault Refusal :=
  orderInConfig s ref fun w =>
    let x := clampSection1 content
    w.takeSection ref { w.mode with held := { w.mode.held with sec1 := x }, received1 := true }
      (decide (x ≠ content))

/-- CONFIG for section 2 (R191, R193). -/
def execConfigSection2 (ref : Nat) (content : Section2) (s : State) :
    Host.Outcome State Fault Refusal :=
  orderInConfig s ref fun w =>
    let x := clampSection2 content
    w.takeSection ref { w.mode with held := { w.mode.held with sec2 := x }, received2 := true }
      (decide (x ≠ content))

/-- The first frame of section 3 (R211): held, with no outcome. -/
def execConfigSection3FirstPart (ref : Nat) (content : Section3First) (s : State) :
    Host.Outcome State Fault Refusal :=
  orderInConfig s ref fun w =>
    { w with mode := { w.mode with firstPart := some { ref := ref, content := content } } }

/-- The second frame of section 3 (R211, R191, R193). -/
def execConfigSection3SecondPart (ref : Nat) (initial : PerChannel Settings) (s : State) :
    Host.Outcome State Fault Refusal :=
  orderInConfig s ref fun w =>
    match w.mode.firstPart with
    | none => w.outcome .config ref .refusedSequence
    | some f =>
      if f.ref = ref then
        let content : Section3 := { first := f.content, initial := initial }
        let x := clampSection3 content
        w.takeSection ref
          { w.mode with
            held := { w.mode.held with sec3 := x }, received3 := true, firstPart := none }
          (decide (x ≠ content))
      else w.outcome .config ref .refusedSequence

/-- A CONFIG order whose section byte or length does not fit (R191 step 2, R210). It leaves the first-part
store as it stands, whatever its section byte and reference (DESIGN CHOICE, notes/assumptions/38.md). -/
def execConfigUnknownSection (ref : Nat) (s : State) : Host.Outcome State Fault Refusal :=
  orderInConfig s ref fun w => w.outcome .config ref .refusedRange

/-! ### START (R195, R196) -/

/-- The outcome of the first test of R195 that fails. -/
def State.startRefusal (s : State) : Option OutcomeCode :=
  if s.mode.mode ≠ .config then some .refusedMode
  else if !(s.mode.received0 && s.mode.received1 && s.mode.received2 && s.mode.received3) then
    some .refusedSequence
  else if !refillMarksFit s.mode.held.sec3.initial s.mode.held.sec0 then some .refusedRange
  else none

/-- Mode control at a START taken: RUN, with the held sections in force (R196) and the first-part store
empty (R211). -/
def ModeControl.running (m : ModeControl) : ModeControl :=
  { m with mode := .run, inForce := m.held, started := true, firstPart := none }

/-- What opens the event of a START (R196): the mode, the configuration in force and the settings (R166). -/
def Work.enterRun (w : Work) : Work :=
  { w with
    mode := w.mode.running
    tally := w.tally.started w.mode.held.sec3.initial
    service := { w.service with capIdle := 0 }
    cover := true, guardDue := true, classes := true, boundary := true, drive := true }

/-- Taking a START order (R196): each block's START work. -/
def Work.takeStart (w : Work) : Work :=
  let was := w.mode.inForce.sec0.enabled
  let uncovered := w.anyUncovered
  let w1 := Channel.all.foldl (fun v c => v.startInk (was.get c) c) w.enterRun
  (((w1.revalue.releaseRefill).startKeepWet).startNozzle uncovered).startLink

/-- START (R195, R196). -/
def execStart (ref : Nat) (s : State) : Host.Outcome State Fault Refusal :=
  event s fun w =>
    match w.startRefusal with
    | some code => w.outcome .start ref code
    | none => w.takeStart.outcome .start ref .accepted

/-! ### RESTART (R197) -/

/-- Feed control after a RESTART order (R89). -/
def Feed.restarted (f : Feed) : Feed :=
  { Feed.reset with
    move := f.move.map Move.idled, fholdDrive := f.fholdDrive, fholdLine := f.fholdLine }

/-- The service arbiter after a RESTART order (R113). -/
def Service.restarted (v : Service) : Service :=
  { Service.reset with
    wiper := v.wiper, closed := v.closed, capped := v.capped, requestNumber := v.requestNumber }

/-- The keep-wet unit after a RESTART order (R127). -/
def KeepWet.restarted (k : KeepWet) : KeepWet :=
  { k with counter := none, cappedTicks := 0, underCheck := none }

/-- Nozzle health after a RESTART order (R151); the active set it reads is empty. -/
def Nozzle.restarted (n : Nozzle) : Nozzle :=
  { n with
    blocked := false
    ladders := PerChannel.gen fun c => { n.ladders.get c with inService := false } }

/-- Taking a RESTART order (R197): every block takes its RESTART values. -/
def Work.takeRestart (w : Work) (straps : StationNo) : Work :=
  let w1 : Work :=
    { w with
      bands := BandQueue.reset
      feed := w.feed.restarted
      service := w.service.restarted
      keepWet := w.keepWet.restarted
      nozzle := w.nozzle.restarted
      tally := { w.tally with outstanding := false }
      link := w.link.restarted
      mode := { w.mode with mode := .config, station := straps, firstPart := none }
      faults := { w.faults with active := [] }
      drive := true }
  w1.holdRefill

/-- RESTART (R197): taken in every mode. The STATUS counts and the early mark stay as they are (R179, R187),
and a valve that the RESTART closes, a guard line or a move state that it changes asks for an early STATUS as
in every event (R40, R54, R179; notes/assumptions/14.md). -/
def execRestart (ref : Nat) (straps : StationNo) (s : State) : Host.Outcome State Fault Refusal :=
  event s fun w => (w.takeRestart straps).outcome .restart ref .accepted

/-! ### HALTED (R174, R199) -/

/-- Entering HALTED (R199): refill held, the keep-wet counter stopped, a RUNNING move HELD, DUPLICATE
STATION raised. -/
def Work.enterHalted (w : Work) : Work :=
  let w1 : Work :=
    { w with
      mode := { w.mode with mode := .halted }
      keepWet := { w.keepWet with counter := none, cappedTicks := 0 }
      boundary := true, drive := true }
  ((w1.holdRefill).turnMove .running .held).raise .duplicateStation .none

/-- A heard frame with this station's own number (R174): no check is made in HALTED. -/
def Work.hearOwnNumber (w : Work) : Work :=
  if w.mode.mode = .halted then w else w.enterHalted

/-- DUPLICATE STATION HEARD (R174, R199). -/
def execDuplicateStationHeard (s : State) : Host.Outcome State Fault Refusal :=
  event s Work.hearOwnNumber

end Sys2Proof.Machine
end

