-- ==== Sys2Proof/Machine/LinkCommands.lean ====
section
/-! DEFINITION. The meanings of the link's commands: frames heard and discarded, own frames begun, lost and
sent, the STATUS timers, and the ageing of the peer table (chapter 9). -/

namespace Sys2Proof.Machine

/-- A STATUS heard (R180): one with this station's own number is the duplicate of R174. -/
def execPeerStatusHeard (source : StationNo) (status : PeerStatus) (s : State) :
    Host.Outcome State Fault Refusal :=
  event s fun w =>
    if source = w.mode.station then w.hearOwnNumber else w.hearPeer source status

/-- A BEACON heard (R182); the sheet id it carries is not held. -/
def execBeaconHeard (stopping : Bool) (_sheetId : Option Nat) (s : State) :
    Host.Outcome State Fault Refusal :=
  event s fun w => w.hearBeacon stopping

/-- A discarded frame: one link error and no other effect (R171, R173). -/
def execFrameDiscarded (s : State) : Host.Outcome State Fault Refusal :=
  event s Work.linkError

/-- A heard frame that is ignored changes nothing (R172). -/
def execFrameIgnored (s : State) : Host.Outcome State Fault Refusal :=
  event s fun w => w

/-- The line is idle and a slot is unsent: a frame begins, one at a time (R176, R186). -/
def execFrameBegin (s : State) : Host.Outcome State Fault Refusal :=
  event s fun w =>
    match w.link.tx, w.offeredSlot with
    | none, some t => w.beginFrame t
    | _, _ => w

/-- Arbitration lost: the slot is offered again, and nothing is counted (R170). -/
def execArbitrationLost (s : State) : Host.Outcome State Fault Refusal :=
  event s fun w => if w.link.tx.isSome then { w with link := w.link.txLost } else w

/-- A transmit mismatch: the slot is offered again and one error counted (R170, R173). -/
def execTransmitMismatch (s : State) : Host.Outcome State Fault Refusal :=
  event s fun w =>
    if w.link.tx.isSome then ({ w with link := w.link.txLost } : Work).linkError else w

/-- An own frame sent to its end (R177). -/
def execFrameSent (s : State) : Host.Outcome State Fault Refusal :=
  event s fun w =>
    match w.link.tx with
    | some t => w.endFrame t
    | none => w

/-- The period count reaches the status period (R179). -/
def execStatusPeriodExpiry (s : State) : Host.Outcome State Fault Refusal :=
  event s fun w => if w.sec1.statusPeriod ≤ w.link.periodCount then w.statusDueNow else w

/-- The spacing count reaches 2 ms with the early mark set (R179). -/
def execSpacingCountExpiry (s : State) : Host.Outcome State Fault Refusal :=
  event s fun w => if 2 ≤ w.link.spacingCount ∧ w.link.early then w.statusDueNow else w

/-- The entries that one tick brings to their LOST age (R181, R75). -/
def execPeerEntryLost (stations : StationSet) (s : State) : Host.Outcome State Fault Refusal :=
  event s fun w => w.losePeers stations

/-- The controller entry reaches the controller timeout (R182, R75, R110). -/
def execControllerTimeout (s : State) : Host.Outcome State Fault Refusal :=
  event s fun w => if w.controllerDue then w.loseController else w

/-- The error window ends (R173). -/
def execErrorWindowEnd (s : State) : Host.Outcome State Fault Refusal :=
  event s fun w =>
    match w.link.errorWindow with
    | some x => if x.left = 0 then { w with link := { w.link with errorWindow := none } } else w
    | none => w

end Sys2Proof.Machine
end

