-- ==== Sys2Proof/Machine/OrderCommands.lean ====
section
/-! DEFINITION. The meanings of the orders that are neither sheet nor mode orders: BAND, SERVICE, SETTINGS,
TALLY and CLEAR (chapters 3, 5, 8 and 11). -/

namespace Sys2Proof.Machine

/-- BAND (R44 to R46). -/
def execBand (ref tag sheetId start length issue : Nat) (drops : PerChannel Drops) (s : State) :
    Host.Outcome State Fault Refusal :=
  orderInRun s .band ref fun w => w.takeBand ref tag sheetId start length issue drops

/-- SERVICE CAP (R111). -/
def execServiceCap (ref : Nat) (s : State) : Host.Outcome State Fault Refusal :=
  orderInRun s .service ref fun w => w.takeService ref .cap true

/-- SERVICE UNCAP (R111). -/
def execServiceUncap (ref : Nat) (s : State) : Host.Outcome State Fault Refusal :=
  orderInRun s .service ref fun w => w.takeService ref .uncap true

/-- SERVICE WIPE (R111). -/
def execServiceWipe (ref : Nat) (s : State) : Host.Outcome State Fault Refusal :=
  orderInRun s .service ref fun w => w.takeService ref .wipe true

/-- SERVICE GAP SPIT (R111). -/
def execServiceGapSpit (ref : Nat) (s : State) : Host.Outcome State Fault Refusal :=
  orderInRun s .service ref fun w => w.takeService ref .gapSpit true

/-- SERVICE CHECK (R111): a group named twice is checked once. -/
def execServiceCheck (ref : Nat) (groups : List Nat) (s : State) :
    Host.Outcome State Fault Refusal :=
  orderInRun s .service ref fun w =>
    w.takeService ref (.check (sortNums groups)) (w.checkListFits groups)

/-- SERVICE PURGE LIGHT (R111). -/
def execServicePurgeLight (ref : Nat) (channels : ChannelSet) (s : State) :
    Host.Outcome State Fault Refusal :=
  orderInRun s .service ref fun w => w.takeService ref (.purge false channels) (w.purgeSetFits channels)

/-- SERVICE PURGE HEAVY (R111). -/
def execServicePurgeHeavy (ref : Nat) (channels : ChannelSet) (s : State) :
    Host.Outcome State Fault Refusal :=
  orderInRun s .service ref fun w => w.takeService ref (.purge true channels) (w.purgeSetFits channels)

/-- SERVICE with SET MASK (R103, R111 step 2). -/
def execSetMask (ref level : Nat) (s : State) : Host.Outcome State Fault Refusal :=
  orderInRun s .service ref fun w =>
    if 7 < level then w.outcome .service ref .refusedRange
    else
      ({ w with service := { w.service with mask := level }, boundary := true } : Work).outcome
        .service ref .accepted

/-- A SERVICE order whose request code or length does not fit (R210, R190). -/
def execServiceUnknownRequest (ref : Nat) (s : State) : Host.Outcome State Fault Refusal :=
  orderInRun s .service ref fun w => w.outcome .service ref .refusedRange

/-- SETTINGS (R156). -/
def execSettings (ref : Nat) (values : PerChannel Settings) (s : State) :
    Host.Outcome State Fault Refusal :=
  orderInRun s .settings ref fun w =>
    if !refillMarksFit values w.mode.inForce.sec0 then w.outcome .settings ref .refusedRange
    else
      ({ w with tally := { w.tally with pendingCopy := clampAllSettings values } } : Work).outcome
        .settings ref (takenCode (decide (clampAllSettings values ≠ values)))

/-- TALLY naming CLOSE (R159 to R161). -/
def execTallyClose (ref : Nat) (s : State) : Host.Outcome State Fault Refusal :=
  orderInRun s .tally ref fun w =>
    if w.tally.outstanding then w.outcome .tally ref .refusedBusy
    else w.fullClose.outcome .tally ref .accepted

/-- TALLY naming PEEK (R159, R162). -/
def execTallyPeek (ref : Nat) (s : State) : Host.Outcome State Fault Refusal :=
  orderInRun s .tally ref fun w =>
    if w.tally.outstanding then w.outcome .tally ref .refusedBusy
    else (w.peekPeriod false).outcome .tally ref .accepted

/-- TALLY naming neither (R159 step 2). -/
def execTallyUnknownOperation (ref _operation : Nat) (s : State) :
    Host.Outcome State Fault Refusal :=
  orderInRun s .tally ref fun w => w.outcome .tally ref .refusedRange

/-- The parts of a CLEAR order, in their order (R206). -/
def Work.clearParts (w : Work) (faults : Bool) (ladders starved : ChannelSet) : Work :=
  let w1 := if starved.anySet then w.clearStarved starved else w
  let w2 := if ladders.anySet then w1.clearLadders ladders else w1
  if faults then w2.clearFaultsPart else w2

/-- A CLEAR order from its range test on (R206). -/
def Work.takeClear (w : Work) (ref : Nat) (faults : Bool) (ladders starved : ChannelSet) : Work :=
  if !faults && !ladders.anySet && !starved.anySet then w.outcome .clear ref .refusedRange
  else (w.clearParts faults ladders starved).outcome .clear ref .accepted

/-- CLEAR naming the faults alone (R206, R207). -/
def execClearFaults (ref : Nat) (s : State) : Host.Outcome State Fault Refusal :=
  orderInRun s .clear ref fun w =>
    w.takeClear ref true (PerChannel.fill false) (PerChannel.fill false)

/-- CLEAR naming ladders alone (R206, R149). -/
def execClearLadder (ref : Nat) (channels : ChannelSet) (s : State) :
    Host.Outcome State Fault Refusal :=
  orderInRun s .clear ref fun w => w.takeClear ref false channels (PerChannel.fill false)

/-- CLEAR naming line-starved marks alone (R206, R38). -/
def execClearLineStarved (ref : Nat) (channels : ChannelSet) (s : State) :
    Host.Outcome State Fault Refusal :=
  orderInRun s .clear ref fun w => w.takeClear ref false (PerChannel.fill false) channels

/-- CLEAR naming any of its parts (R206). -/
def execClearOrder (ref : Nat) (faults : Bool) (ladders starved : ChannelSet) (s : State) :
    Host.Outcome State Fault Refusal :=
  orderInRun s .clear ref fun w => w.takeClear ref faults ladders starved

end Sys2Proof.Machine
end

