-- ==== Sys2Proof/Machine/SledCommands.lean ====
section
/-! DEFINITION. The meanings of the commands of the service arbiter and the keep-wet unit: the sled, the
head driver's answers, the time limit, the cap idle count and the spit interval (chapters 5 and 6). -/

namespace Sys2Proof.Machine

/-- The commanded target's switch reports (R92): the sled stands there, and the route goes on. -/
def Work.arriveAt (w : Work) (p : SledPlace) : Work :=
  ({ w with
    service := { w.service with sled := .standing p, motion := none, closed := some p }
    boundary := true, drive := true } : Work).reached

/-- A position switch reports (R92): taken for the commanded target alone. Any other report is not taken,
but the switch reads closed from then on, for a later command to that place to find
(notes/assumptions/40.md). -/
def execSledArrival (place : SledPlace) (s : State) : Host.Outcome State Fault Refusal :=
  event s fun w =>
    if w.service.motion = some place then w.arriveAt place
    else { w with service := { w.service with closed := some place } }

/-- The sled position once the sled has left the place it stood at (R92): MOVING after a motion has been
commanded, and otherwise what the switches last reported (notes/assumptions/41.md). -/
def Service.departed (v : Service) : SledPosition := if v.motion.isSome then .moving else v.sled

/-- The sled leaves its position, or a place it passes on the way (R92), and no switch reads closed. -/
def execSledDeparture (s : State) : Host.Outcome State Fault Refusal :=
  event s fun w =>
    { w with
      service := { w.service with sled := w.service.departed, closed := none }
      boundary := true, drive := true }

/-- A RESULT of the head driver (R94). -/
def execHeadResult (number group : Nat) (missed : List Nat) (s : State) :
    Host.Outcome State Fault Refusal :=
  event s fun w => w.takeResult number group missed

/-- A DONE of the head driver (R94, R96). -/
def execHeadDone (number : Nat) (s : State) : Host.Outcome State Fault Refusal :=
  event s fun w =>
    match w.service.head with
    | some h => if h.number = number then w.headAnswered else w
    | none => w

/-- The time left of the action in progress reaches 0: it fails (R100). -/
def execActionTimeout (s : State) : Host.Outcome State Fault Refusal :=
  event s fun w =>
    if w.service.current.isSome ∧ w.service.timeLeft = some 0 then w.fail else w

/-- The cap idle count reaches the cap idle time (R110). -/
def execCapIdleExpiry (s : State) : Host.Outcome State Fault Refusal :=
  event s fun w =>
    if w.idleUncapped ∧ w.sec3.capIdleTime ≤ w.service.capIdle then
      ({ w with service := { w.service with capIdle := 0 } } : Work).request .capIdle
    else w

/-- A counted tick finds the spit interval counter at 1 (R117, R119). -/
def execKeepWetExpiry (s : State) : Host.Outcome State Fault Refusal :=
  event s fun w => if w.inRun ∧ w.keepWet.counter = some 1 then w.expiry else w

end Sys2Proof.Machine
end

