-- ==== Sys2Proof/Machine/Tick.lean ====
section
/-! DEFINITION. One 1 ms tick of the station's time base: every count that rises or falls at a tick, and
the events that the tick brings due, which join the queue in one fixed order (notes/assumptions/1.md). -/

namespace Sys2Proof.Machine

/-! ### Counts of one tick -/

/-- A level mark sampled (R3): while SETTLING the count of equal samples, afterwards that of consecutive
samples that differ from the debounced state. -/
def Mark.sampled (m : Mark) : Mark :=
  match m.state with
  | .settling =>
    { m with
      sample := m.raw
      count := if m.raw = m.sample then Nat.min Config.debounceTicks (m.count + 1) else 1 }
  | st =>
    { m with
      sample := m.raw
      count :=
        if markReading m.raw = st then 0 else Nat.min Config.debounceTicks (m.count + 1) }

/-- A channel's marks sampled (R3). -/
def InkChannel.sampled (x : InkChannel) : InkChannel :=
  { x with low := x.low.sampled, full := x.full.sampled }

/-- A refill channel's times at a tick (R25, R30, R32, R35). -/
def RefillChannel.aged (x : RefillChannel) : RefillChannel :=
  { x with
    waited := if x.waiting then Nat.min Config.waitingLimit (x.waited + 1) else x.waited
    backoff := x.backoff.map fun n => n - 1
    window := x.window.map fun f => { f with elapsed := Nat.min 99 (f.elapsed + 1) }
    leakWindow := x.leakWindow.map fun n => n - 1 }

/-- The tick is a counted tick of the spit interval (R116). -/
def State.countedTick (s : State) : Bool :=
  !s.service.capped || decide (7 ≤ s.keepWet.cappedTicks)

/-- The keep-wet unit at a tick (R116): it counts in RUN alone (R126). -/
def State.agedKeepWet (s : State) : KeepWet :=
  match s.keepWet.counter with
  | none => s.keepWet
  | some n =>
    if !s.inRun then s.keepWet
    else if s.countedTick then
      { s.keepWet with cappedTicks := 0, counter := some (Nat.max 1 (n - 1)) }
    else { s.keepWet with cappedTicks := s.keepWet.cappedTicks + 1 }

/-- The service arbiter at a tick: time left and the cap idle count (R100, R110). -/
def State.agedService (s : State) : Service :=
  { s.service with
    timeLeft := s.service.timeLeft.map fun n => n - 1
    capIdle :=
      if s.idleUncapped then Nat.min s.sec3.capIdleTime (s.service.capIdle + 1)
      else s.service.capIdle }

/-- A station entry at a tick (R181). -/
def PeerEntry.aged (e : PeerEntry) : PeerEntry :=
  match e.presence with
  | .absent => e
  | .present | .lost => { e with age := Nat.min 65535 (e.age + 1) }

/-- The controller entry at a tick (R182). -/
def ControllerEntry.aged (e : ControllerEntry) : ControllerEntry :=
  match e.presence with
  | .absent => e
  | .present | .lost => { e with age := Nat.min 65535 (e.age + 1) }

/-- The link interface at a tick (R173, R179, R181, R182). -/
def State.agedLink (s : State) : Link :=
  { s.link with
    errorWindow := s.link.errorWindow.map fun x => { x with left := x.left - 1 }
    periodCount := Nat.min s.sec1.statusPeriod (s.link.periodCount + 1)
    spacingCount := Nat.min 2 (s.link.spacingCount + 1)
    peers := PerStation.gen fun n => (s.link.peers.get n).aged
    controller := s.link.controller.aged
    tx := s.link.tx.map fun t => { t with age := t.age + 1 } }

/-- Every count of the station one tick on. -/
def State.aged (s : State) : State :=
  { s with
    ink := PerChannel.gen fun c => (s.ink.get c).sampled
    refill := PerChannel.gen fun c => (s.refill.get c).aged
    feed := { s.feed with skewWindow := s.feed.skewWindow.map fun n => n - 1 }
    service := s.agedService
    keepWet := s.agedKeepWet
    link := s.agedLink }

/-! ### Events due -/

/-- A command, where a condition calls for it. -/
def dueWhen (b : Bool) (c : Instr) : List Instr := if b then [c] else []

/-- The mark event of one mark after its sample (R3). -/
def Mark.due (m : Mark) (c : Channel) (k : MarkName) : List Instr :=
  if Config.debounceTicks ≤ m.count then
    match m.state with
    | .settling => [.markSettled c k m.sample]
    | _ => [.markChange c k m.sample]
  else []

/-- The events of one refill channel due after a tick, the channel having stood as `x` before it. -/
def RefillChannel.dueEvents (x : RefillChannel) (c : Channel) : List Instr :=
  dueWhen (decide (x.state = .opened) && (match x.window with
      | some f => decide (99 ≤ f.elapsed)
      | none => false)) (.flowWindowEnd c)
    ++ dueWhen (decide (x.aged.backoff = some 0)) (.backoffEnd c)
    ++ dueWhen (decide (x.aged.leakWindow = some 0)) (.leakWindowEnd c)
    ++ dueWhen (x.waiting && decide (x.waited < Config.waitingLimit)
        && decide (x.aged.waited = Config.waitingLimit)) (.waitingLimitReached c)

/-- Steps per tick of a speed class (R69). -/
def stepsPerTick (speed : Nat) : Nat := 4 * 2 ^ speed

/-- The steps of a RUNNING move that fall due within a tick (R69; notes/assumptions/8.md). -/
def State.dueSteps (s : State) : List Instr :=
  match s.feed.move with
  | some m => if m.state = .running then List.replicate (stepsPerTick m.speed) .stepDue else []
  | none => []

/-- The station entries that the tick has brought to their LOST age (R181). -/
def State.duePeers (s : State) : StationSet := PerStation.gen s.peerDue

/-- The events that a tick brings due, `t` being the station after its counts have moved. -/
def State.dueEvents (s t : State) : List Instr :=
  Channel.all.flatMap (fun c => (t.ink.get c).low.due c .low ++ (t.ink.get c).full.due c .full)
    ++ Channel.all.flatMap (fun c => (s.refill.get c).dueEvents c)
    ++ dueWhen (decide (t.feed.skewWindow = some 0)) .skewWindowEnd
    ++ dueWhen (t.service.current.isSome && decide (t.service.timeLeft = some 0)) .actionTimeout
    ++ dueWhen (t.idleUncapped && decide (t.sec3.capIdleTime ≤ t.service.capIdle)) .capIdleExpiry
    ++ dueWhen (s.inRun && s.countedTick && decide (s.keepWet.counter = some 1)) .keepWetExpiry
    ++ dueWhen t.duePeers.anySet (.peerEntryLost t.duePeers)
    ++ dueWhen t.controllerDue .controllerTimeout
    ++ dueWhen (match t.link.errorWindow with
        | some x => decide (x.left = 0)
        | none => false) .errorWindowEnd
    ++ dueWhen (decide (s.link.periodCount < t.link.periodCount)
        && decide (t.sec1.statusPeriod ≤ t.link.periodCount)) .statusPeriodExpiry
    ++ dueWhen (decide (s.link.spacingCount < 2) && decide (2 ≤ t.link.spacingCount)
        && t.link.early) .spacingCountExpiry
    ++ t.dueSteps

/-- One tick: the counts move, and what they bring due joins the queue. While the RESET pin is asserted
nothing moves (R198). -/
def State.tick (s : State) : State :=
  if s.mode.resetPin then s
  else { s.aged with pending := s.pending ++ s.dueEvents s.aged }

end Sys2Proof.Machine
end

