-- ==== Sys2Proof/Machine/Dispatch.lean ====
section
/-! DEFINITION. The dispatch: one arm per command, each one direct call of its meaning. -/

namespace Sys2Proof.Machine

/-- The meaning of a command on everything but the queue. -/
def exec (i : Instr) (s : State) : Host.Outcome State Fault Refusal :=
  match i with
  | .powerOn straps closed => Sys2Proof.Machine.execPowerOn straps closed s
  | .resetPinAsserted => Sys2Proof.Machine.execResetPinAsserted s
  | .feed moveId distance speed eject => Sys2Proof.Machine.execFeed moveId distance speed eject s
  | .sheet ref sheetId active printLength spitAllowed degraded leadLimit => Sys2Proof.Machine.execSheet ref sheetId active printLength spitAllowed degraded leadLimit s
  | .abortSheet sheetId => Sys2Proof.Machine.execAbortSheet sheetId s
  | .band ref tag sheetId start length issue drops => Sys2Proof.Machine.execBand ref tag sheetId start length issue drops s
  | .serviceCap ref => Sys2Proof.Machine.execServiceCap ref s
  | .serviceUncap ref => Sys2Proof.Machine.execServiceUncap ref s
  | .serviceWipe ref => Sys2Proof.Machine.execServiceWipe ref s
  | .serviceGapSpit ref => Sys2Proof.Machine.execServiceGapSpit ref s
  | .serviceCheck ref groups => Sys2Proof.Machine.execServiceCheck ref groups s
  | .servicePurgeLight ref channels => Sys2Proof.Machine.execServicePurgeLight ref channels s
  | .servicePurgeHeavy ref channels => Sys2Proof.Machine.execServicePurgeHeavy ref channels s
  | .setMask ref level => Sys2Proof.Machine.execSetMask ref level s
  | .settings ref values => Sys2Proof.Machine.execSettings ref values s
  | .tallyClose ref => Sys2Proof.Machine.execTallyClose ref s
  | .tallyPeek ref => Sys2Proof.Machine.execTallyPeek ref s
  | .clearFaults ref => Sys2Proof.Machine.execClearFaults ref s
  | .clearLadder ref channels => Sys2Proof.Machine.execClearLadder ref channels s
  | .clearLineStarved ref channels => Sys2Proof.Machine.execClearLineStarved ref channels s
  | .configSection0 ref content => Sys2Proof.Machine.execConfigSection0 ref content s
  | .configSection1 ref content => Sys2Proof.Machine.execConfigSection1 ref content s
  | .configSection2 ref content => Sys2Proof.Machine.execConfigSection2 ref content s
  | .configSection3FirstPart ref content => Sys2Proof.Machine.execConfigSection3FirstPart ref content s
  | .configSection3SecondPart ref initial => Sys2Proof.Machine.execConfigSection3SecondPart ref initial s
  | .start ref => Sys2Proof.Machine.execStart ref s
  | .restart ref straps => Sys2Proof.Machine.execRestart ref straps s
  | .peerStatusHeard source status => Sys2Proof.Machine.execPeerStatusHeard source status s
  | .beaconHeard stopping sheetId => Sys2Proof.Machine.execBeaconHeard stopping sheetId s
  | .frameDiscarded => Sys2Proof.Machine.execFrameDiscarded s
  | .duplicateStationHeard => Sys2Proof.Machine.execDuplicateStationHeard s
  | .frameIgnored => Sys2Proof.Machine.execFrameIgnored s
  | .frameBegin => Sys2Proof.Machine.execFrameBegin s
  | .arbitrationLost => Sys2Proof.Machine.execArbitrationLost s
  | .transmitMismatch => Sys2Proof.Machine.execTransmitMismatch s
  | .frameSent => Sys2Proof.Machine.execFrameSent s
  | .statusPeriodExpiry => Sys2Proof.Machine.execStatusPeriodExpiry s
  | .spacingCountExpiry => Sys2Proof.Machine.execSpacingCountExpiry s
  | .peerEntryLost stations => Sys2Proof.Machine.execPeerEntryLost stations s
  | .controllerTimeout => Sys2Proof.Machine.execControllerTimeout s
  | .errorWindowEnd => Sys2Proof.Machine.execErrorWindowEnd s
  | .markChange channel mark wet => Sys2Proof.Machine.execMarkChange channel mark wet s
  | .markSettled channel mark wet => Sys2Proof.Machine.execMarkSettled channel mark wet s
  | .flowPulse channel => Sys2Proof.Machine.execFlowPulse channel s
  | .flowWindowEnd channel => Sys2Proof.Machine.execFlowWindowEnd channel s
  | .backoffEnd channel => Sys2Proof.Machine.execBackoffEnd channel s
  | .leakWindowEnd channel => Sys2Proof.Machine.execLeakWindowEnd channel s
  | .waitingLimitReached channel => Sys2Proof.Machine.execWaitingLimitReached channel s
  | .stepDue => Sys2Proof.Machine.execStepDue s
  | .encoderCount => Sys2Proof.Machine.execEncoderCount s
  | .leadingEdge => Sys2Proof.Machine.execLeadingEdge s
  | .trailingEdge => Sys2Proof.Machine.execTrailingEdge s
  | .skewWindowEnd => Sys2Proof.Machine.execSkewWindowEnd s
  | .fholdAsserted => Sys2Proof.Machine.execFholdAsserted s
  | .fholdReleased => Sys2Proof.Machine.execFholdReleased s
  | .sledArrival place => Sys2Proof.Machine.execSledArrival place s
  | .headResult number group missed => Sys2Proof.Machine.execHeadResult number group missed s
  | .headDone number => Sys2Proof.Machine.execHeadDone number s
  | .actionTimeout => Sys2Proof.Machine.execActionTimeout s
  | .capIdleExpiry => Sys2Proof.Machine.execCapIdleExpiry s
  | .keepWetExpiry => Sys2Proof.Machine.execKeepWetExpiry s
  | .sledDeparture => Sys2Proof.Machine.execSledDeparture s
  | .clearOrder ref faults ladders starved => Sys2Proof.Machine.execClearOrder ref faults ladders starved s
  | .tallyUnknownOperation ref operation => Sys2Proof.Machine.execTallyUnknownOperation ref operation s
  | .serviceUnknownRequest ref => Sys2Proof.Machine.execServiceUnknownRequest ref s
  | .configUnknownSection ref => Sys2Proof.Machine.execConfigUnknownSection ref s

end Sys2Proof.Machine
end

