-- ==== Sys2Proof/WellFormed.lean ====
section
/-! DEFINITION. Which commands can reach the station: every operand within what its frame layout (12.3),
its sensor or its port can carry. A value that a layout carries and a rule refuses or clamps is well
formed. -/

namespace Sys2Proof

/-- A metering settings block as its 152 bits carry it (12.3). -/
def Settings.wf (v : Settings) : Bool :=
  decide (v.v0 < 2048) && decide (v.v1 < 2048) && decide (v.v2 < 2048) && decide (v.v3 < 2048)
    && decide (v.spitDrops < 64) && decide (v.lightPurge < 2097152)
    && decide (v.heavyPurge < 8388608) && decide (v.refillMark < 67108864)
    && decide (v.reserve < 67108864)

/-- Six settings blocks. -/
def settingsWf (t : PerChannel Settings) : Bool := Channel.all.all fun c => (t.get c).wf

/-- One channel block of section 0 (12.3). -/
def Reservoir.wf (r : Reservoir) : Bool :=
  decide (r.capacity < 4294967296) && decide (r.lowLevel < 4294967296)
    && decide (r.fullLevel < 4294967296) && decide (r.tolerance < 16777216)
    && decide (r.credit < 16777216)

/-- The fields of section 0 (12.3). -/
def Section0.wf (x : Section0) : Bool := Channel.all.all fun c => (x.reservoir.get c).wf

/-- The fields of section 1 (12.3). -/
def Section1.wf (x : Section1) : Bool :=
  (Channel.all.all fun c => decide (x.budget.get c < 256)) && decide (x.starveThreshold < 256)
    && decide (x.leakLimit < 256) && decide (x.statusPeriod < 256)
    && decide (x.controllerTimeout < 65536) && decide (x.errorLimit < 65536)

/-- The fields of section 2 (12.3). -/
def Section2.wf (x : Section2) : Bool :=
  decide (x.sensorDistance < 16777216) && decide (x.stopMargin < 65536)
    && decide (x.skewLimit < 65536) && decide (x.slipLimit < 65536)
    && decide (x.vacuumTail < 16777216) && decide (x.highMark < 256) && decide (x.lowMark < 256)

/-- The six time limits (12.3). -/
def TimeLimits.wf (x : TimeLimits) : Bool :=
  decide (x.move < 65536) && decide (x.spit < 65536) && decide (x.wipe < 65536)
    && decide (x.check < 65536) && decide (x.lightPurge < 65536) && decide (x.heavyPurge < 65536)

/-- The fields of section 3's first part (12.3). -/
def Section3First.wf (x : Section3First) : Bool :=
  decide (x.keepWetInterval < 65536) && decide (x.capIdleTime < 16777216)
    && (Source.all.all fun src => decide (x.levels.get src < 256)) && x.limits.wf

/-- A drop word (12.3). -/
def Drops.wf (d : Drops) : Bool := decide (d.count < 4194304)

/-- A channel view as STATUS carries it (12.3). -/
def ChannelView.wf (v : ChannelView) : Bool := decide (v.effective < 4)

/-- A guard line as STATUS carries it (R178). -/
def GuardLine.wf : GuardLine → Bool
  | .line n => decide (n < 4194303)
  | .allClear => true

/-- An optional number within a bound. -/
def optBelow (n : Nat) : Option Nat → Bool
  | some v => decide (v < n)
  | none => true

/-- The fields of a STATUS as its frame carries them (R178). -/
def PeerStatus.wf (f : PeerStatus) : Bool :=
  optBelow 65536 f.sheet && f.guard.wf && optBelow 16777216 f.capture
    && Channel.all.all fun c => (f.channels.get c).wf

/-- An order reference: one byte (12.3). -/
def refWf (ref : Nat) : Bool := decide (ref < 256)

/-- The command's operands are within what can reach the station. -/
def Instr.wellFormed : Instr → Bool
  | .powerOn _ _ => true
  | .resetPinAsserted => true
  | .feed moveId distance speed _ =>
    decide (moveId < 256) && decide (distance < 16777216) && decide (speed < 4)
  | .sheet ref sheetId _ printLength _ _ leadLimit =>
    refWf ref && decide (sheetId < 65536) && decide (printLength < 16777216)
      && decide (leadLimit < 16777216)
  | .abortSheet sheetId => decide (sheetId < 65536)
  | .band ref tag sheetId line length issue drops =>
    refWf ref && decide (tag < 16) && decide (sheetId < 65536) && decide (line < 4194304)
      && decide (length < 65536) && decide (issue < 256)
      && Channel.all.all fun c => (drops.get c).wf
  | .serviceCap ref => refWf ref
  | .serviceUncap ref => refWf ref
  | .serviceWipe ref => refWf ref
  | .serviceGapSpit ref => refWf ref
  | .serviceCheck ref groups =>
    refWf ref && decide (groups.length ≤ 59) && groups.all fun g => decide (g < 65536)
  | .servicePurgeLight ref _ => refWf ref
  | .servicePurgeHeavy ref _ => refWf ref
  | .setMask ref level => refWf ref && decide (level < 256)
  | .settings ref values => refWf ref && settingsWf values
  | .tallyClose ref => refWf ref
  | .tallyPeek ref => refWf ref
  | .clearFaults ref => refWf ref
  | .clearLadder ref _ => refWf ref
  | .clearLineStarved ref _ => refWf ref
  | .configSection0 ref content => refWf ref && content.wf
  | .configSection1 ref content => refWf ref && content.wf
  | .configSection2 ref content => refWf ref && content.wf
  | .configSection3FirstPart ref content => refWf ref && content.wf
  | .configSection3SecondPart ref initial => refWf ref && settingsWf initial
  | .start ref => refWf ref
  | .restart ref _ => refWf ref
  | .peerStatusHeard _ status => status.wf
  | .beaconHeard _ sheetId => optBelow 65536 sheetId
  | .frameDiscarded => true
  | .duplicateStationHeard => true
  | .frameIgnored => true
  | .frameBegin => true
  | .arbitrationLost => true
  | .transmitMismatch => true
  | .frameSent => true
  | .statusPeriodExpiry => true
  | .spacingCountExpiry => true
  | .peerEntryLost _ => true
  | .controllerTimeout => true
  | .errorWindowEnd => true
  | .markChange _ _ _ => true
  | .markSettled _ _ _ => true
  | .flowPulse _ => true
  | .flowWindowEnd _ => true
  | .backoffEnd _ => true
  | .leakWindowEnd _ => true
  | .waitingLimitReached _ => true
  | .stepDue => true
  | .encoderCount => true
  | .leadingEdge => true
  | .trailingEdge => true
  | .skewWindowEnd => true
  | .fholdAsserted => true
  | .fholdReleased => true
  | .sledArrival _ => true
  | .headResult number group missed =>
    decide (number < 256) && decide (group < 576)
      && missed.all fun n => decide (n / 64 = group % 96)
  | .headDone number => decide (number < 256)
  | .actionTimeout => true
  | .capIdleExpiry => true
  | .keepWetExpiry => true
  | .sledDeparture => true
  | .clearOrder ref _ _ _ => refWf ref
  | .tallyUnknownOperation ref operation =>
    refWf ref && decide (2 ≤ operation) && decide (operation < 256)
  | .serviceUnknownRequest ref => refWf ref
  | .configUnknownSection ref => refWf ref

end Sys2Proof
end

