-- ==== Sys2Proof/Safety.lean ====
section
/-! DEFINITION. What counts as a safe station: the properties of 00_scope.md and of the rules that every
step keeps, each as a predicate on a state, and the words in which the statements speak of commands. -/

namespace Sys2Proof

/-! ### Kinds of commands -/

/-- Power-on, and the RESET pin (R198). -/
def Instr.powersOn : Instr → Bool
  | .powerOn _ _ | .resetPinAsserted => true
  | _ => false

/-- A RESTART order (R197). -/
def Instr.restarts : Instr → Bool
  | .restart _ _ => true
  | _ => false

/-- The commands that may close a tally period, by order or at a sheet edge (R160, R164). -/
def Instr.mayClose : Instr → Bool
  | .tallyClose _ | .leadingEdge | .trailingEdge => true
  | _ => false

/-- The commands that may move a channel's estimate: power-on and START (R22), a pulse or a mark of the
channel (R14, R16), and whatever may end a band (R50, R56, R57) or complete a spit or a purge (R97, R99). -/
def Instr.movesInk (c : Channel) : Instr → Bool
  | .powerOn _ _ | .resetPinAsserted | .start _ | .encoderCount | .abortSheet _
  | .headDone _ | .sledArrival _ => true
  | .sheet _ _ _ _ _ _ _ => true
  | .flowPulse d => decide (d = c)
  | .markChange d _ _ => decide (d = c)
  | _ => false

/-- The commands that may change what feed control holds, but for its FHOLD drive and readiness hold (R76):
the orders and events of chapter 4, a STATUS heard within the skew window (R83), and the halt (R199). -/
def Instr.movesSheet : Instr → Bool
  | .feed _ _ _ _ | .sheet _ _ _ _ _ _ _ | .abortSheet _ | .stepDue | .encoderCount | .leadingEdge
  | .trailingEdge | .skewWindowEnd | .fholdAsserted | .fholdReleased | .peerStatusHeard _ _
  | .duplicateStationHeard => true
  | _ => false

/-- The commands that may complete a spit or a CHECK, or miss an expiry (R97, R98, R117, R119). -/
def Instr.spitsOrChecks : Instr → Bool
  | .headDone _ | .sledArrival _ | .keepWetExpiry => true
  | _ => false

/-- The commands that may complete a CHECK (R131) or retire a band record (R50, R56, R57, R134). -/
def Instr.touchesGroups : Instr → Bool
  | .headDone _ | .sledArrival _ | .encoderCount | .abortSheet _ | .sheet _ _ _ _ _ _ _ => true
  | _ => false

end Sys2Proof

namespace Sys2Proof.Machine

/-! ### Words of the statements -/

/-- A command completes in a state. -/
def Completes (i : Instr) (s t : State) : Prop := exec i s = Host.Outcome.next t

/-- The station with a last-order outcome recorded and nothing else changed (R184). -/
def State.withOutcome (s : State) (kind : OrderKind) (ref : Nat) (code : OutcomeCode) : State :=
  { s with link := { s.link with outcome := some { kind := kind, ref := ref, code := code } } }

/-- The station takes commands, and is in RUN. -/
def State.running (s : State) : Prop := s.mode.resetPin = false ∧ s.mode.mode = .run

/-- The last-order outcome. -/
def State.shows (s : State) (kind : OrderKind) (ref : Nat) (code : OutcomeCode) : Prop :=
  s.link.outcome = some { kind := kind, ref := ref, code := code }

/-- The request that a SERVICE order other than SET MASK names: its reference and its one action (R111). -/
def serviceRequest : Instr → Option (Nat × Action)
  | .serviceCap ref => some (ref, .cap)
  | .serviceUncap ref => some (ref, .uncap)
  | .serviceWipe ref => some (ref, .wipe)
  | .serviceGapSpit ref => some (ref, .gapSpit)
  | .serviceCheck ref groups => some (ref, .check (sortNums groups))
  | .servicePurgeLight ref channels => some (ref, .purge false channels)
  | .servicePurgeHeavy ref channels => some (ref, .purge true channels)
  | _ => none

/-- Step 4 of R111 on a SERVICE order: a CHECK list of 1 to 16 groups, each 0 to 575 and of an enabled
channel; a purge's channel set that is not empty and holds enabled channels alone. -/
def State.serviceFits (s : State) : Instr → Bool
  | .serviceCheck _ groups =>
    decide (1 ≤ groups.length) && decide (groups.length ≤ 16)
      && groups.all fun g =>
        decide (g ≤ 575) && Channel.all.any fun c => s.enabled c && decide (g / 96 = c.num)
  | .servicePurgeLight _ set | .servicePurgeHeavy _ set =>
    (Channel.all.any fun c => set.get c) && Channel.all.all fun c => !set.get c || s.enabled c
  | _ => true

/-! ### BAND orders (R43, R44, R46) -/

/-- The sheet taking bands (R43): the sheet reference in phase PENDING, ACTIVE or TRAILING. -/
abbrev State.takes (s : State) (n : Nat) : Prop :=
  s.bands.sheetRef = some n ∧ s.feed.phase ≠ .none ∧ s.feed.phase ≠ .ended

/-- The next sheet (R43): the id of 16 bits that follows the sheet reference. -/
abbrev State.follows (s : State) (n : Nat) : Prop := ∃ k ∈ s.bands.sheetRef, n = (k + 1) % 65536

/-- The announced end of a sheet (R44): the end of its last record held; with none, the last retired end for
the sheet taking bands and 0 for the next sheet. -/
def State.announced (s : State) (n : Nat) : Nat :=
  match (s.bands.records.filter fun r => r.sheet = n).getLast? with
  | some r => r.start + r.length
  | none => if s.bands.sheetRef = some n then s.bands.lastRetired else 0

/-- Steps 3 to 8 of R44 in their order, each with the outcome of its failing. -/
def State.bandTests (s : State) (n first len : Nat) : List (Prop × OutcomeCode) :=
  [(s.bands.records.length < 16, .refusedFull),
   (s.takes n ∨ s.follows n, .refusedSequence),
   (1 ≤ len ∧ len ≤ 256, .refusedRange),
   (s.announced n ≤ first, .refusedSequence),
   (s.takes n → ∀ p ∈ s.feed.capture, s.feed.position ≤ p + s.sec2.sensorDistance + 4 * first,
    .refusedSequence),
   (s.takes n → ∃ r ∈ s.feed.sheet, first + len ≤ r.printLength, .refusedRange)]

/-- The tests of R46 in their order, on a new length for a STALE record, each with the outcome of its failing:
the next record of the sheet is the first that starts beyond this one. -/
def State.replaceTests (s : State) (old : BandRecord) (len : Nat) : List (Prop × OutcomeCode) :=
  [(1 ≤ len ∧ len ≤ 256, .refusedRange),
   (∀ x ∈ s.bands.records.find? (fun y => y.sheet = old.sheet ∧ old.start < y.start),
      old.start + len ≤ x.start, .refusedSequence),
   (s.feed.phase ≠ .none → s.bands.sheetRef = some old.sheet →
      ∃ r ∈ s.feed.sheet, old.start + len ≤ r.printLength, .refusedRange)]

/-- Every test of a list passes. -/
def Passes : List (Prop × OutcomeCode) → Prop
  | [] => True
  | x :: rest => x.1 ∧ Passes rest

/-- The first test of a list that fails gives the outcome (R44, R46). -/
def FailsWith (tests : List (Prop × OutcomeCode)) (code : OutcomeCode) : Prop :=
  ∃ pre p post, tests = pre ++ (p, code) :: post ∧ Passes pre ∧ ¬ p

/-! ### Fields brought into their ranges (R155, R192, R193) -/

/-- A field's value `x` as it is held within its range: the nearer end where it is outside (R191). -/
def Clamped (lo hi x y : Nat) : Prop :=
  (x < lo → y = lo) ∧ (lo ≤ x → x ≤ hi → y = x) ∧ (hi < x → y = hi)

/-- The settings of a channel within the ranges of R155. -/
def SettingsClamped (v w : Settings) : Prop :=
  Clamped 100 2000 v.v0 w.v0 ∧ Clamped 100 2000 v.v1 w.v1 ∧ Clamped 100 2000 v.v2 w.v2
    ∧ Clamped 100 2000 v.v3 w.v3 ∧ Clamped 1 32 v.spitDrops w.spitDrops
    ∧ Clamped 10000 2000000 v.lightPurge w.lightPurge
    ∧ Clamped 50000 5000000 v.heavyPurge w.heavyPurge
    ∧ Clamped 0 67108863 v.refillMark w.refillMark ∧ Clamped 0 67108863 v.reserve w.reserve

/-- Section 0 within the ranges of R192. -/
def Section0Clamped (x y : Section0) : Prop :=
  y.enabled = x.enabled ∧ ∀ c,
    Clamped 1000000 67108863 (x.reservoir.get c).capacity (y.reservoir.get c).capacity
    ∧ Clamped 0 67108863 (x.reservoir.get c).lowLevel (y.reservoir.get c).lowLevel
    ∧ Clamped 0 67108863 (x.reservoir.get c).fullLevel (y.reservoir.get c).fullLevel
    ∧ Clamped 0 1000000 (x.reservoir.get c).tolerance (y.reservoir.get c).tolerance
    ∧ Clamped 100 100000 (x.reservoir.get c).credit (y.reservoir.get c).credit

/-- Section 1 within the ranges of R192. -/
def Section1Clamped (x y : Section1) : Prop :=
  (∀ c, Clamped 1 8 (x.budget.get c) (y.budget.get c))
    ∧ Clamped 1 255 x.starveThreshold y.starveThreshold ∧ Clamped 1 255 x.leakLimit y.leakLimit
    ∧ Clamped 5 100 x.statusPeriod y.statusPeriod
    ∧ Clamped 100 5000 x.controllerTimeout y.controllerTimeout
    ∧ Clamped 1 1000 x.errorLimit y.errorLimit

/-- Section 2 within the ranges of R193. -/
def Section2Clamped (x y : Section2) : Prop :=
  Clamped 1 1048575 x.sensorDistance y.sensorDistance ∧ Clamped 0 4095 x.stopMargin y.stopMargin
    ∧ Clamped 0 1023 x.skewLimit y.skewLimit ∧ Clamped 1 65535 x.slipLimit y.slipLimit
    ∧ Clamped 0 1048575 x.vacuumTail y.vacuumTail ∧ Clamped 0 16 x.highMark y.highMark
    ∧ Clamped 0 16 x.lowMark y.lowMark

/-- Section 3 within the ranges of R193, its initial settings within those of R155; its flags have no range. -/
def Section3Clamped (x y : Section3) : Prop :=
  Clamped 200 60000 x.first.keepWetInterval y.first.keepWetInterval
    ∧ Clamped 1000 600000 x.first.capIdleTime y.first.capIdleTime
    ∧ (∀ src, Clamped 0 7 (x.first.levels.get src) (y.first.levels.get src))
    ∧ Clamped 100 65535 x.first.limits.move y.first.limits.move
    ∧ Clamped 100 65535 x.first.limits.spit y.first.limits.spit
    ∧ Clamped 100 65535 x.first.limits.wipe y.first.limits.wipe
    ∧ Clamped 100 65535 x.first.limits.check y.first.limits.check
    ∧ Clamped 100 65535 x.first.limits.lightPurge y.first.limits.lightPurge
    ∧ Clamped 100 65535 x.first.limits.heavyPurge y.first.limits.heavyPurge
    ∧ y.first.autoRecovery = x.first.autoRecovery ∧ y.first.leadingClose = x.first.leadingClose
    ∧ y.first.leadingPeek = x.first.leadingPeek ∧ y.first.trailingClose = x.first.trailingClose
    ∧ y.first.trailingPeek = x.first.trailingPeek
    ∧ ∀ c, SettingsClamped (x.initial.get c) (y.initial.get c)

/-! ### Steps (R69, R73, R74, R85) -/

/-- The guard line that a station of the active set counts for the sheet (R73): its own, or a PRESENT peer's
as last heard where the peer shows this sheet, and otherwise line 0. -/
def State.guardCounted (s : State) (r : SheetRecord) (n : StationNo) : GuardLine :=
  if n = s.mode.station then s.bands.guard
  else
    match (s.link.peers.get n).presence, (s.link.peers.get n).fields with
    | .present, some f => if f.sheet = some r.sheet then f.guard else .line 0
    | _, _ => .line 0

/-- A feed count stands before a guard line of a sheet with this base (R74); OPEN is before none. -/
def guardAllows (g : GuardLine) (base x : Nat) : Bool :=
  match g with
  | .allClear => true
  | .line k => decide (x < base + 4 * k)

/-- A feed count is below the effective limit (R74): there is a sheet; with this station at work on it no other
active station's entry is LOST; and with a sheet base known the count is below base + 4 × line for the guard
line of every active station, which is to say for the smallest (R73). -/
abbrev State.belowLimit (s : State) (x : Nat) : Prop :=
  ∃ r ∈ s.feed.sheet, s.feed.phase ≠ .none
    ∧ (r.active.get s.mode.station = true → s.feed.phase ≠ .ended → ∀ n, n ≠ s.mode.station →
        r.active.get n = true → (s.link.peers.get n).presence ≠ .lost)
    ∧ ∀ p ∈ s.feed.capture, ∀ n, r.active.get n = true →
        guardAllows (s.guardCounted r n) (p + s.sec2.sensorDistance) x = true

/-- The next step would bring the sheet to the print line while the sled is out (R69): in ACTIVE or TRAILING,
with the sled away from PARK or commanded away (notes/assumptions/21.md), it meets the known sheet base. -/
abbrev State.meetsSledOut (s : State) : Prop :=
  (s.feed.phase = .active ∨ s.feed.phase = .trailing)
    ∧ (s.service.sled ≠ .standing .park ∨ ∃ q ∈ s.service.motion, q ≠ .park)
    ∧ ∃ p ∈ s.feed.capture, s.feed.commanded + 1 = p + s.sec2.sensorDistance

/-- The tests of R69 on a step of a move: FHOLD reads released; a non-eject move's position and commanded step
count are below the effective limit; and the step does not meet the sheet base with the sled out. -/
abbrev State.mayStep (s : State) (m : Move) : Prop :=
  s.feed.fholdDrive = false ∧ s.feed.fholdLine = false
    ∧ (m.eject = false → s.belowLimit s.feed.position ∧ s.belowLimit s.feed.commanded)
    ∧ ¬ s.meetsSledOut

/-- A move is RUNNING or HELD, and where `bound` it is a non-eject one. -/
abbrev State.moves (s : State) (bound : Bool) : Prop :=
  ∃ m ∈ s.feed.move, (m.state = .running ∨ m.state = .held) ∧ (bound = true → m.eject = false)

/-- The station is not ready (R67): capped, with a block dry-suspect, or with a forced check pending. -/
abbrev State.unready (s : State) : Prop :=
  s.service.capped = true ∨ s.keepWet.dry ≠ [] ∨ s.keepWet.forced = true

/-- The five conditions of R76, any one of which has the station drive FHOLD: the mode; a sheet-stop fault
(R86); a non-eject move with the position or the commanded step count within the stop margin of the effective
limit; the readiness hold of a move that started unready; a move with the sled out and the sheet within the
stop margin of its base. -/
def State.drivesFhold (s : State) : Prop :=
  s.mode.mode ≠ .run
  ∨ (∃ f ∈ s.faults.active, f.sheetStop = true)
  ∨ (s.moves true ∧ ¬ (s.belowLimit (s.feed.position + s.sec2.stopMargin)
      ∧ s.belowLimit (s.feed.commanded + s.sec2.stopMargin)))
  ∨ s.feed.readinessHold = true
  ∨ (s.moves false ∧ (s.feed.phase = .active ∨ s.feed.phase = .trailing)
      ∧ (s.service.sled ≠ .standing .park ∨ ∃ q ∈ s.service.motion, q ≠ .park)
      ∧ ∃ p ∈ s.feed.capture,
          p + s.sec2.sensorDistance ≤ s.feed.position + s.sec2.stopMargin
          ∨ p + s.sec2.sensorDistance ≤ s.feed.commanded + s.sec2.stopMargin + 1)

/-- The FHOLD drive has been worked out anew (R76): it stands as the five conditions say, and a readiness hold
stands on exactly while the move is in progress and the station is not ready. -/
def DriveWorkedOut (s t : State) : Prop :=
  (t.feed.fholdDrive = true ↔ t.drivesFhold)
  ∧ (t.feed.readinessHold = true ↔ s.feed.readinessHold = true ∧ t.unready ∧ t.moves false)

/-- The slip test of an event (R85): with a leading capture held and SLIP not yet raised for the sheet, the
steps issued since the capture less the encoder counts since it, as the event leaves them, raise SLIP beyond
the limit, and raise nothing within it, also where both counts stand at their end (notes/assumptions/44.md). -/
def SlipTested (s t : State) : Prop :=
  ∀ p ∈ t.feed.capture, ∀ n ∈ t.feed.stepsAtCapture, s.feed.slipRaised = false →
    let d : Int := ((t.feed.commanded : Int) - n) - ((t.feed.position : Int) - p)
    (s.sec2.slipLimit < d.natAbs →
      FaultCode.slip ∈ t.faults.active ∧ t.feed.fholdDrive = true ∧ t.feed.slipRaised = true)
    ∧ (d.natAbs ≤ s.sec2.slipLimit →
      t.feed.slipRaised = false ∧ (FaultCode.slip ∈ t.faults.active → FaultCode.slip ∈ s.faults.active))

/-! ### Skew (R83, R84) -/

/-- The neighbours of the station in the active set of its sheet, the one below first (R83). -/
def State.neighbours (s : State) : List StationNo :=
  match s.feed.sheet with
  | some r => allStations.filter fun n =>
      r.active.get n
        && (decide (n.val + 1 = s.mode.station.val) || decide (s.mode.station.val + 1 = n.val))
  | none => []

/-- The capture that a station's entry makes available (R83): PRESENT, with this sheet and a leading capture. -/
def State.heardCapture (s : State) (n : StationNo) : Option Nat :=
  match (s.link.peers.get n).presence, (s.link.peers.get n).fields with
  | .present, some f => if f.sheet = s.feed.sheet.map SheetRecord.sheet then f.capture else none
  | _, _ => none

/-- The captures of all neighbours are available (R83). -/
abbrev State.capturesHeard (s : State) : Prop := ∀ n ∈ s.neighbours, s.heardCapture n ≠ none

/-- The skew estimate for an own capture (R84), from the captures available. -/
def State.skewEstimate (s : State) (a : Nat) : Int :=
  match s.neighbours.filterMap s.heardCapture with
  | [] => 0
  | [b] => (a : Int) - b
  | b :: c :: _ => (2 * (a : Int) - b - c).tdiv 2

/-- The skew estimate has been worked out for an own capture, and has set the trim or raised SKEW (R83, R84). -/
def SkewJudged (s t : State) (a : Nat) : Prop :=
  t.feed.skewWindow = none ∧ t.feed.skew = some (t.skewEstimate a)
  ∧ ((t.skewEstimate a).natAbs ≤ s.sec2.skewLimit →
      t.feed.trim = -t.skewEstimate a
      ∧ (FaultCode.skew ∈ t.faults.active → FaultCode.skew ∈ s.faults.active))
  ∧ (s.sec2.skewLimit < (t.skewEstimate a).natAbs →
      t.feed.trim = s.feed.trim ∧ FaultCode.skew ∈ t.faults.active)

/-- The skew estimate has not been worked out in the event (R83). -/
def SkewStands (s t : State) : Prop :=
  t.feed.skew = s.feed.skew ∧ t.feed.trim = s.feed.trim
  ∧ (FaultCode.skew ∈ t.faults.active → FaultCode.skew ∈ s.faults.active)

/-! ### The arbiter's choice (R93, R96, R102, R104, R105, R109) -/

/-- The needs of R96 for an action's start: a SHEET SPIT wants the sheet under the segment, one that allows it,
and the sled at PARK; every other the sheet clear (R93); a purge also the ink of each channel it lists (R8). -/
def State.mayBegin (s : State) (a : Action) : Prop :=
  match a with
  | .sheetSpit => s.feed.underSegment = true ∧ (∃ r ∈ s.feed.sheet, r.spitAllowed = true)
      ∧ s.service.sled = .standing .park
  | a => s.feed.underSegment = false
      ∧ (s.feed.phase = .active ∨ s.feed.phase = .trailing → ∀ p ∈ s.feed.capture,
          s.feed.commanded < p + s.sec2.sensorDistance)
      ∧ match a with
        | .purge heavy set => ∀ c, set.get c = true → s.enabled c = true
            ∧ (s.ink.get c).state = .known
            ∧ (if heavy then (s.settingsOf c).heavyPurge else (s.settingsOf c).lightPurge)
                + (s.settingsOf c).reserve ≤ (s.ink.get c).estimate
        | _ => True

/-- A channel whose ladder is due and passes the two tests of R144. -/
def State.offersRecovery (s : State) (c : Channel) : Bool :=
  let l := s.nozzle.ladders.get c
  decide (1 ≤ l.level) && decide (l.level ≤ 4) && !l.exhausted && !l.inService
    && (s.nozzle.failed.any fun f => decide (f.channel.num * 96 + f.nozzle / 64 ∈ l.affected))
    && (decide (l.level ≤ 2)
      || !(s.refill.get c).starvedMark && !(s.refill.get c).lockedMark)

/-- The sequence that a source's request would run now (R102), with the channel that a RECOVERY serves: the
lowest-numbered one that offers it, by the table of R144. -/
def State.sequenceOf (s : State) : Source → List Action × Option Channel
  | .order => (s.service.order.toList, none)
  | .uncapNeed => ([.uncap], none)
  | .keepWet => (if s.service.capped then [.uncap, .gapSpit, .cap] else [.gapSpit], none)
  | .sheetSpit => ([.sheetSpit], none)
  | .recovery =>
    match Channel.all.find? s.offersRecovery with
    | none => ([], none)
    | some c =>
      let l := s.nozzle.ladders.get c
      let only : ChannelSet := (PerChannel.fill false).set c true
      (match l.level with
        | 1 => [.gapSpit, .check l.affected]
        | 2 => [.wipe, .gapSpit, .check l.affected]
        | 3 => [.purge false only, .wipe, .gapSpit, .check l.affected]
        | _ => [.purge true only, .wipe, .gapSpit, .check l.affected], some c)
  | .forcedCheck => ([.check s.forcedGroups], none)
  | .capIdle => ([.cap], none)

/-- A pending request is eligible (R104), with no action in progress and the arbiter not stopped: not held by the
mask, of a level below that of the top of the stack, and with the needs of its first action. -/
def State.mayChoose (s : State) (src : Source) : Prop :=
  s.service.pending.get src = true ∧ s.sec3.levels.get src ≤ s.service.mask
  ∧ (∀ q ∈ s.service.stack.head?, s.sec3.levels.get src < q.level)
  ∧ ∃ a ∈ (s.sequenceOf src).1.head?, s.mayBegin a

/-- A source stands before another in the choice of R105: by level, and at the same level by source order. -/
def State.choosesBefore (s : State) (a b : Source) : Prop :=
  s.sec3.levels.get a < s.sec3.levels.get b
  ∨ s.sec3.levels.get a = s.sec3.levels.get b ∧ Source.all.idxOf a ≤ Source.all.idxOf b

/-- The conditions of R109 for UNCAP-NEED at a boundary: the station at work on a sheet of its own, with no
action, an empty stack, and the sled out (notes/assumptions/21.md) or the head capped. -/
abbrev State.wantsUncap (s : State) : Prop :=
  s.mode.mode = .run ∧ (∃ r ∈ s.feed.sheet, r.active.get s.mode.station = true)
  ∧ (s.feed.phase = .pending ∨ s.feed.phase = .active ∨ s.feed.phase = .trailing)
  ∧ s.service.current = none ∧ s.service.stack = []
  ∧ ((s.service.sled ≠ .standing .park ∨ ∃ q ∈ s.service.motion, q ≠ .park)
      ∨ s.service.capped = true)

/-- The station at a boundary that a SET MASK makes: the mask level taken, and UNCAP-NEED pending where R109
raises it. -/
def State.atMask (s : State) (level : Nat) : State :=
  { s with service := { s.service with
      mask := level
      pending :=
        if s.wantsUncap then s.service.pending.set .uncapNeed true else s.service.pending } }

/-! ### The send slots (R176, R186) -/

/-- The slot that an idle line would take a frame from: the first unsent one in the order of R176, NOZZLE NOTICE
and TALLY REPORT in RUN alone (R186). -/
def State.sends (s : State) : Slot → Prop
  | .faultNotice => s.link.faultSlot = true
  | .nozzleNotice => s.link.faultSlot = false ∧ s.mode.mode = .run ∧ s.link.nozzleSlot.isSome = true
  | .tallyReport => s.link.faultSlot = false ∧ s.mode.mode = .run ∧ s.link.nozzleSlot = none
      ∧ s.link.reportSlot.isSome = true
  | .status => s.link.faultSlot = false
      ∧ (s.mode.mode = .run → s.link.nozzleSlot = none ∧ s.link.reportSlot = none)
      ∧ s.link.statusDue = true

/-! ### CLEAR, orders by mode, STATUS, bands, ink, nozzles -/

/-- The parts that a CLEAR order names: its reference, the faults, the ladders, the line-starved marks
(R206). -/
def clearRequest : Instr → Option (Nat × Bool × ChannelSet × ChannelSet)
  | .clearFaults ref => some (ref, true, PerChannel.fill false, PerChannel.fill false)
  | .clearLadder ref channels => some (ref, false, channels, PerChannel.fill false)
  | .clearLineStarved ref channels => some (ref, false, PerChannel.fill false, channels)
  | .clearOrder ref faults ladders starved => some (ref, faults, ladders, starved)
  | _ => none

/-- Where a refill channel goes that a CLEAR takes out of STARVED or LOCKED (R38, R39): IDLE, and at once WANT, and
OPEN where the opening test passes, exactly where R27 allows. -/
def ComesToIdle (t : State) (d : Channel) : Prop :=
  let y := t.refill.get d
  let needs := t.enabled d = true ∧ 1 ≤ y.effective ∧ (t.ink.get d).full.state = .dry
  (needs → y.state = .want ∨ y.state = .opened) ∧ (¬ needs → y.state = .idle)

/-- What a CLEAR, naming the faults or not and the line-starved marks of a set, does to one refill channel (R38,
R39). A HELD one stays HELD; the others stand as said unless the event starts a purge (R36). -/
def RefillCleared (s t : State) (faults : Bool) (starved : ChannelSet) (d : Channel) : Prop :=
  let x := s.refill.get d
  let y := t.refill.get d
  (x.state = .held → y.state = .held)
  ∧ (faults = true → y.lockedMark = false ∧ y.leakCount = 0 ∧ y.leakWindow = none)
  ∧ (faults = false → y.lockedMark = x.lockedMark)
  ∧ (t.purgeRunning = false →
      (x.state = .starved → starved.get d = true → x.starvedMark = true →
        (faults = false → x.lockedMark = true → y.state = .locked)
        ∧ (faults = true ∨ x.lockedMark = false → ComesToIdle t d))
      ∧ (x.state = .starved → starved.get d = false ∨ x.starvedMark = false → y.state = .starved)
      ∧ (x.state = .locked → faults = false → y.state = .locked)
      ∧ (x.state = .locked → faults = true →
        (y.starvedMark = true → y.state = .starved) ∧ (y.starvedMark = false → ComesToIdle t d)))

/-- The orders that are refused REFUSED_MODE outside RUN, with the kind and reference of their outcome
(R190). -/
def runOrder : Instr → Option (OrderKind × Nat)
  | .sheet ref _ _ _ _ _ _ => some (.sheet, ref)
  | .abortSheet sheetId => some (.abortSheet, sheetId)
  | .band ref _ _ _ _ _ _ => some (.band, ref)
  | .serviceCap ref => some (.service, ref)
  | .serviceUncap ref => some (.service, ref)
  | .serviceWipe ref => some (.service, ref)
  | .serviceGapSpit ref => some (.service, ref)
  | .serviceCheck ref _ => some (.service, ref)
  | .servicePurgeLight ref _ => some (.service, ref)
  | .servicePurgeHeavy ref _ => some (.service, ref)
  | .setMask ref _ => some (.service, ref)
  | .serviceUnknownRequest ref => some (.service, ref)
  | .settings ref _ => some (.settings, ref)
  | .tallyClose ref => some (.tally, ref)
  | .tallyPeek ref => some (.tally, ref)
  | .tallyUnknownOperation ref _ => some (.tally, ref)
  | .clearFaults ref => some (.clear, ref)
  | .clearLadder ref _ => some (.clear, ref)
  | .clearLineStarved ref _ => some (.clear, ref)
  | .clearOrder ref _ _ _ => some (.clear, ref)
  | _ => none

/-- The orders that are refused REFUSED_MODE outside CONFIG, with the reference of their outcome (R190,
R211). -/
def configOrder : Instr → Option Nat
  | .configSection0 ref _ => some ref
  | .configSection1 ref _ => some ref
  | .configSection2 ref _ => some ref
  | .configSection3FirstPart ref _ => some ref
  | .configSection3SecondPart ref _ => some ref
  | .configUnknownSection ref => some ref
  | _ => none

/-- The orders, each with a last-order outcome where it records one (R184). -/
def isOrder (i : Instr) : Bool :=
  (runOrder i).isSome || (configOrder i).isSome
    || match i with
      | .feed _ _ _ _ | .start _ | .restart _ _ => true
      | _ => false

/-- A band record but for its state: what coverage and the map issue never change of it. -/
def BandRecord.plan (r : BandRecord) : BandRecord := { r with state := .announced }

/-- A band record but for the judgement of R20 between ANNOUNCED and COVERED. -/
def BandRecord.unjudged (r : BandRecord) : BandRecord :=
  if r.state = .covered then { r with state := .announced } else r

/-- The coverage of the queue is as the walk of R19 and R20 leaves it: of a record that is neither PRINTING nor
STALE, COVERED exactly where every record before it is COVERED or PRINTING, no enabled channel is UNKNOWN, no
group is UNCOVERED or its sheet is the sheet record's and allows degraded print, and every enabled channel keeps
its reserve once its residue and the volumes up to and with this record are gone, in whole nL rounded up. -/
def State.coverageStands (s : State) : Prop :=
  ∀ pre r post, s.bands.records = pre ++ r :: post → r.state = .announced ∨ r.state = .covered →
    (r.state = .covered ↔
      (∀ x ∈ pre, x.state = .covered ∨ x.state = .printing)
      ∧ (s.anyUncovered = false
        ∨ ∃ y ∈ s.feed.sheet, y.sheet = r.sheet ∧ y.degraded = true)
      ∧ ∀ c, s.enabled c = true → (s.ink.get c).state = .known
        ∧ (s.settingsOf c).reserve
            + ((s.ink.get c).residue + ((pre ++ [r]).map fun x => x.volume.get c).sum + 99999) / 100000
          ≤ (s.ink.get c).estimate)

/-- The content of the STATUS that a station sends, as its readers take it (R178, R180). -/
def State.shown (s : State) : PeerStatus :=
  { mode := s.mode.mode
    sheet := s.feed.sheet.map SheetRecord.sheet
    guard := s.bands.guard
    capture := s.feed.capture
    channels := PerChannel.gen fun c =>
      { state := (s.refill.get c).state, effective := (s.refill.get c).effective,
        starved := (s.refill.get c).starvedFlag } }

/-- What the fields of a STATUS hold is within what its frame carries (R178). -/
def State.statusFits (s : State) : Prop :=
  s.shown.wf = true ∧ s.bands.records.length ≤ Config.queueSize

/-- One of the growing tallies of a channel (R153). -/
def TallyChannel.amount (t : TallyChannel) : Amount → Nat
  | .printed => t.printed
  | .spit => t.spit
  | .purge => t.purge
  | .refilled => t.refilled

/-- What a deduction does to one channel (R9 to R11, R154): a KNOWN one gives up `whole` nL, clamped at 0 with
UNDERRUN and the difference booked, and keeps `residue`; an UNKNOWN one hands `blind` nL to its tallies alone;
a disabled one is passed over (R2). -/
def Deducts (s t : State) (k : Amount) (c : Channel) (whole residue blind : Nat) : Prop :=
  let x := s.ink.get c
  let a := s.tally.channels.get c
  let b := t.tally.channels.get c
  (s.enabled c = false → t.ink.get c = x ∧ b = a)
  ∧ (∀ j, j ≠ k → b.amount j = a.amount j)
  ∧ (s.enabled c = true → x.state = .known →
      t.ink.get c = { x with estimate := x.estimate - whole, residue := residue }
      ∧ b.amount k = Nat.min 4294967295 (a.amount k + whole)
      ∧ (whole ≤ x.estimate → b.adjusted = a.adjusted)
      ∧ (x.estimate < whole →
          b.adjusted = max (-2147483648) (min 2147483647 (a.adjusted + ((whole : Int) - x.estimate)))
          ∧ FaultCode.underrun ∈ t.faults.active))
  ∧ (s.enabled c = true → x.state = .unknown →
      t.ink.get c = x
      ∧ b.amount k = Nat.min 4294967295 (a.amount k + blind)
      ∧ b.adjusted = max (-2147483648) (min 2147483647 (a.adjusted + (blind : Int))))

/-- A volume `v` in 0.01 pL is deducted from a channel, through its residue (R9). -/
def DeductsVolume (s t : State) (k : Amount) (c : Channel) (v : Nat) : Prop :=
  Deducts s t k c (((s.ink.get c).residue + v) / 100000) (((s.ink.get c).residue + v) % 100000)
    (v / 100000)

/-- The retirement of a band record at one channel: the deduction of its volume (R9, R12), one band in the tally,
and one band since clean more in each of its groups, a group at 15 marking its overflow instead (R134). -/
def Retires (s t : State) (r : BandRecord) (c : Channel) : Prop :=
  DeductsVolume s t .printed c (r.volume.get c)
  ∧ (s.enabled c = true →
      (t.tally.channels.get c).bands = Nat.min 65535 ((s.tally.channels.get c).bands + 1)
      ∧ t.nozzle.groups.get c = (s.nozzle.groups.get c).map fun g =>
          if g.bands < 15 then { g with bands := g.bands + 1 } else { g with bandsOver := true })
  ∧ (s.enabled c = false → t.nozzle.groups.get c = s.nozzle.groups.get c)

/-- A channel that gives up a volume keeps its estimate at 0 or above without the clamp (R10). -/
def State.gives (s : State) (c : Channel) (v : Nat) : Prop :=
  s.enabled c = true → (s.ink.get c).state = .known →
    ((s.ink.get c).residue + v) / 100000 ≤ (s.ink.get c).estimate

/-- A channel's adjusted tally lies in its range (R153). -/
abbrev State.adjustedFits (s : State) (c : Channel) : Prop :=
  -2147483648 ≤ (s.tally.channels.get c).adjusted ∧ (s.tally.channels.get c).adjusted ≤ 2147483647

/-- What a START does to one channel's ink (R22): a KNOWN one that stays enabled is cut to its new capacity; one
that is disabled becomes UNKNOWN at 0; one that is enabled anew is UNKNOWN at 0; and an enabled UNKNOWN one that
finds its FULL mark WET is KNOWN at L_full. The difference of the estimates is booked in adjusted for a channel
that was enabled, and for one that is anchored from 0. -/
def StartsInk (s t : State) (c : Channel) : Prop :=
  let x := s.ink.get c
  let y := t.ink.get c
  let new := s.mode.held.sec0.reservoir.get c
  let stays := s.enabled c = true ∧ x.state = .known
  (t.enabled c = true → stays → y = { x with estimate := Nat.min x.estimate new.capacity })
  ∧ (s.enabled c = true → t.enabled c = false →
      y = { x with estimate := 0, residue := 0, state := .unknown })
  ∧ (t.enabled c = true → ¬ stays → x.estimate = 0 → x.residue = 0 →
      y = if x.full.state = .wet then
            { x with estimate := new.fullLevel, state := .known }
          else { x with state := .unknown })
  ∧ (s.enabled c = true ∨ x.estimate = 0 ∧ t.enabled c = true →
      (s.enabled c = true → x.state = .unknown → x.estimate = 0) → s.adjustedFits c →
      (t.tally.channels.get c).adjusted
        = max (-2147483648) (min 2147483647
            ((s.tally.channels.get c).adjusted + ((y.estimate : Int) - x.estimate))))

/-- One fault raised, and no other (R201, R203, R205): the count, the active set, the notice with its slot,
and the record, which is filled where it was empty and stands otherwise. -/
def RaisesAlone (s t : State) (f : FaultCode) (d : Detail) : Prop :=
  t.faults.count = Nat.min 255 (s.faults.count + 1)
  ∧ (∀ g, g ∈ t.faults.active ↔ g = f ∨ g ∈ s.faults.active)
  ∧ t.faults.notice = some { code := f, detail := d } ∧ t.link.faultSlot = true
  ∧ t.faults.record = some (s.faults.record.getD
      { raise := { code := f, detail := d }, sheet := s.feed.sheet.map SheetRecord.sheet,
        tag := s.printingTag, position := s.feed.position })

/-- The guard line of the sheet `cur` of print length `len` stands as its records say (R53): at the start of
the first that is neither COVERED nor PRINTING, else at the end of the last one, else at the last retired end;
OPEN where that end is the print length. -/
def GuardStands (t : State) (cur len : Nat) : Prop :=
  (∀ pre r post, t.bands.records = pre ++ r :: post → r.sheet = cur → r.state ≠ .covered →
    r.state ≠ .printing →
    (∀ x ∈ pre, x.sheet = cur → x.state = .covered ∨ x.state = .printing) →
    t.bands.guard = .line r.start)
  ∧ ((∀ x ∈ t.bands.records, x.sheet = cur → x.state = .covered ∨ x.state = .printing) →
    (∀ pre r post, t.bands.records = pre ++ r :: post → r.sheet = cur →
      (∀ x ∈ post, x.sheet ≠ cur) →
      t.bands.guard = if r.endLine = len then .allClear else .line r.endLine)
    ∧ ((∀ x ∈ t.bands.records, x.sheet ≠ cur) →
      t.bands.guard
        = if t.bands.lastRetired = len then .allClear else .line t.bands.lastRetired))

/-- The peers that count on a channel, show it OPEN and have precedence over this station, by class and then by
number (R26, R29). -/
def State.openAhead (s : State) (c : Channel) : Nat :=
  (allStations.filter fun n => decide (n ≠ s.mode.station) &&
    match (s.link.peers.get n).viewOf c with
    | some v => decide (v.state = .opened)
        && (decide ((s.refill.get c).effective < v.effective)
          || (decide (v.effective = (s.refill.get c).effective) && decide (n < s.mode.station)))
    | none => false).length

/-- The action in progress is the last of the only sequence on the stack, and no request is pending. -/
def State.onlyAction (s : State) : Prop :=
  s.service.pending = PerSource.fill false ∧ ∃ q, s.service.stack = [q] ∧ q.actions.length = 1

/-- A column of a channel, named by its row A nozzle, has lost both its nozzles (R136). -/
def ColumnLost (l : List FailedNozzle) (c : Channel) (n : Nat) : Prop :=
  n < 3072 ∧ ({ channel := c, nozzle := n } : FailedNozzle) ∈ l
    ∧ ({ channel := c, nozzle := n + 3072 } : FailedNozzle) ∈ l

/-- Nothing of ink metering, the tallies, the bands and the mode has changed. -/
def SameLedgers (s t : State) : Prop :=
  t.ink = s.ink ∧ t.tally = s.tally ∧ t.bands = s.bands ∧ t.mode = s.mode

/-! ### Ink (R1, R2, R18) -/

/-- The balance of one channel with its tallies (R18). -/
def State.balanced (s : State) (c : Channel) : Prop :=
  (s.tally.channels.get c).overflow = true ∨
    ((s.ink.get c).estimate : Int) =
      (s.tally.channels.get c).estimateOpen + (s.tally.channels.get c).refilled
        - (s.tally.channels.get c).printed - (s.tally.channels.get c).spit
        - (s.tally.channels.get c).purge + (s.tally.channels.get c).adjusted

/-- Every channel's balance holds (R18). -/
def State.allBalanced (s : State) : Prop := ∀ c, s.balanced c

/-- The marks of a section 0 lie within the reservoirs (R191 step 3, R192). -/
def marksWithin (x : Section0) : Prop :=
  ∀ c, (x.reservoir.get c).lowLevel < (x.reservoir.get c).fullLevel
    ∧ (x.reservoir.get c).fullLevel ≤ (x.reservoir.get c).capacity

/-- Estimates and residues within their ranges (R1, R2, R192): a section 0 taken has its marks within the
reservoirs, and so has the one in force wherever it enables a channel; an enabled channel's E is at most C,
a disabled or UNKNOWN one's is 0, and a residue is below one nL. -/
def State.inkWithin (s : State) : Prop :=
  (s.mode.received0 = true → marksWithin s.mode.held.sec0)
    ∧ (∀ c, s.enabled c = true → marksWithin s.mode.inForce.sec0)
    ∧ (∀ c, s.enabled c = true → (s.ink.get c).estimate ≤ (s.reservoir c).capacity)
    ∧ (∀ c, s.enabled c = false →
        (s.ink.get c).estimate = 0 ∧ (s.ink.get c).residue = 0 ∧ (s.ink.get c).state = .unknown)
    ∧ (∀ c, (s.ink.get c).state = .unknown → (s.ink.get c).estimate = 0)
    ∧ ∀ c, (s.ink.get c).residue < Config.unitsPerNl

/-! ### Valves (R28, R36) -/

/-- Outside RUN, and while a purge runs, every refill channel is HELD, so every valve is closed. -/
def State.valvesHeld (s : State) : Prop :=
  s.mode.mode ≠ .run ∨ s.purgeRunning = true → ∀ c, (s.refill.get c).state = .held

/-! ### The sheet (R76, R86) -/

/-- The station drives FHOLD outside RUN and while a sheet-stop fault is active. -/
def State.fholdHeld (s : State) : Prop :=
  s.mode.mode ≠ .run ∨ s.sheetStopped = true → s.feed.fholdDrive = true

/-! ### The service arbiter and the keep-wet unit (R105, R120) -/

/-- The levels of the in-service stack fall strictly from bottom to top (its head is its top). -/
def State.stackFalls (s : State) : Prop :=
  s.service.stack.Pairwise fun a b => a.level < b.level

/-- The spit block pointer names a block. -/
def State.pointerFits (s : State) : Prop := s.keepWet.pointer < Config.spitBlocks

/-! ### The band queue, the peer table (R42, R180) -/

/-- The band queue holds at most 16 records. -/
def State.queueFits (s : State) : Prop := s.bands.records.length ≤ Config.queueSize

/-- The entry under the station's own number is ABSENT. -/
def State.ownEntryAbsent (s : State) : Prop :=
  (s.link.peers.get s.mode.station).presence = .absent

/-- Every channel's adjusted tally lies in its range (R153). -/
def State.adjustedWithin (s : State) : Prop := ∀ c, s.adjustedFits c

/-! ### Nozzle health (R141, R145) -/

/-- The block condition is set exactly while SERVICE TIMEOUT or NOZZLE LIST FULL is active. -/
def State.blockFollows (s : State) : Prop :=
  s.nozzle.blocked = true
    ↔ FaultCode.serviceTimeout ∈ s.faults.active ∨ FaultCode.nozzleListFull ∈ s.faults.active

/-- No RECOVERY is pending while the block condition is set (R145). -/
def State.recoveryUnblocked (s : State) : Prop :=
  s.service.pending.get .recovery = true → s.nozzle.blocked = false

/-! ### What a safe run is -/

/-- A station that a run from reset may reach: every property above holds. -/
def State.safe (s : State) : Prop :=
  s.allBalanced ∧ s.inkWithin ∧ s.valvesHeld ∧ s.fholdHeld ∧ s.stackFalls ∧ s.pointerFits
    ∧ s.queueFits ∧ s.ownEntryAbsent ∧ s.adjustedWithin ∧ s.blockFollows
    ∧ s.recoveryUnblocked

end Sys2Proof.Machine
end

