-- ==== Sys2Proof/Certificates/Slice0/Obligations.lean ====
section
/-! DEFINITION. The statements for the provers: the machine's step, the properties that every step keeps,
the frames of the link, and what each command does. -/

open Sys2Proof Sys2Proof.Machine

/-! ### The machine -/

/-- A step runs the command at the front of the queue on the station with the rest of the queue. -/
def Obligations.StepRunsTheFrontCommand : Prop :=
  ∀ (c : Instr) (rest : List Instr) (s : State),
    step { s with pending := c :: rest } = exec c { s with pending := rest }

/-- On an empty queue a step is one tick of the time base (notes/assumptions/1.md): the model's choice. What
the tick does to each count is its rule's (R25, R30, R32, R35, R83, R100, R110, R116, R173, R179, R181,
R182). -/
def Obligations.AnEmptyQueueTicks : Prop :=
  ∀ s : State, s.pending = [] → ∃ t, step s = Host.Outcome.next t
    ∧ (s.mode.resetPin = true → t = s)
    ∧ (s.mode.resetPin = false →
        (∀ c, t.refill.get c = { s.refill.get c with
            waited :=
              if (s.refill.get c).state = .want ∨ (s.refill.get c).state = .backoff then
                Nat.min 2000 ((s.refill.get c).waited + 1)
              else (s.refill.get c).waited
            backoff := (s.refill.get c).backoff.map (· - 1)
            window := (s.refill.get c).window.map fun f =>
              { f with elapsed := Nat.min 99 (f.elapsed + 1) }
            leakWindow := (s.refill.get c).leakWindow.map (· - 1) })
        ∧ t.feed = { s.feed with skewWindow := s.feed.skewWindow.map (· - 1) }
        ∧ t.service = { s.service with
            timeLeft := s.service.timeLeft.map (· - 1)
            capIdle :=
              if s.mode.mode = .run ∧ (s.feed.phase = .none ∨ s.feed.phase = .ended)
                  ∧ s.service.current = none ∧ s.service.stack = []
                  ∧ (s.service.sled ≠ .standing .cap ∨ s.service.capped = false) then
                Nat.min s.sec3.capIdleTime (s.service.capIdle + 1)
              else s.service.capIdle }
        ∧ (s.mode.mode ≠ .run ∨ s.keepWet.counter = none → t.keepWet = s.keepWet
            ∧ Instr.keepWetExpiry ∉ t.pending)
        ∧ (∀ n, s.keepWet.counter = some n → s.mode.mode = .run →
            (s.service.capped = false ∨ 7 ≤ s.keepWet.cappedTicks →
              t.keepWet = { s.keepWet with cappedTicks := 0, counter := some (Nat.max 1 (n - 1)) }
              ∧ (Instr.keepWetExpiry ∈ t.pending ↔ n = 1))
            ∧ (s.service.capped = true → s.keepWet.cappedTicks < 7 →
              t.keepWet = { s.keepWet with cappedTicks := s.keepWet.cappedTicks + 1 }
              ∧ Instr.keepWetExpiry ∉ t.pending))
        ∧ t.link.periodCount = Nat.min s.sec1.statusPeriod (s.link.periodCount + 1)
        ∧ t.link.spacingCount = Nat.min 2 (s.link.spacingCount + 1)
        ∧ t.link.errorWindow = s.link.errorWindow.map (fun x => { x with left := x.left - 1 })
        ∧ (∀ n, (s.link.peers.get n).presence = .absent → t.link.peers.get n = s.link.peers.get n)
        ∧ (∀ n, (s.link.peers.get n).presence ≠ .absent →
            t.link.peers.get n = { s.link.peers.get n with
              age := Nat.min 65535 ((s.link.peers.get n).age + 1) })
        ∧ t.link.controller = { s.link.controller with
            age :=
              if s.link.controller.presence = .absent then s.link.controller.age
              else Nat.min 65535 (s.link.controller.age + 1) }
        ∧ t.nozzle = s.nozzle ∧ t.tally = s.tally ∧ t.bands = s.bands ∧ t.mode = s.mode
        ∧ t.faults = s.faults
        ∧ ∀ c, (t.ink.get c).estimate = (s.ink.get c).estimate
            ∧ (t.ink.get c).residue = (s.ink.get c).residue
            ∧ (t.ink.get c).state = (s.ink.get c).state)

/-- Every command completes in every state and leaves the waiting commands as they are. -/
def Obligations.EveryCommandCompletesAndKeepsTheQueue : Prop :=
  ∀ (c : Instr) (s : State), ∃ t, Completes c s t ∧ t.pending = s.pending

/-- What the end of power-on and the assertion of the RESET pin leave (R198, and the reset tables of the
blocks); and while the pin is asserted the station takes nothing but the pin and its release. -/
def Obligations.PowerOnAndResetPinLeavePowerOnValues : Prop :=
  (∀ (c : Instr) (s : State), s.mode.resetPin = true → (∀ straps closed, c ≠ .powerOn straps closed) →
    c ≠ .resetPinAsserted → Completes c s s)
  ∧ ∀ (s : State) (straps : StationNo) (closed : Option SledPlace),
    ∃ t u, Completes (.powerOn straps closed) s t ∧ Completes .resetPinAsserted s u
      ∧ t.mode.station = straps ∧ t.mode.resetPin = false ∧ u.mode.resetPin = true
      ∧ u.mode.station = s.mode.station
      ∧ ∀ v, v = t ∨ v = u →
          v.mode.mode = .config ∧ v.mode.held = Sections.powerOn ∧ v.mode.received0 = false
          ∧ v.mode.received1 = false ∧ v.mode.received2 = false ∧ v.mode.received3 = false
          ∧ v.mode.firstPart = none ∧ v.refill = PerChannel.fill RefillChannel.reset
          ∧ v.bands = BandQueue.reset ∧ v.feed.sheet = none ∧ v.feed.phase = .none
          ∧ v.feed.position = 0 ∧ v.feed.commanded = 0 ∧ v.feed.move = none
          ∧ v.feed.fedPending = 0 ∧ v.feed.capture = none ∧ v.feed.stepsAtCapture = none
          ∧ v.feed.trailing = none ∧ v.feed.skew = none ∧ v.feed.skewWindow = none
          ∧ v.feed.trim = 0
          ∧ v.feed.fholdDrive = true ∧ v.feed.vacuum = false ∧ v.feed.underSegment = false
          ∧ v.service.sled = .unknown ∧ v.service.motion = none ∧ v.service.capped = true
          ∧ v.service.current = none ∧ v.service.timeLeft = none ∧ v.service.head = none
          ∧ v.service.requestNumber = 0 ∧ v.service.pending = PerSource.fill false
          ∧ v.service.order = none ∧ v.service.mask = 7 ∧ v.service.stack = []
          ∧ v.service.stopped = false ∧ v.service.capIdle = 0 ∧ v.keepWet = KeepWet.reset ∧ v.nozzle = Nozzle.reset
          ∧ v.tally = Tally.reset ∧ v.link = Link.reset ∧ v.faults = FaultUnit.reset
          ∧ ∀ c, v.enabled c = false ∧ (v.ink.get c).estimate = 0 ∧ (v.ink.get c).residue = 0
              ∧ (v.ink.get c).state = .unknown ∧ (v.ink.get c).low.state = .settling
              ∧ (v.ink.get c).full.state = .settling

/-! ### What every step keeps -/

/-- The station after reset is safe: every property below holds of it. -/
def Obligations.ResetIsSafe : Prop := State.reset.safe

/-- Every step keeps the balance of every channel with its tallies (R18); the estimates within the reservoirs are a premise,
because a channel that a START enables is set to 0 with no adjustment (R22). -/
def Obligations.StepKeepsTheBalance : Prop :=
  ∀ s t : State, s.inkWithin → s.allBalanced → step s = Host.Outcome.next t → t.allBalanced

/-- Every step keeps the estimates within the reservoirs (R1, R2). -/
def Obligations.StepKeepsInkWithin : Prop :=
  ∀ s t : State, s.inkWithin → step s = Host.Outcome.next t → t.inkWithin

/-- Every step keeps the valves closed outside RUN and while a purge runs (R28, R36). -/
def Obligations.StepKeepsValvesHeld : Prop :=
  ∀ s t : State, s.valvesHeld → step s = Host.Outcome.next t → t.valvesHeld

/-- Every step keeps FHOLD driven outside RUN and while a sheet-stop fault is active (R76, R86). -/
def Obligations.StepKeepsFholdHeld : Prop :=
  ∀ s t : State, s.fholdHeld → step s = Host.Outcome.next t → t.fholdHeld

/-- Every step keeps the level numbers of the in-service stack strictly falling (R105). -/
def Obligations.StepKeepsTheStackFalling : Prop :=
  ∀ s t : State, s.stackFalls → step s = Host.Outcome.next t → t.stackFalls

/-- Every step keeps the band queue within its 16 records, the spit block pointer within 0–47, and the peer
entry under the station's own number ABSENT (R42, R120, R180, R189), the adjusted tallies within their range
(R153), the block condition as the active faults say (R141), and no RECOVERY pending under it (R145). -/
def Obligations.StepKeepsTheTablesInBounds : Prop :=
  ∀ s t : State, step s = Host.Outcome.next t →
    (s.queueFits → t.queueFits) ∧ (s.pointerFits → t.pointerFits)
      ∧ (s.ownEntryAbsent → t.ownEntryAbsent)
      ∧ (s.adjustedWithin → t.adjustedWithin) ∧ (s.blockFollows → t.blockFollows)
      ∧ (s.recoveryUnblocked → t.recoveryUnblocked)

/-! ### Which events change what -/

/-- The events that change the mode, and how (R188); the station number is latched at power-on and at a
RESTART alone (R189). -/
def Obligations.OnlyTheseEventsChangeTheMode : Prop :=
  (∀ (c : Instr) (s t : State), Completes c s t → t.mode.mode ≠ s.mode.mode →
    ((∃ ref, c = .start ref) ∧ s.mode.mode = .config ∧ t.mode.mode = .run)
    ∨ ((c = .duplicateStationHeard ∨ ∃ f, c = .peerStatusHeard s.mode.station f)
        ∧ s.mode.mode ≠ .halted ∧ t.mode.mode = .halted)
    ∨ ((∃ ref straps, c = .restart ref straps) ∧ t.mode.mode = .config)
    ∨ (((∃ straps closed, c = .powerOn straps closed) ∨ c = .resetPinAsserted)
        ∧ t.mode.mode = .config))
  ∧ (∀ (c : Instr) (s t : State), Completes c s t → t.mode.station ≠ s.mode.station →
    (∃ closed, c = .powerOn t.mode.station closed) ∨ ∃ ref, c = .restart ref t.mode.station)

/-- The commands under which a channel's estimate, residue and estimate state stay as they are, and with them
its tallies unless the period closes (R3, R9 to R16, R22, R160). -/
def Obligations.OnlyTheseEventsMoveInk : Prop :=
  ∀ (i : Instr) (s t : State) (c : Channel), Completes i s t → Instr.movesInk c i = false →
    (t.ink.get c).estimate = (s.ink.get c).estimate
    ∧ (t.ink.get c).residue = (s.ink.get c).residue
    ∧ (t.ink.get c).state = (s.ink.get c).state
    ∧ (i.mayClose = false → t.tally.channels.get c = s.tally.channels.get c)

/-- The configuration in force changes at a START alone, what is held for it at the CONFIG orders, the
settings in force at a START or a full close, and the pending copy at a START or a SETTINGS order; and each of
them at power-on (R155, R156, R161, R166, R188, R191, R196). -/
def Obligations.OnlyTheseEventsChangeTheConfiguration : Prop :=
  ∀ (i : Instr) (s t : State), Completes i s t → i.powersOn = false →
    ((∀ ref, i ≠ .start ref) → t.mode.inForce = s.mode.inForce ∧ t.mode.started = s.mode.started)
    ∧ (configOrder i = none → t.mode.held = s.mode.held)
    ∧ ((∀ ref, i ≠ .start ref) → (∀ ref, i ≠ .tallyClose ref) →
        t.tally.inForce = s.tally.inForce ∧ t.tally.prior = s.tally.prior)
    ∧ ((∀ ref, i ≠ .start ref) → (∀ ref v, i ≠ .settings ref v) →
        t.tally.pendingCopy = s.tally.pendingCopy)

/-- The events that change a peer entry, the controller entry, the last-order outcome and the link error
counter (R170, R171, R180 to R184, R187). -/
def Obligations.OnlyTheseEventsChangeTheLinkTables : Prop :=
  ∀ (i : Instr) (s t : State), Completes i s t → i.powersOn = false → i.restarts = false →
    (∀ n, (∀ f, i ≠ .peerStatusHeard n f) → (∀ a, i = .peerEntryLost a → a.get n = false) →
      (∀ ref, i ≠ .start ref) → t.link.peers.get n = s.link.peers.get n)
    ∧ ((∀ b n, i ≠ .beaconHeard b n) → i ≠ .controllerTimeout → (∀ ref, i ≠ .start ref) →
      t.link.controller = s.link.controller)
    ∧ (isOrder i = false → t.link.outcome = s.link.outcome)
    ∧ (i ≠ .frameDiscarded → i ≠ .transmitMismatch → t.link.errors = s.link.errors)

/-- The commands that change what feed control holds, the mask level, the spit pointer with the missed spits
and the dry-suspect blocks, the nozzle groups, the armed flag, and a line-starved mark (R33, R38, R63, R83,
R97, R103, R119, R120, R131, R134, R141). -/
def Obligations.OnlyTheseEventsChangeFeedServiceAndNozzles : Prop :=
  ∀ (i : Instr) (s t : State), Completes i s t → i.powersOn = false → i.restarts = false →
    (i.movesSheet = false →
      { t.feed with
        fholdDrive := s.feed.fholdDrive, readinessHold := s.feed.readinessHold } = s.feed)
    ∧ ((∀ ref level, i ≠ .setMask ref level) → t.service.mask = s.service.mask)
    ∧ (i.spitsOrChecks = false → t.keepWet.pointer = s.keepWet.pointer
        ∧ t.keepWet.missed = s.keepWet.missed ∧ t.keepWet.dry = s.keepWet.dry)
    ∧ (i.touchesGroups = false → t.nozzle.groups = s.nozzle.groups)
    ∧ ((∀ ref, i ≠ .start ref) → t.nozzle.armed = s.nozzle.armed)
    ∧ ∀ c, i ≠ .flowWindowEnd c → clearRequest i = none →
        (t.refill.get c).starvedMark = (s.refill.get c).starvedMark

/-- The failed nozzle list changes with the map issue alone, which rises by one, and both only where a CHECK
may complete (R131, R135). -/
def Obligations.TheMapIssueFollowsTheFailedList : Prop :=
  ∀ (i : Instr) (s t : State), Completes i s t → i.powersOn = false →
    t.nozzle.failed = s.nozzle.failed ∧ t.nozzle.issue = s.nozzle.issue
    ∨ t.nozzle.issue = (s.nozzle.issue + 1) % 256
      ∧ ((∃ n, i = .headDone n) ∨ ∃ p, i = .sledArrival p)

/-- A filled first-fault record keeps its content until CLEAR faults, power-on or the RESET pin (R203). A
raise counts one, joins the active set, fills an empty record and loads the notice (R201, R203, R205); of two
in one event the first in order fills and names, and both count; a record that an event fills holds the lowest
code of the faults that it enters, and the notice names the same (R202). -/
def Obligations.FirstFaultRecordStands : Prop :=
  (∀ (c : Instr) (s t : State) (x : FirstFault), Completes c s t → s.faults.record = some x →
    t.faults.record = some x
    ∨ (∃ ref l k, clearRequest c = some (ref, true, l, k) ∧ t.faults.record = none)
    ∨ (((∃ straps closed, c = .powerOn straps closed) ∨ c = .resetPinAsserted)
        ∧ t.faults.record = none))
  ∧ (∀ (c : Instr) (s t : State) (x : FirstFault), Completes c s t → s.faults.record = none →
    t.faults.record = some x →
    t.faults.notice = some x.raise
    ∧ ∀ g ∈ t.faults.active, g ∉ s.faults.active → x.raise.code.num ≤ g.num)
  ∧ (∀ s : State, s.mode.resetPin = false →
    (s.service.current ≠ none → s.service.timeLeft = some 0 →
      ∃ t, Completes .actionTimeout s t ∧ RaisesAlone s t .serviceTimeout .none)
    ∧ (s.mode.mode ≠ .halted →
      ∃ t, Completes .duplicateStationHeard s t ∧ RaisesAlone s t .duplicateStation .none)
    ∧ (s.controllerDue = true → s.sheetInProgress = true →
      ∃ t, Completes .controllerTimeout s t ∧ RaisesAlone s t .controllerSilent .none)
    ∧ (∀ c f, (s.refill.get c).state = .opened → (s.refill.get c).window = some f →
      99 ≤ f.elapsed → (pushSample (s.refill.get c).samples f.pulses).length = 8 →
      rollingAverage (pushSample (s.refill.get c).samples f.pulses) < s.sec1.starveThreshold →
      ∃ t, Completes (.flowWindowEnd c) s t ∧ RaisesAlone s t .lineStarved (.channel c))
    ∧ (∀ (r : SheetRecord) (a : StationSet) (m n : StationNo), s.feed.sheet = some r →
      s.sheetInProgress = true → m < n →
      (∀ k, (a.get k = true ∧ s.peerDue k = true ∧ r.active.get k = true) ↔ k = m ∨ k = n) →
      ∃ t, Completes (.peerEntryLost a) s t
        ∧ t.faults.count = Nat.min 255 (s.faults.count + 2)
        ∧ t.faults.notice = some { code := .peerLost, detail := .station m }
        ∧ t.link.faultSlot = true ∧ FaultCode.peerLost ∈ t.faults.active
        ∧ (s.faults.record = none → t.faults.record = some
            { raise := { code := .peerLost, detail := .station m }
              sheet := some r.sheet, tag := s.printingTag, position := s.feed.position })))

/-- No band record enters PRINTING unless it was COVERED under the current map issue (R49). -/
def Obligations.PrintingComesFromCovered : Prop :=
  ∀ (c : Instr) (s t : State) (r : BandRecord), Completes c s t → r ∈ t.bands.records →
    r.state = .printing →
    r ∈ s.bands.records
    ∨ (({ r with state := .covered } : BandRecord) ∈ s.bands.records ∧ r.issue = s.nozzle.issue)

/-! ### Frames of the link -/

/-- What another station hears of a STATUS is what its sender holds (R171, R178, R180, R210). -/
def Obligations.StatusIsHeardAsSent : Prop :=
  ∀ (s r : State) (straps : StationNo), s.statusFits →
    r.receive straps { bytes := s.slotFrame .status, stopError := false, extraStart := false }
      = .peerStatusHeard s.mode.station s.shown

/-- Every well-formed order but a CLEAR is read back from its payload (R210, R211 and 12.3). -/
def Obligations.OrdersAreReadAsWritten : Prop :=
  ∀ (c : Instr) (straps : StationNo) (kind : Nat) (p : List Byte), c.wellFormed = true →
    orderPayload c = some (kind, p) → kind ≠ 12 → (∀ ref n, c = .restart ref n → n = straps) →
    readOrder straps kind p = some c

/-! ### Orders that are refused, events that are not taken -/

/-- Outside RUN these orders are refused REFUSED_MODE, and outside CONFIG every CONFIG frame is; SERVICE, TALLY
and CONFIG orders that name nothing known are refused REFUSED_RANGE after the mode test (R159, R190, R210,
R211). Nothing else changes. That the first-part store is among what stays, for a frame with section byte 4
and the held reference too, is the model's choice (notes/assumptions/38.md). -/
def Obligations.OrdersAreRefusedByModeOrName : Prop :=
  (∀ (c : Instr) (s : State) (kind : OrderKind) (ref : Nat), runOrder c = some (kind, ref) →
    s.mode.resetPin = false → s.mode.mode ≠ .run →
    Completes c s (s.withOutcome kind ref .refusedMode))
  ∧ (∀ (c : Instr) (s : State) (ref : Nat), configOrder c = some ref → s.mode.resetPin = false →
    s.mode.mode ≠ .config → Completes c s (s.withOutcome .config ref .refusedMode))
  ∧ (∀ (s : State) (ref operation : Nat), s.mode.resetPin = false →
    (s.mode.mode = .run →
      Completes (.serviceUnknownRequest ref) s (s.withOutcome .service ref .refusedRange)
      ∧ Completes (.tallyUnknownOperation ref operation) s (s.withOutcome .tally ref .refusedRange))
    ∧ (s.mode.mode = .config →
      Completes (.configUnknownSection ref) s (s.withOutcome .config ref .refusedRange)))

/-- Events that find nothing to act on change nothing, a step due that fails a test of R69 among them (R69, R73,
R74, R78, R79, R94, R100, R172, R174); a position switch that is not the commanded target's is not taken, and
only reads closed from then on (R92; the model's field, notes/assumptions/40.md). That a sled commanded away
from PARK counts as away is the model's reading (21.md). -/
def Obligations.EventsNotTakenChangeNothing : Prop :=
  ∀ s : State,
    Completes .frameIgnored s s
    ∧ (s.mode.mode = .halted → Completes .duplicateStationHeard s s)
    ∧ (s.feed.phase ≠ .pending → Completes .leadingEdge s s)
    ∧ (s.feed.phase ≠ .active → Completes .trailingEdge s s)
    ∧ (∀ m, s.feed.move = some m → m.state ≠ .running ∨ ¬ s.mayStep m →
        Completes .stepDue s s)
    ∧ (s.feed.move = none → Completes .stepDue s s)
    ∧ (∀ q, s.mode.resetPin = false → s.service.motion ≠ some q →
        Completes (.sledArrival q) s { s with service := { s.service with closed := some q } })
    ∧ (∀ n, (∀ h, s.service.head = some h → h.number ≠ n) →
        Completes (.headDone n) s s ∧ ∀ g l, Completes (.headResult n g l) s s)
    ∧ (s.service.current = none → Completes .actionTimeout s s)

/-! ### FEED, SHEET, ABORT SHEET -/

/-- A FEED order taken starts its move and changes nothing but the move, the drive and the outcome; outside
RUN it is ignored, and one that fails a test is refused (R68, R76, R77, R190). That the move is already HELD at
the end of the order's own event where FHOLD reads asserted, the drive just worked out included, is the
model's choice (notes/assumptions/32.md, and 7.md for what FHOLD reads). The drive stands as the conditions of
R76 say, the readiness hold of a move that starts unready (R67) among them; that a sled commanded away from PARK
counts as away there is the model's reading (21.md). -/
def Obligations.FeedOrderStartsAMoveOrIsRefused : Prop :=
  (∀ (s : State) (moveId distance speed : Nat) (eject : Bool), s.running →
    s.moveInProgress = false → 1 ≤ distance → distance ≤ 1048575 →
    ∃ t, Completes (.feed moveId distance speed eject) s t
      ∧ t.feed.move = some
          { id := moveId, distance := distance, speed := speed, eject := eject, stepsDone := 0,
            state := if t.fholdReads then .held else .running }
      ∧ t.shows .feed moveId .accepted ∧ t.link.early = true
      ∧ SameLedgers s t ∧ t.refill = s.refill ∧ t.service = s.service ∧ t.keepWet = s.keepWet
      ∧ t.nozzle = s.nozzle ∧ t.faults = s.faults
      ∧ (t.feed.fholdDrive = true ↔ t.drivesFhold)
      ∧ (t.feed.readinessHold = true ↔ eject = false
          ∧ (∃ r ∈ s.feed.sheet, r.active.get s.mode.station = true)
          ∧ (s.feed.phase = .pending ∨ s.feed.phase = .active ∨ s.feed.phase = .trailing)
          ∧ s.unready)
      ∧ { t.feed with
          move := s.feed.move, fholdDrive := s.feed.fholdDrive,
          readinessHold := s.feed.readinessHold } = s.feed)
  ∧ (∀ (s : State) (moveId distance speed : Nat) (eject : Bool), s.mode.resetPin = false →
    (s.mode.mode ≠ .run → Completes (.feed moveId distance speed eject) s s)
    ∧ (s.mode.mode = .run → s.moveInProgress = true →
        Completes (.feed moveId distance speed eject) s (s.withOutcome .feed moveId .refusedBusy))
    ∧ (s.mode.mode = .run → s.moveInProgress = false → distance = 0 ∨ 1048575 < distance →
        Completes (.feed moveId distance speed eject) s (s.withOutcome .feed moveId .refusedRange)))

/-- The tests of a SHEET order, in their order (R65). -/
def Obligations.SheetOrderIsTested : Prop :=
  ∀ (s : State) (ref n : Nat) (a : StationSet) (len : Nat) (spit deg : Bool) (lim : Nat),
    s.mode.resetPin = false →
    (s.mode.mode ≠ .run →
      Completes (.sheet ref n a len spit deg lim) s (s.withOutcome .sheet ref .refusedMode))
    ∧ (s.mode.mode = .run → s.betweenSheets = false ∨ s.moveInProgress = true →
        Completes (.sheet ref n a len spit deg lim) s (s.withOutcome .sheet ref .refusedBusy))
    ∧ (s.mode.mode = .run → s.betweenSheets = true → s.moveInProgress = false →
        ¬ ((∃ m, a.get m = true) ∧ 1 ≤ len ∧ len ≤ 4194303 ∧ 1 ≤ lim ∧ lim ≤ 16777215
            ∧ lim + s.sec2.sensorDistance + 4 * len ≤ 16777215) →
        Completes (.sheet ref n a len spit deg lim) s (s.withOutcome .sheet ref .refusedRange))
    ∧ (s.mode.mode = .run → s.betweenSheets = true → s.moveInProgress = false →
        (∃ m, a.get m = true) → 1 ≤ len → len ≤ 4194303 → 1 ≤ lim → lim ≤ 16777215 →
        lim + s.sec2.sensorDistance + 4 * len ≤ 16777215 →
        ∃ t, Completes (.sheet ref n a len spit deg lim) s t ∧ t.shows .sheet ref .accepted)

/-- What a SHEET order taken leaves at feed control and in the band queue, with its guard line (R66, R56, R53): a
record held for the sheet stays where it ends within the print length, and a PRINTING one retires (R50). -/
def Obligations.SheetOrderTakesTheSheet : Prop :=
  ∀ (s : State) (ref n : Nat) (a : StationSet) (len : Nat) (spit deg : Bool) (lim : Nat),
    s.running → s.sheetRefusal a len lim = none →
    ∃ t, Completes (.sheet ref n a len spit deg lim) s t ∧ t.mode = s.mode
      ∧ t.feed.sheet = some
          { sheet := n, active := a, printLength := len, spitAllowed := spit, degraded := deg,
            leadLimit := lim }
      ∧ t.feed.phase = (if a.get s.mode.station then .pending else .ended)
      ∧ t.feed.position = 0 ∧ t.feed.commanded = 0 ∧ t.feed.fedPending = 0
      ∧ t.feed.capture = none ∧ t.feed.stepsAtCapture = none ∧ t.feed.trailing = none
      ∧ t.feed.skew = none ∧ t.feed.skewWindow = none ∧ t.feed.trim = 0
      ∧ t.feed.vacuum = false ∧ t.feed.underSegment = false ∧ t.feed.move = s.feed.move
      ∧ t.bands.sheetRef = some n ∧ t.bands.lastRetired = 0
      ∧ (∀ r ∈ t.bands.records, r.sheet = n ∧ r.endLine ≤ len)
      ∧ (s.bands.sheetRef = some n → t.bands.records = [])
      ∧ (∀ r ∈ s.bands.records, r.sheet = n → s.bands.sheetRef ≠ some n → r.state ≠ .printing →
          r.endLine ≤ len → r.plan ∈ t.bands.records.map BandRecord.plan)
      ∧ (∀ r, s.printing = some r → ∀ c, Retires s t r c)
      ∧ (s.printing = none → t.ink = s.ink ∧ t.tally = s.tally
          ∧ t.nozzle.groups = s.nozzle.groups)
      ∧ GuardStands t n len

/-- An ABORT SHEET order: its test, and what it leaves when it is taken (R87, R57, R208): the next sheet's
records stay, and a PRINTING one of the sheet retires (R50). -/
def Obligations.AbortSheetEndsTheSheet : Prop :=
  ∀ (s : State) (n : Nat), s.running →
    (¬ (s.feed.phase = .none ∨ s.feed.sheet.map SheetRecord.sheet = some n) →
      Completes (.abortSheet n) s (s.withOutcome .abortSheet n .refusedSequence))
    ∧ (s.feed.phase = .none ∨ s.feed.sheet.map SheetRecord.sheet = some n →
      ∃ t, Completes (.abortSheet n) s t ∧ t.shows .abortSheet n .accepted ∧ t.mode = s.mode
        ∧ t.feed.phase = .none ∧ t.feed.move = s.feed.move.map Move.ended
        ∧ t.feed.capture = none ∧ t.feed.stepsAtCapture = none ∧ t.feed.trailing = none
        ∧ t.feed.skew = none ∧ t.feed.skewWindow = none ∧ t.feed.trim = 0
        ∧ t.feed.vacuum = false ∧ t.feed.underSegment = false
        ∧ t.feed.sheet = s.feed.sheet ∧ t.feed.position = s.feed.position
        ∧ t.feed.commanded = s.feed.commanded
        ∧ t.bands.sheetRef = s.bands.sheetRef ∧ t.bands.guard = .line 0
        ∧ (∀ r ∈ t.bands.records, s.feed.phase ≠ .none → s.bands.sheetRef ≠ some r.sheet)
        ∧ (∀ r ∈ s.bands.records, s.feed.phase = .none ∨ s.bands.sheetRef ≠ some r.sheet →
            r.state ≠ .printing → r.plan ∈ t.bands.records.map BandRecord.plan)
        ∧ (∀ r, s.feed.phase ≠ .none → s.printing = some r → s.bands.sheetRef = some r.sheet →
            ∀ c, Retires s t r c)
        ∧ (s.printing = none → t.ink = s.ink ∧ t.tally = s.tally
            ∧ t.nozzle.groups = s.nozzle.groups)
        ∧ ∀ f ∈ t.faults.active, f.sheetStop = false)

/-! ### BAND -/

/-- A BAND order that passes the tests of R44 joins the queue in its place, clamped and valued (R45, R5, R6);
coverage is worked out over the whole queue, with running sums and no COVERED record behind one that is neither
COVERED nor PRINTING (R19, R20), and the guard line is derived anew (R53). Alone in the queue the record is
COVERED exactly when its ink and the nozzles allow it (R19, R20, R52). -/
def Obligations.BandOrderIsAccepted : Prop :=
  (∀ (s : State) (ref tag n first len issue : Nat) (drops : PerChannel Drops), s.running →
    (∀ r ∈ s.bands.records, r.tag ≠ tag) → Passes (s.bandTests n first len) →
    ∃ t, Completes (.band ref tag n first len issue drops) s t
      ∧ t.shows .band ref (if dropsClamped drops then .acceptedClamped else .accepted)
      ∧ t.bands.records.map BandRecord.unjudged
          = (s.placed (s.newRecord tag n first len issue drops)).map BandRecord.unjudged
      ∧ t.coverageStands
      ∧ t.bands.sheetRef = s.bands.sheetRef ∧ t.bands.lastRetired = s.bands.lastRetired
      ∧ t.ink = s.ink ∧ t.tally = s.tally ∧ t.mode = s.mode ∧ t.refill = s.refill
      ∧ t.service = s.service ∧ t.keepWet = s.keepWet ∧ t.nozzle = s.nozzle ∧ t.faults = s.faults
      ∧ t.feed.position = s.feed.position ∧ t.feed.move = s.feed.move
      ∧ (s.feed.phase = .none → t.bands.guard = .line 0)
      ∧ ∀ r cur, s.feed.phase ≠ .none → s.feed.sheet = some r → s.bands.sheetRef = some cur →
          GuardStands t cur r.printLength)
  ∧ (∀ (s : State) (ref tag n first len issue : Nat) (drops : PerChannel Drops), s.running →
    s.bands.records = [] → Passes (s.bandTests n first len) →
    ∃ t, Completes (.band ref tag n first len issue drops) s t
      ∧ (t.bands.records.map BandRecord.state = [.stale] ↔ issue ≠ s.nozzle.issue)
      ∧ (t.bands.records.map BandRecord.state = [.covered] ↔
          issue = s.nozzle.issue
          ∧ (s.anyUncovered = false ∨ ∃ r, s.feed.sheet = some r ∧ r.sheet = n ∧ r.degraded = true)
          ∧ ∀ c, s.enabled c = true → (s.ink.get c).state = .known
            ∧ (s.settingsOf c).reserve
                + ((s.ink.get c).residue
                    + Nat.min (drops.get c).count 3145728
                      * dropVolume (s.settingsOf c) (drops.get c).volumeClass + 99999) / 100000
              ≤ (s.ink.get c).estimate))

/-- A BAND order that fails a test leaves everything but the outcome as it was, and the first test that fails
gives the outcome (R43, R44); one that re-announces a STALE record replaces it in its place or is refused
(R46). -/
def Obligations.BandOrderIsRefusedOrReplaces : Prop :=
  (∀ (s : State) (ref tag n first len issue : Nat) (drops : PerChannel Drops), s.running →
    (∀ old, s.bands.records.find? (fun r => r.tag = tag) = some old →
      ¬ (old.state = .stale ∧ old.sheet = n ∧ old.start = first) →
      Completes (.band ref tag n first len issue drops) s
        (s.withOutcome .band ref .refusedDuplicate))
    ∧ (∀ code, FailsWith (s.bandTests n first len) code → (∀ r ∈ s.bands.records, r.tag ≠ tag) →
      Completes (.band ref tag n first len issue drops) s (s.withOutcome .band ref code)))
  ∧ (∀ (s : State) (ref tag first len issue : Nat) (drops : PerChannel Drops) (old : BandRecord),
    s.running → s.bands.records.find? (fun r => r.tag = tag) = some old → old.state = .stale →
    old.start = first →
    (∀ code, FailsWith (s.replaceTests old len) code →
      Completes (.band ref tag old.sheet first len issue drops) s (s.withOutcome .band ref code))
    ∧ (Passes (s.replaceTests old len) →
      ∃ t, Completes (.band ref tag old.sheet first len issue drops) s t
        ∧ t.shows .band ref (if dropsClamped drops then .acceptedClamped else .accepted)
        ∧ t.bands.records.map BandRecord.plan
            = s.bands.records.map fun r =>
                if r = old then (s.newRecord tag old.sheet first len issue drops).plan else r.plan))

/-! ### SERVICE -/

/-- A SERVICE order that passes its tests is taken, and waits pending while no action may start; one that finds
an ORDER in hand, or names what it may not, is refused; SET MASK takes its level at once (R101 to R103,
R111). -/
def Obligations.ServiceOrderIsTakenOrRefused : Prop :=
  (∀ (c : Instr) (s : State) (ref : Nat) (a : Action), serviceRequest c = some (ref, a) →
    s.running → s.orderInHand = false → s.serviceFits c = true →
    ∃ t, Completes c s t ∧ t.shows .service ref .accepted ∧ SameLedgers s t
      ∧ t.faults = s.faults
      ∧ (s.mayStart = false → t.service.pending.order = true ∧ t.service.order = some a
          ∧ t.service.stack = s.service.stack ∧ t.service.current = s.service.current))
  ∧ (∀ (c : Instr) (s : State) (ref : Nat) (a : Action), serviceRequest c = some (ref, a) →
    s.running →
    (s.orderInHand = true → Completes c s (s.withOutcome .service ref .refusedBusy))
    ∧ (s.orderInHand = false → s.serviceFits c = false →
        Completes c s (s.withOutcome .service ref .refusedRange)))
  ∧ (∀ (s : State) (ref level : Nat), s.running →
    (level ≤ 7 → ∃ t, Completes (.setMask ref level) s t ∧ t.service.mask = level
      ∧ t.shows .service ref .accepted ∧ SameLedgers s t ∧ t.faults = s.faults)
    ∧ (7 < level → Completes (.setMask ref level) s (s.withOutcome .service ref .refusedRange)))

/-- With nothing else waiting and the sled home, the action that a SERVICE order names starts in the order's
event (R95, R104, R105): here the WIPE. Among several requests, at the boundary that a SET MASK makes (R103), the
eligible one of the lowest level, ties by source order, starts its sequence; with none the top of the stack goes
on where its needs hold, and otherwise nothing starts (R104, R105). With the sled UNKNOWN, HOME starts first
(R95); that a purge that waits for its ink is then no request to start it for, as R107 says of it, is the model's
reading (notes/assumptions/12.md). UNCAP-NEED is raised at the boundary where R109 asks for it; that a sled commanded
away from PARK counts as away is the model's reading (21.md). -/
def Obligations.ServiceWipeStartsAtOnce : Prop :=
  (∀ (s : State) (ref : Nat), s.running → s.mayStart = true → s.service.stack = [] →
    s.service.pending = PerSource.fill false → s.service.capped = false →
    s.service.sled = .standing .park → s.service.motion = none →
    s.service.closed = some .park → s.sheetClear = true →
    s.sourceLevel .order ≤ s.service.mask →
    ∃ t, Completes (.serviceWipe ref) s t
      ∧ t.service.current = some
          { action := .wipe, stage := .outbound, block := s.keepWet.pointer,
            drops := PerChannel.fill 0, volumes := PerChannel.fill 0, results := [] }
      ∧ t.service.timeLeft = some s.sec3.limits.wipe ∧ t.service.motion = some .spit
      ∧ t.service.wiper = true
      ∧ t.service.stack
          = [{ source := .order, level := s.sourceLevel .order, actions := [.wipe],
               channel := none }]
      ∧ t.service.pending.order = false)
  ∧ (∀ (s : State) (ref level : Nat), s.running → level ≤ 7 → s.service.current = none →
    s.recoveryUnblocked →
    (s.service.stopped = true →
      ∃ t, Completes (.setMask ref level) s t ∧ t.service.current = none
        ∧ t.service.pending = (s.atMask level).service.pending ∧ t.service.stack = s.service.stack)
    ∧ (∀ (p : SledPlace) (src : Source) (a : Action) (acts : List Action) (ch : Option Channel),
      s.service.stopped = false → s.service.sled = .standing p → s.service.closed = some p →
      (s.atMask level).mayChoose src →
      (∀ o, (s.atMask level).mayChoose o → s.choosesBefore src o) →
      s.sequenceOf src = (a :: acts, ch) → (a = .uncap ∨ a = .home → p ≠ .park) → (a = .cap → p ≠ .cap) →
      ∃ t, Completes (.setMask ref level) s t ∧ t.service.current.map CurrentAction.action = some a
        ∧ t.service.timeLeft = some (s.timeLimit a)
        ∧ t.service.stack
            = { source := src, level := s.sec3.levels.get src, actions := a :: acts, channel := ch }
              :: s.service.stack
        ∧ ∀ o, o ≠ .recovery → t.service.pending.get o
            = ((s.atMask level).service.pending.get o && decide (o ≠ src)))
    ∧ (∀ (src : Source) (a : Action) (acts : List Action) (ch : Option Channel),
      s.service.stopped = false → s.service.sled = .unknown → s.service.closed = none →
      (s.atMask level).mayChoose src →
      (∀ o, (s.atMask level).mayChoose o → s.choosesBefore src o) →
      s.sequenceOf src = (a :: acts, ch) →
      ∃ t, Completes (.setMask ref level) s t
        ∧ t.service.current.map CurrentAction.action = some .home
        ∧ t.service.stack = s.service.stack ∧ t.service.pending.get src = true)
    ∧ (∀ (p : SledPlace) (q : Sequence) (qs : List Sequence) (a : Action) (acts : List Action),
      s.service.stopped = false → s.service.sled = .standing p → s.service.closed = some p →
      (∀ o, ¬ (s.atMask level).mayChoose o) → s.service.stack = q :: qs →
      q.actions = a :: acts → s.mayBegin a → (a = .uncap ∨ a = .home → p ≠ .park) → (a = .cap → p ≠ .cap) →
      ∃ t, Completes (.setMask ref level) s t ∧ t.service.current.map CurrentAction.action = some a
        ∧ t.service.stack = s.service.stack)
    ∧ (s.service.stopped = false → (∀ o, ¬ (s.atMask level).mayChoose o) →
      (∀ q ∈ s.service.stack.head?, ∀ a ∈ q.actions.head?, ¬ s.mayBegin a) →
      ∃ t, Completes (.setMask ref level) s t ∧ t.service.current = none
        ∧ t.service.stack = s.service.stack
        ∧ ∀ o, o ≠ .recovery → t.service.pending.get o = (s.atMask level).service.pending.get o))

/-! ### SETTINGS and TALLY -/

/-- A SETTINGS order: its tests, its clamping to the ranges of R155, and that it replaces the pending copy and
nothing else (R156). -/
def Obligations.SettingsOrderReplacesThePendingCopy : Prop :=
  ∀ (s : State) (ref : Nat) (v : PerChannel Settings), s.mode.resetPin = false →
    (s.mode.mode ≠ .run →
      Completes (.settings ref v) s (s.withOutcome .settings ref .refusedMode))
    ∧ (s.mode.mode = .run →
        (∃ c, (s.reservoir c).fullLevel ≤ (v.get c).refillMark) →
        Completes (.settings ref v) s (s.withOutcome .settings ref .refusedRange))
    ∧ (s.mode.mode = .run → (∀ c, (v.get c).refillMark < (s.reservoir c).fullLevel) →
        ∃ w, (∀ c, SettingsClamped (v.get c) (w.get c)) ∧ Completes (.settings ref v) s
          (({ s with tally := { s.tally with pendingCopy := w } } : State).withOutcome
            .settings ref (if w = v then .accepted else .acceptedClamped)))

/-- A full close reports the period, opens the next from the estimates and puts the pending settings in
force (R160, R161, R158). -/
def Obligations.TallyCloseOpensANewPeriod : Prop :=
  ∀ (s : State) (ref : Nat), s.running →
    (s.tally.outstanding = true →
      Completes (.tallyClose ref) s (s.withOutcome .tally ref .refusedBusy))
    ∧ (s.tally.outstanding = false →
      ∃ t, Completes (.tallyClose ref) s t ∧ t.shows .tally ref .accepted ∧ t.ink = s.ink
        ∧ t.mode = s.mode
        ∧ t.link.reportSlot = some { report := s.snapshot false false, partsSent := 0 }
        ∧ t.tally =
            { channels := PerChannel.gen fun c =>
                { printed := 0, spit := 0, purge := 0, refilled := 0, adjusted := 0, bands := 0,
                  estimateOpen := (s.ink.get c).estimate, overflow := false }
              pendingCopy := s.tally.pendingCopy
              inForce := { issue := (s.tally.inForce.issue + 1) % 256,
                           values := s.tally.pendingCopy }
              prior := s.tally.inForce, leadingSeen := false, trailingSeen := false,
              startInPeriod := false, outstanding := true }
        ∧ ∀ r ∈ t.bands.records, r.state ≠ .printing →
            r.volume = PerChannel.gen (t.bandVolume r.drops))

/-- A peek loads a snapshot into the TALLY REPORT slot and changes nothing at the tally unit (R162, R159).
-/
def Obligations.TallyPeekReportsThePeriodSoFar : Prop :=
  ∀ (s : State) (ref : Nat), s.running →
    (s.tally.outstanding = true →
      Completes (.tallyPeek ref) s (s.withOutcome .tally ref .refusedBusy))
    ∧ (s.tally.outstanding = false →
      Completes (.tallyPeek ref) s
        (({ s with
          link := { s.link with
            reportSlot := some { report := s.snapshot true false, partsSent := 0 }
            tx := s.link.tx.map fun x =>
              if x.slot = .tallyReport then { x with replaced := true } else x } } :
          State).withOutcome .tally ref .accepted))

/-! ### CLEAR -/

/-- A CLEAR order does the parts it names, or is refused where it names none (R206, R207, R38, R39, R149). -/
def Obligations.ClearOrderDoesItsParts : Prop :=
  ∀ (c : Instr) (s : State) (ref : Nat) (f : Bool) (ladders starved : ChannelSet),
    clearRequest c = some (ref, f, ladders, starved) → s.running →
    (f = false → ladders.anySet = false → starved.anySet = false →
      Completes c s (s.withOutcome .clear ref .refusedRange))
    ∧ (f = true ∨ ladders.anySet = true ∨ starved.anySet = true →
      ∃ t, Completes c s t ∧ t.shows .clear ref .accepted ∧ SameLedgers s t
        ∧ (∀ d, starved.get d = true → (t.refill.get d).starvedMark = false)
        ∧ (∀ d, starved.get d = false →
            (t.refill.get d).starvedMark = (s.refill.get d).starvedMark)
        ∧ (∀ d, RefillCleared s t f starved d)
        ∧ (∀ d, ladders.get d = true → t.nozzle.ladders.get d = Ladder.reset)
        ∧ t.faults.count = s.faults.count
        ∧ (f = false → t.faults = s.faults)
        ∧ (f = true → t.faults.record = none
            ∧ (∀ d, (t.refill.get d).lockedMark = false)
            ∧ t.service.stopped = false
            ∧ t.faults.active = s.faults.active.filter fun g =>
                decide (g = .duplicateStation) || g.sheetStop
                  || (decide (g = .lineStarved)
                    && Channel.all.any fun d => (t.refill.get d).starvedMark)))

/-! ### CONFIG, START, RESTART, HALTED -/

/-- Sections 0, 1 and 2 are held as clamped, with nothing put in force; section 3 comes in two frames, the first
held with no outcome, the second completing it where its reference is the held one (R191 to R193, R211). -/
def Obligations.ConfigSectionsAreHeldAsClamped : Prop :=
  (∀ (s : State) (ref : Nat) (x0 : Section0) (x1 : Section1) (x2 : Section2),
    s.mode.resetPin = false → s.mode.mode = .config →
    (∃ y, Section0Clamped x0 y
      ∧ (¬ marksWithin y → Completes (.configSection0 ref x0) s (s.withOutcome .config ref .refusedRange))
      ∧ (marksWithin y → Completes (.configSection0 ref x0) s
        (({ s with mode := { s.mode with
            held := { s.mode.held with sec0 := y }, received0 := true } } :
          State).withOutcome .config ref (if y = x0 then .accepted else .acceptedClamped))))
    ∧ (∃ y, Section1Clamped x1 y ∧ Completes (.configSection1 ref x1) s
        (({ s with mode := { s.mode with
            held := { s.mode.held with sec1 := y }, received1 := true } } :
          State).withOutcome .config ref (if y = x1 then .accepted else .acceptedClamped)))
    ∧ ∃ y, Section2Clamped x2 y ∧ Completes (.configSection2 ref x2) s
        (({ s with mode := { s.mode with
            held := { s.mode.held with sec2 := y }, received2 := true } } :
          State).withOutcome .config ref (if y = x2 then .accepted else .acceptedClamped)))
  ∧ (∀ (s : State) (ref : Nat) (x : Section3First) (v : PerChannel Settings),
    s.mode.resetPin = false → s.mode.mode = .config →
    Completes (.configSection3FirstPart ref x) s
        { s with mode := { s.mode with firstPart := some { ref := ref, content := x } } }
    ∧ ((∀ y, s.mode.firstPart ≠ some { ref := ref, content := y }) →
      Completes (.configSection3SecondPart ref v) s
        (s.withOutcome .config ref .refusedSequence))
    ∧ (∀ f, s.mode.firstPart = some { ref := ref, content := f } →
      ∃ y, Section3Clamped { first := f, initial := v } y
        ∧ Completes (.configSection3SecondPart ref v) s
          (({ s with mode := { s.mode with
              held := { s.mode.held with sec3 := y }, received3 := true, firstPart := none } } :
            State).withOutcome .config ref
            (if y = { first := f, initial := v } then .accepted else .acceptedClamped))))

/-- The tests of a START order, in their order; one that passes enters RUN (R195). -/
def Obligations.StartOrderIsTested : Prop :=
  ∀ (s : State) (ref : Nat), s.mode.resetPin = false →
    (s.mode.mode ≠ .config → Completes (.start ref) s (s.withOutcome .start ref .refusedMode))
    ∧ (s.mode.mode = .config →
        ¬ (s.mode.received0 = true ∧ s.mode.received1 = true ∧ s.mode.received2 = true
            ∧ s.mode.received3 = true) →
        Completes (.start ref) s (s.withOutcome .start ref .refusedSequence))
    ∧ (s.mode.mode = .config → s.mode.received0 = true → s.mode.received1 = true →
        s.mode.received2 = true → s.mode.received3 = true →
        ((∃ c, (s.mode.held.sec0.reservoir.get c).fullLevel
            ≤ (s.mode.held.sec3.initial.get c).refillMark) →
          Completes (.start ref) s (s.withOutcome .start ref .refusedRange))
        ∧ ((∀ c, (s.mode.held.sec3.initial.get c).refillMark
            < (s.mode.held.sec0.reservoir.get c).fullLevel) →
          ∃ t, Completes (.start ref) s t ∧ t.shows .start ref .accepted ∧ t.mode.mode = .run))

/-- What a START taken puts in force and what it does at each block: the mode and the configuration (R196),
the estimates (R22), refill (R37), the FHOLD drive (R88), the tally unit (R166), the keep-wet unit (R126),
nozzle health (R150) and the link (R196). -/
def Obligations.StartPutsTheConfigurationInForce : Prop :=
  ∀ (s : State) (ref : Nat), s.mode.resetPin = false → s.startRefusal = none →
    ∃ t, Completes (.start ref) s t
      ∧ t.mode = { s.mode with
          mode := .run, inForce := s.mode.held, started := true, firstPart := none }
      ∧ t.tally.inForce = { issue := (s.tally.inForce.issue + 1) % 256,
                            values := s.mode.held.sec3.initial }
      ∧ t.tally.prior = t.tally.inForce ∧ t.tally.pendingCopy = s.mode.held.sec3.initial
      ∧ t.tally.startInPeriod = true ∧ t.tally.leadingSeen = s.tally.leadingSeen
      ∧ t.tally.trailingSeen = s.tally.trailingSeen ∧ t.tally.outstanding = s.tally.outstanding
      ∧ t.keepWet.counter = some s.mode.held.sec3.first.keepWetInterval
      ∧ t.keepWet.cappedTicks = 0 ∧ t.keepWet.pointer = s.keepWet.pointer
      ∧ t.keepWet.missed = s.keepWet.missed ∧ t.keepWet.dry = s.keepWet.dry
      ∧ t.nozzle.armed = s.mode.held.sec3.first.autoRecovery
      ∧ t.nozzle.failed = s.nozzle.failed ∧ t.nozzle.issue = s.nozzle.issue
      ∧ (∀ c, t.enabled c = false → t.nozzle.ladders.get c
          = { level := 0, exhausted := false, affected := [], inService := false })
      ∧ (∀ c, StartsInk s t c)
      ∧ (∀ c, (s.refill.get c).state = .held → t.enabled c = false → (t.refill.get c).state = .held)
      ∧ (s.purgeRunning = false → t.purgeRunning = false →
          ∀ c, (s.refill.get c).state = .held → t.enabled c = true →
            ((s.refill.get c).lockedMark = true → (t.refill.get c).state = .locked)
            ∧ ((s.refill.get c).lockedMark = false → (s.refill.get c).starvedMark = true →
                (t.refill.get c).state = .starved)
            ∧ ((s.refill.get c).lockedMark = false → (s.refill.get c).starvedMark = false →
                (t.refill.get c).state = .idle ∨ (t.refill.get c).state = .want
                  ∨ (t.refill.get c).state = .opened))
      ∧ (s.sheetInProgress = false → s.moveInProgress = false → s.sheetStopped = false →
          t.feed.fholdDrive = false)
      ∧ (s.link.statusDue = true ∨ s.mode.held.sec1.statusPeriod ≤ s.link.periodCount →
          t.link.statusDue = true)
      ∧ (t.link.statusDue = true → s.link.statusDue = true
          ∨ s.mode.held.sec1.statusPeriod ≤ s.link.periodCount ∨ t.link.early = true)
      ∧ (∀ n, t.link.peers.get n =
          if (s.link.peers.get n).presence = .present
              ∧ 3 * s.mode.held.sec1.statusPeriod ≤ (s.link.peers.get n).age then
            { s.link.peers.get n with presence := .lost }
          else s.link.peers.get n)
      ∧ t.link.controller =
          (if s.link.controller.presence = .present
              ∧ s.mode.held.sec1.controllerTimeout ≤ s.link.controller.age then
            { s.link.controller with presence := .lost }
          else s.link.controller)
      ∧ t.link.errorWindow = s.link.errorWindow

/-- What a RESTART order leaves at each block (R197, R59, R89, R113, R127, R151, R167, R187, R208). That the
WIPER output is kept, which R113 does not list, is the model's choice (notes/assumptions/23.md), and so is that
the position switch that reads closed is (40.md). The STATUS counts and the early mark are kept, and a RESTART
that closes a valve, moves the guard line or ends a move asks for an early STATUS (R40, R54, R179; that it does
so at a RESTART too is the model's reading, 14.md). -/
def Obligations.RestartGivesEveryBlockItsRestartValues : Prop :=
  ∀ (s : State) (ref : Nat) (straps : StationNo), s.mode.resetPin = false →
    ∃ t, Completes (.restart ref straps) s t ∧ t.shows .restart ref .accepted
      ∧ t.mode = { s.mode with mode := .config, station := straps, firstPart := none }
      ∧ t.ink = s.ink
      ∧ (∀ c, (t.refill.get c).state = .held
          ∧ (t.refill.get c).starvedMark = (s.refill.get c).starvedMark
          ∧ (t.refill.get c).lockedMark = (s.refill.get c).lockedMark
          ∧ (t.refill.get c).leakCount = (s.refill.get c).leakCount
          ∧ (t.refill.get c).leakWindow = (s.refill.get c).leakWindow)
      ∧ t.bands = { records := [], sheetRef := none, lastRetired := 0, guard := .line 0 }
      ∧ t.feed.sheet = none ∧ t.feed.phase = .none ∧ t.feed.position = 0
      ∧ t.feed.commanded = 0 ∧ t.feed.fedPending = 0 ∧ t.feed.capture = none
      ∧ t.feed.stepsAtCapture = none ∧ t.feed.trailing = none ∧ t.feed.skew = none
      ∧ t.feed.skewWindow = none ∧ t.feed.trim = 0
      ∧ t.feed.move = s.feed.move.map (fun m => { m with state := .idle })
      ∧ t.feed.fholdDrive = true ∧ t.feed.vacuum = false ∧ t.feed.underSegment = false
      ∧ t.service = { s.service with
          sled := .unknown, motion := none, current := none, timeLeft := none, head := none,
          pending := PerSource.fill false, order := none, mask := 7, stack := [],
          stopped := false, capIdle := 0 }
      ∧ t.keepWet = { s.keepWet with counter := none, cappedTicks := 0, underCheck := none }
      ∧ t.nozzle = { s.nozzle with
          blocked := false
          ladders := PerChannel.gen fun c => { s.nozzle.ladders.get c with inService := false } }
      ∧ t.tally = { s.tally with outstanding := false }
      ∧ t.faults = { s.faults with active := [] }
      ∧ t.link.errors = 0 ∧ t.link.errorWindow = none ∧ t.link.reportSlot = none
      ∧ t.link.faultSlot = s.link.faultSlot ∧ t.link.nozzleSlot = s.link.nozzleSlot
      ∧ t.link.periodCount = s.link.periodCount ∧ t.link.spacingCount = s.link.spacingCount
      ∧ ((∃ c, (s.refill.get c).state = .opened) ∨ s.bands.guard ≠ .line 0
            ∨ (∃ m ∈ s.feed.move, m.state ≠ .idle) →
          t.link.early = true ∧ t.link.statusDue = (s.link.statusDue || decide (2 ≤ s.link.spacingCount)))
      ∧ ((∀ c, (s.refill.get c).state ≠ .opened) → s.bands.guard = .line 0 →
          (∀ m ∈ s.feed.move, m.state = .idle) →
          t.link.early = s.link.early ∧ t.link.statusDue = s.link.statusDue)
      ∧ (∀ n, t.link.peers.get n = { presence := .absent, age := 0, fields := none })
      ∧ t.link.controller = { presence := .absent, age := 0 }

/-- A heard frame with the station's own number, whether it comes as such or as a STATUS, halts a station in
CONFIG or RUN (R174, R199). -/
def Obligations.DuplicateStationHalts : Prop :=
  ∀ (c : Instr) (s : State), s.mode.resetPin = false → s.mode.mode ≠ .halted →
    (c = .duplicateStationHeard ∨ ∃ f, c = .peerStatusHeard s.mode.station f) →
    ∃ t, Completes c s t ∧ t.mode = { s.mode with mode := .halted }
      ∧ FaultCode.duplicateStation ∈ t.faults.active
      ∧ (∀ d, (t.refill.get d).state = .held) ∧ t.feed.fholdDrive = true
      ∧ (∀ m, t.feed.move = some m → m.state ≠ .running)
      ∧ t.feed.sheet = s.feed.sheet ∧ t.feed.phase = s.feed.phase
      ∧ t.feed.position = s.feed.position ∧ t.feed.capture = s.feed.capture
      ∧ t.feed.trailing = s.feed.trailing ∧ t.feed.vacuum = s.feed.vacuum
      ∧ t.feed.underSegment = s.feed.underSegment
      ∧ t.keepWet = { s.keepWet with counter := none, cappedTicks := 0 }
      ∧ t.service.current = s.service.current ∧ t.service.stack = s.service.stack
      ∧ t.service.capped = s.service.capped
      ∧ t.ink = s.ink ∧ t.tally = s.tally ∧ t.bands = s.bands ∧ t.link.peers = s.link.peers

/-! ### The link -/

/-- A STATUS heard from another station fills its entry and no other (R180), and an OPEN channel backs off
exactly where the peers that show it OPEN with precedence then reach the line budget (R26, R29), in states where
the block condition stands as R141 says (StepKeepsTheTablesInBounds); a BEACON heard sets the controller entry
(R182). -/
def Obligations.HeardFramesFillTheirEntries : Prop :=
  (∀ (s : State) (n : StationNo) (f : PeerStatus), s.mode.resetPin = false → n ≠ s.mode.station →
    ∃ t, Completes (.peerStatusHeard n f) s t
      ∧ t.link.peers.get n = { presence := .present, age := 0, fields := some f }
      ∧ (∀ m, m ≠ n → t.link.peers.get m = s.link.peers.get m)
      ∧ t.link.controller = s.link.controller ∧ t.link.errors = s.link.errors
      ∧ SameLedgers s t
      ∧ ∀ c, s.blockFollows → (s.refill.get c).state = .opened →
          (s.sec1.budget.get c ≤ t.openAhead c →
            (t.refill.get c).state = .backoff
            ∧ (t.refill.get c).backoff = some (50 * (s.mode.station.val + 1))
            ∧ (t.refill.get c).window = none
            ∧ (t.refill.get c).waited = (s.refill.get c).waited)
          ∧ (t.openAhead c < s.sec1.budget.get c → (t.refill.get c).state = .opened))
  ∧ (∀ (s : State) (stopping : Bool) (n : Option Nat), s.mode.resetPin = false →
    ∃ t, Completes (.beaconHeard stopping n) s t
      ∧ t.link.controller = { presence := if stopping then .lost else .present, age := 0 }
      ∧ (stopping = true → s.link.controller.presence ≠ .lost → s.sheetInProgress = true →
          FaultCode.controllerSilent ∈ t.faults.active)
      ∧ t.link.peers = s.link.peers ∧ SameLedgers s t)

/-- A discarded frame and a transmit mismatch count one link error each. The window that runs, or else one of
1000 ms from the counter as it stood, is the window after it: one beyond the limit, with the window's mark not yet
set and a START made, raises LINK ERRORS and sets the mark; any other raises nothing and leaves the window as it
was (R170, R171, R173, R194). -/
def Obligations.LinkErrorsAreCounted : Prop :=
  ∀ (c : Instr) (s : State), s.mode.resetPin = false →
    (c = .frameDiscarded ∨ c = .transmitMismatch ∧ s.link.tx.isSome = true) →
    let n := Nat.min 65535 (s.link.errors + 1)
    let x := s.link.errorWindow.getD { left := 1000, base := s.link.errors, raised := false }
    let marked := s.mode.started = true ∧ x.raised = false ∧ x.base + s.sec1.errorLimit < n
    ∃ t, Completes c s t ∧ t.link.errors = n
      ∧ (marked → t.link.errorWindow = some { x with raised := true }
          ∧ FaultCode.linkErrors ∈ t.faults.active)
      ∧ (¬ marked → t.link.errorWindow = some x ∧ t.faults = s.faults)
      ∧ t.link.peers = s.link.peers ∧ t.link.outcome = s.link.outcome ∧ SameLedgers s t

/-- A frame begins from the first unsent slot in the order of R176 among those the mode offers (R186), its bytes
fixed at that moment, and from no slot while one is on the line or none is offered; one lost in arbitration or by a mismatch leaves its slot unsent and gives back the
early mark that its beginning cleared (R170, R175, R176, R179, R186). -/
def Obligations.OwnFrameBeginsAndIsLost : Prop :=
  (∀ s : State, s.mode.resetPin = false →
    (∀ x, s.sends x → s.link.tx = none →
      Completes .frameBegin s
        { s with link := { s.link with
            tx := some
              { slot := x, bytes := s.slotFrame x, replaced := false, age := 0,
                earlyBefore := decide (x = .status) && s.link.early }
            early := s.link.early && decide (x ≠ .status) } })
    ∧ (s.link.tx.isSome = true ∨ (∀ x, ¬ s.sends x) → Completes .frameBegin s s))
  ∧ (∀ (s : State) (x : TxFrame), s.mode.resetPin = false → s.link.tx = some x →
    Completes .arbitrationLost s
        { s with link := { s.link with tx := none, early := s.link.early || x.earlyBefore } }
    ∧ ∃ t, Completes .transmitMismatch s t ∧ t.link.tx = none
        ∧ t.link.nozzleSlot = s.link.nozzleSlot ∧ t.link.reportSlot = s.link.reportSlot
        ∧ (s.link.statusDue = true → t.link.statusDue = true)
        ∧ (s.link.early = true ∨ x.earlyBefore = true → t.link.early = true)
        ∧ (s.link.faultSlot = true → t.link.faultSlot = true))

/-- A frame sent empties or advances its slot (R177, R158, R179, R205). -/
def Obligations.SentFrameAdvancesItsSlot : Prop :=
  ∀ (s : State) (x : TxFrame), s.mode.resetPin = false → s.link.tx = some x →
    ∃ t, Completes .frameSent s t ∧ t.link.tx = none ∧ t.ink = s.ink ∧ t.bands = s.bands
      ∧ t.mode = s.mode ∧ t.link.peers = s.link.peers
      ∧ (x.slot = .faultNotice → x.replaced = false →
          t.link.faultSlot = false ∧ t.faults = { s.faults with notice := none })
      ∧ (x.slot = .faultNotice → x.replaced = true →
          t.link.faultSlot = s.link.faultSlot ∧ t.faults = s.faults)
      ∧ (x.slot = .nozzleNotice → x.replaced = false → s.nozzle.notices = [] →
          t.link.nozzleSlot = none)
      ∧ (∀ n l, s.nozzle.notices = n :: l → x.slot = .nozzleNotice → x.replaced = false →
          t.link.nozzleSlot = some n ∧ t.nozzle.notices = l)
      ∧ (∀ r, s.link.reportSlot = some r → x.slot = .tallyReport → x.replaced = false →
          (r.partsSent < 2 → t.link.reportSlot = some { r with partsSent := r.partsSent + 1 }
            ∧ t.tally = s.tally)
          ∧ (2 ≤ r.partsSent → t.link.reportSlot = none
            ∧ t.tally = { s.tally with outstanding := false }))
      ∧ (x.slot = .status → s.link.early = false → x.age < s.sec1.statusPeriod →
          t.link.statusDue = false ∧ t.link.periodCount = x.age
          ∧ t.link.spacingCount = Nat.min 2 x.age)

/-- The two STATUS timers set the slot due, and the end of the error window makes it absent, each with no
other effect (R173, R179); entries that reach their age become LOST, with PEER LOST and CONTROLLER SILENT
raised for a sheet in progress (R75, R181, R182). -/
def Obligations.LinkTimersAct : Prop :=
  (∀ s : State, s.mode.resetPin = false →
    (s.sec1.statusPeriod ≤ s.link.periodCount →
      Completes .statusPeriodExpiry s { s with link := { s.link with statusDue := true } })
    ∧ (2 ≤ s.link.spacingCount → s.link.early = true →
      Completes .spacingCountExpiry s { s with link := { s.link with statusDue := true } })
    ∧ (∀ x, s.link.errorWindow = some x → x.left = 0 →
      Completes .errorWindowEnd s { s with link := { s.link with errorWindow := none } }))
  ∧ (∀ (s : State) (a : StationSet), s.mode.resetPin = false →
    (∃ t, Completes (.peerEntryLost a) s t ∧ SameLedgers s t
      ∧ (∀ n, a.get n = true → s.peerDue n = true →
          t.link.peers.get n = { s.link.peers.get n with presence := .lost })
      ∧ (∀ n, a.get n = false ∨ s.peerDue n = false →
          t.link.peers.get n = s.link.peers.get n)
      ∧ (∀ r, s.feed.sheet = some r → s.sheetInProgress = true → ∀ n, a.get n = true →
          s.peerDue n = true → r.active.get n = true → FaultCode.peerLost ∈ t.faults.active))
    ∧ (s.controllerDue = true →
      ∃ t, Completes .controllerTimeout s t ∧ SameLedgers s t
        ∧ t.link.controller = { s.link.controller with presence := .lost }
        ∧ (s.sheetInProgress = true → FaultCode.controllerSilent ∈ t.faults.active)))

/-! ### Ink and refill -/

/-- Each tick, which is a step on an empty queue by the model's choice (notes/assumptions/1.md), samples a
mark's line and counts, and the twentieth sample brings the mark's event (R3). A mark change of an enabled KNOWN
channel sets its estimate to the mark's level and books the difference in adjusted, with DRIFT EXCESS exactly
beyond the tolerance; of an UNKNOWN one, FULL turning WET anchors it without that test, and any other change moves
the mark alone; of a disabled one, it reconciles nothing; a SETTLING mark takes its first reading and
reconciles nothing (11.md); an event with no 20 samples behind it changes nothing (2.md; R2, R3, R4, R16, R18,
R31). -/
def Obligations.MarksReconcileAndSettle : Prop :=
  (∀ (s : State) (c : Channel) (m : MarkName) (k : Mark), s.pending = [] → s.mode.resetPin = false →
    (s.ink.get c).mark m = k →
    ∃ t k', step s = Host.Outcome.next t ∧ (t.ink.get c).mark m = k'
      ∧ k'.state = k.state ∧ k'.raw = k.raw ∧ k'.sample = k.raw
      ∧ (k.state ≠ .settling → markReading k.raw = k.state → k'.count = 0)
      ∧ (k.state ≠ .settling → markReading k.raw ≠ k.state → k'.count = Nat.min 20 (k.count + 1))
      ∧ (k.state = .settling → k.raw = k.sample → k'.count = Nat.min 20 (k.count + 1))
      ∧ (k.state = .settling → k.raw ≠ k.sample → k'.count = 1)
      ∧ (20 ≤ k'.count → k.state = .settling → Instr.markSettled c m k.raw ∈ t.pending)
      ∧ (20 ≤ k'.count → k.state ≠ .settling → Instr.markChange c m k.raw ∈ t.pending)
      ∧ (k'.count < 20 → ∀ w, Instr.markSettled c m w ∉ t.pending
          ∧ Instr.markChange c m w ∉ t.pending))
  ∧ (∀ (s : State) (c : Channel) (m : MarkName) (wet : Bool),
    ((s.ink.get c).mark m).count < 20 ∨ ((s.ink.get c).mark m).sample ≠ wet →
    Completes (.markChange c m wet) s s ∧ Completes (.markSettled c m wet) s s)
  ∧ (∀ (s : State) (c : Channel) (m : MarkName) (wet : Bool), s.mode.resetPin = false →
    s.enabled c = true → 20 ≤ ((s.ink.get c).mark m).count → ((s.ink.get c).mark m).sample = wet →
    ((s.ink.get c).mark m).state ≠ .settling →
    ((s.ink.get c).mark m).state ≠ markReading wet →
    ∃ t, Completes (.markChange c m wet) s t ∧ t.mode = s.mode
      ∧ (((t.ink.get c).mark m).state = markReading wet) ∧ ((t.ink.get c).mark m).count = 0
      ∧ (t.ink.get c).residue = (s.ink.get c).residue
      ∧ (∀ d, d ≠ c → t.ink.get d = s.ink.get d)
      ∧ ((s.ink.get c).state = .known →
          (t.ink.get c).state = .known
          ∧ (t.ink.get c).estimate
              = (match m with
                | .low => (s.reservoir c).lowLevel
                | .full => (s.reservoir c).fullLevel)
          ∧ (t.tally.channels.get c).adjusted
              = max (-2147483648) (min 2147483647 ((s.tally.channels.get c).adjusted
                  + (((t.ink.get c).estimate : Int) - (s.ink.get c).estimate)))
          ∧ ((s.reservoir c).tolerance
                < (((t.ink.get c).estimate : Int) - (s.ink.get c).estimate).natAbs →
              FaultCode.driftExcess ∈ t.faults.active)
          ∧ ((((t.ink.get c).estimate : Int) - (s.ink.get c).estimate).natAbs
                ≤ (s.reservoir c).tolerance →
              FaultCode.driftExcess ∈ t.faults.active → FaultCode.driftExcess ∈ s.faults.active))
      ∧ ((s.ink.get c).state = .unknown →
          FaultCode.driftExcess ∈ t.faults.active → FaultCode.driftExcess ∈ s.faults.active)
      ∧ ((s.ink.get c).state = .unknown → m = .low ∨ wet = false →
          t.tally = s.tally
          ∧ t.ink.get c = (s.ink.get c).putMark m
              { (s.ink.get c).mark m with state := markReading wet, count := 0 })
      ∧ ((s.ink.get c).state = .unknown → m = .full → wet = true →
          (t.ink.get c).state = .known
          ∧ (t.ink.get c).estimate = (s.reservoir c).fullLevel
          ∧ (t.tally.channels.get c).adjusted
              = max (-2147483648) (min 2147483647 ((s.tally.channels.get c).adjusted
                  + (((t.ink.get c).estimate : Int) - (s.ink.get c).estimate))))
      ∧ (m = .full → wet = true → (t.refill.get c).state ≠ .opened))
  ∧ (∀ (s : State) (c : Channel) (m : MarkName) (wet : Bool), s.mode.resetPin = false →
    s.enabled c = false → 20 ≤ ((s.ink.get c).mark m).count → ((s.ink.get c).mark m).sample = wet →
    ((s.ink.get c).mark m).state ≠ .settling →
    ((s.ink.get c).mark m).state ≠ markReading wet →
    ∃ t, Completes (.markChange c m wet) s t ∧ t.mode = s.mode ∧ t.tally = s.tally
      ∧ t.ink = s.ink.set c ((s.ink.get c).putMark m
          { (s.ink.get c).mark m with state := markReading wet, count := 0 }))
  ∧ (∀ (s : State) (c : Channel) (m : MarkName) (wet : Bool), s.mode.resetPin = false →
    20 ≤ ((s.ink.get c).mark m).count → ((s.ink.get c).mark m).sample = wet →
    ((s.ink.get c).mark m).state = .settling →
    Completes (.markSettled c m wet) s
      { s with ink := s.ink.set c ((s.ink.get c).putMark m
          { (s.ink.get c).mark m with state := markReading wet, count := 0 }) })

/-- A flow pulse credits an enabled KNOWN channel up to its capacity, moves no estimate of an UNKNOWN one, and
neither credits nor tallies a disabled one's (R2, R14, R15). With the valve open it counts in the flow window
(R32), and one that brings the estimate to the overfill level while the FULL mark is not WET locks the channel
(R34); with the valve closed it is a leak pulse, and one beyond the limit locks the channel, while one within the
limit, or before the first START (R194), starts the leak window at 1 or counts one in it and raises nothing but a
TALLY OVERFLOW of its credit (R35, R154); where its credit changes the class so that the valve opens in the event,
count and window are cleared again (R28). -/
def Obligations.FlowPulseCreditsAndLocks : Prop :=
  (∀ (s : State) (c : Channel), s.mode.resetPin = false →
    ∃ t, Completes (.flowPulse c) s t ∧ t.mode = s.mode
      ∧ (∀ d, d ≠ c → t.ink.get d = s.ink.get d ∧ t.tally.channels.get d = s.tally.channels.get d)
      ∧ (s.enabled c = false → t.ink = s.ink ∧ t.tally = s.tally)
      ∧ (s.enabled c = true → (s.ink.get c).state = .unknown → t.ink = s.ink)
      ∧ (s.enabled c = true → (s.ink.get c).state = .known →
          t.ink.get c = { s.ink.get c with
            estimate := Nat.min ((s.ink.get c).estimate + (s.reservoir c).credit)
              (s.reservoir c).capacity })
      ∧ (s.enabled c = true →
          (t.tally.channels.get c).refilled
            = Nat.min 4294967295
                ((s.tally.channels.get c).refilled + (s.reservoir c).credit)))
  ∧ (∀ (s : State) (c : Channel), s.mode.resetPin = false → (s.refill.get c).state = .opened →
    ∃ t, Completes (.flowPulse c) s t
      ∧ (∀ f, (s.refill.get c).window = some f → (t.refill.get c).state = .opened →
          (t.refill.get c).window = some { f with pulses := Nat.min 65535 (f.pulses + 1) })
      ∧ ((t.ink.get c).estimate ≠ (s.ink.get c).estimate → (s.ink.get c).full.state ≠ .wet →
          Nat.min ((s.reservoir c).fullLevel + (s.reservoir c).tolerance) (s.reservoir c).capacity
            ≤ (t.ink.get c).estimate →
          FaultCode.overfill ∈ t.faults.active ∧ (t.refill.get c).lockedMark = true
          ∧ (t.refill.get c).waited = 0 ∧ (t.refill.get c).window = none
          ∧ ((t.refill.get c).state = .locked ∨ (t.refill.get c).state = .held))
      ∧ ((t.ink.get c).estimate = (s.ink.get c).estimate ∨ (s.ink.get c).full.state = .wet
          ∨ (t.ink.get c).estimate
            < Nat.min ((s.reservoir c).fullLevel + (s.reservoir c).tolerance)
                (s.reservoir c).capacity →
          (t.refill.get c).lockedMark = (s.refill.get c).lockedMark
          ∧ (FaultCode.overfill ∈ t.faults.active → FaultCode.overfill ∈ s.faults.active)))
  ∧ (∀ (s : State) (c : Channel), s.mode.resetPin = false → s.mode.started = true →
    (s.refill.get c).state ≠ .opened → s.sec1.leakLimit ≤ (s.refill.get c).leakCount →
    s.sec1.leakLimit ≤ 255 → (s.refill.get c).leakWindow.isSome = true →
    ∃ t, Completes (.flowPulse c) s t ∧ FaultCode.valveLeak ∈ t.faults.active
      ∧ (t.refill.get c).lockedMark = true ∧ (t.refill.get c).leakCount = 0
      ∧ (t.refill.get c).leakWindow = none
      ∧ ((t.refill.get c).state = .locked ∨ (t.refill.get c).state = .held))
  ∧ (∀ (s : State) (c : Channel), s.mode.resetPin = false → (s.refill.get c).state ≠ .opened →
    (s.refill.get c).leakCount ≤ 255 →
    let n := if (s.refill.get c).leakWindow = none then 1 else (s.refill.get c).leakCount + 1
    s.mode.started = false ∨ n ≤ s.sec1.leakLimit →
    ∃ t, Completes (.flowPulse c) s t
      ∧ (∀ f ∈ t.faults.active, f = .tallyOverflow ∨ f ∈ s.faults.active)
      ∧ (t.refill.get c).lockedMark = (s.refill.get c).lockedMark
      ∧ ((t.refill.get c).state ≠ .opened →
          (t.refill.get c).leakCount = n
          ∧ (t.refill.get c).leakWindow = some ((s.refill.get c).leakWindow.getD 1000))
      ∧ ((t.refill.get c).state = .opened →
          (t.refill.get c).leakCount = 0 ∧ (t.refill.get c).leakWindow = none))

/-- A flow window's end appends its sample and works out the average; eight samples that average below the
threshold starve the channel, and fewer, or an average at the threshold or above, do not: the next window begins
(R32, R33). -/
def Obligations.FlowWindowEndSamples : Prop :=
  ∀ (s : State) (c : Channel) (f : FlowWindow), s.mode.resetPin = false →
    (s.refill.get c).state = .opened → (s.refill.get c).window = some f → 99 ≤ f.elapsed →
    ∃ t, Completes (.flowWindowEnd c) s t ∧ SameLedgers s t
      ∧ (t.refill.get c).samples = pushSample (s.refill.get c).samples f.pulses
      ∧ (t.refill.get c).average = rollingAverage (pushSample (s.refill.get c).samples f.pulses)
      ∧ ((pushSample (s.refill.get c).samples f.pulses).length = 8 →
          rollingAverage (pushSample (s.refill.get c).samples f.pulses) < s.sec1.starveThreshold →
          ((t.refill.get c).state = .starved ∨ (t.refill.get c).state = .held)
          ∧ (t.refill.get c).starvedMark = true
          ∧ (t.refill.get c).waited = 0 ∧ FaultCode.lineStarved ∈ t.faults.active)
      ∧ ((pushSample (s.refill.get c).samples f.pulses).length < 8
          ∨ s.sec1.starveThreshold
            ≤ rollingAverage (pushSample (s.refill.get c).samples f.pulses) →
          t.faults = s.faults ∧ (t.refill.get c).starvedMark = (s.refill.get c).starvedMark
          ∧ ((t.refill.get c).state = .opened →
              (t.refill.get c).window = some { elapsed := 0, pulses := 0 }))

/-- The timers of a refill channel: the back-off, the leak window, the time waited (R25, R30, R35); at the end
of a back-off a channel that still needs ink opens its valve exactly when the line budget leaves room and no
peer shows the channel starved (R26, R28). -/
def Obligations.RefillTimersAct : Prop :=
  (∀ (s : State) (c : Channel), s.mode.resetPin = false →
    ((s.refill.get c).state = .backoff → (s.refill.get c).backoff = some 0 →
      ∃ t, Completes (.backoffEnd c) s t ∧ SameLedgers s t ∧ (t.refill.get c).backoff = none
        ∧ (t.refill.get c).state ≠ .backoff
        ∧ ((s.ink.get c).full.state ≠ .dry →
            (t.refill.get c).state = .idle ∧ (t.refill.get c).waited = 0))
    ∧ ((s.refill.get c).leakWindow = some 0 →
      ∃ t, Completes (.leakWindowEnd c) s t ∧ SameLedgers s t
        ∧ (t.refill.get c).leakCount = 0 ∧ (t.refill.get c).leakWindow = none)
    ∧ ((s.refill.get c).waiting = true → 2000 ≤ (s.refill.get c).waited →
      (s.ink.get c).full.state ≠ .wet → s.purgeRaise c = false →
      ∃ t, Completes (.waitingLimitReached c) s t ∧ SameLedgers s t
        ∧ (t.refill.get c).effective = Nat.min 3 (s.deficitClass c + 1)))
  ∧ (∀ (s : State) (c : Channel), s.mode.resetPin = false → (s.refill.get c).state = .backoff →
    (s.refill.get c).backoff = some 0 → (s.ink.get c).full.state = .dry →
    1 ≤ (s.refill.get c).effective → s.purgeRaise c = false → (s.refill.get c).waited < 2000 →
    1 ≤ s.deficitClass c →
    ∃ t, Completes (.backoffEnd c) s t ∧ (t.refill.get c).effective = s.deficitClass c
      ∧ ((t.refill.get c).state = .opened ∨ (t.refill.get c).state = .want)
      ∧ ((t.refill.get c).state = .opened ↔
          (allStations.filter fun n => decide (n ≠ s.mode.station) &&
                match (s.link.peers.get n).viewOf c with
                | some v => decide (v.state = .opened)
                    || (decide (v.state = .want)
                      && (decide (s.deficitClass c < v.effective)
                        || (decide (v.effective = s.deficitClass c) && decide (n < s.mode.station))))
                | none => false).length < s.sec1.budget.get c
              ∧ ∀ n v, (s.link.peers.get n).viewOf c = some v → n ≠ s.mode.station →
                  v.starved = false))

/-! ### Feed -/

/-- A step that the tests of R69 allow (R73, R74) is issued: counted, or owed to the trim (R64, R69, R70), and
followed by the slip test (R85); in PENDING it counts the distance fed, and beyond the lead-edge limit raises
EDGE LATE once (R80); the FHOLD drive is worked out anew (R76). That a sled commanded away from PARK counts as away
is the model's reading (notes/assumptions/21.md), and that no SLIP comes of both counts standing at their end its
choice (44.md). -/
def Obligations.AllowedStepIsIssued : Prop :=
  (∀ (s : State) (m : Move), s.mode.resetPin = false → s.feed.move = some m →
    m.state = .running → s.mayStep m →
    ∃ t, Completes .stepDue s t ∧ SameLedgers s t ∧ SlipTested s t ∧ DriveWorkedOut s t
      ∧ t.feed.commanded = Nat.min 16777215 (s.feed.commanded + 1)
      ∧ t.feed.position = s.feed.position ∧ t.feed.capture = s.feed.capture
      ∧ t.feed.phase = s.feed.phase ∧ t.feed.sheet = s.feed.sheet
      ∧ (s.feed.extraOwed = true →
          t.feed.move = some m ∧ t.feed.trim = s.feed.trim - 1 ∧ t.feed.extraOwed = false)
      ∧ (s.feed.extraOwed = false →
          (m.stepsDone + 1) % 16 ≠ 0 ∨ m.distance ≤ m.stepsDone + 1 ∨ s.feed.trim = 0 →
          t.feed.move = some { m with
            stepsDone := m.stepsDone + 1
            state := if m.stepsDone + 1 = m.distance then .done else .running }
          ∧ t.feed.trim = s.feed.trim ∧ t.feed.extraOwed = false)
      ∧ (s.feed.extraOwed = false → (m.stepsDone + 1) % 16 = 0 → m.stepsDone + 1 < m.distance →
          0 < s.feed.trim →
          t.feed.move = some { m with stepsDone := m.stepsDone + 1 }
          ∧ t.feed.trim = s.feed.trim ∧ t.feed.extraOwed = true)
      ∧ (s.feed.extraOwed = false → (m.stepsDone + 1) % 16 = 0 → m.stepsDone + 1 < m.distance →
          s.feed.trim < 0 →
          t.feed.move = some { m with
            stepsDone := m.stepsDone + 2
            state := if m.stepsDone + 2 = m.distance then .done else .running }
          ∧ t.feed.trim = s.feed.trim + 1 ∧ t.feed.extraOwed = false))
  ∧ (∀ (s : State) (m : Move) (r : SheetRecord), s.mode.resetPin = false → s.feed.move = some m →
    m.state = .running → s.mayStep m → s.feed.phase = .pending →
    s.feed.sheet = some r →
    ∃ t, Completes .stepDue s t
      ∧ t.feed.fedPending = Nat.min 16777215 (s.feed.fedPending + 1)
      ∧ (s.feed.edgeLateRaised = false → r.leadLimit < t.feed.fedPending →
          FaultCode.edgeLate ∈ t.faults.active ∧ t.feed.fholdDrive = true
          ∧ t.feed.edgeLateRaised = true))

/-- An encoder count moves the position by one, up to the end of the count, with the slip test (R64, R85) and the
FHOLD drive worked out anew (R76; a sled commanded away counts as away, notes/assumptions/21.md; that no SLIP comes
of both counts standing at their end is the model's choice, 44.md); the sheet comes
under the segment at its base and leaves it at the trailing capture plus D, and the vacuum turns off after the
tail (R81, R82); one count beyond its start a COVERED record enters PRINTING (R49), and an ANNOUNCED or
STALE one is overrun, with every record of the current sheet (R51, R53). -/
def Obligations.EncoderCountMovesThePosition : Prop :=
  (∀ s : State, s.mode.resetPin = false →
    ∃ t, Completes .encoderCount s t ∧ t.mode = s.mode ∧ SlipTested s t ∧ DriveWorkedOut s t
      ∧ t.feed.position
          = (if s.feed.position < 16777215 then s.feed.position + 1 else s.feed.position)
      ∧ t.feed.commanded = s.feed.commanded ∧ t.feed.move = s.feed.move
      ∧ t.feed.sheet = s.feed.sheet ∧ t.feed.capture = s.feed.capture
      ∧ t.feed.trailing = s.feed.trailing
      ∧ (∀ p, s.feed.trailing = some p → s.feed.phase = .trailing →
          s.feed.position < 16777215 → s.feed.position + 1 = p + s.sec2.sensorDistance →
          t.feed.phase = .ended ∧ t.feed.underSegment = false)
      ∧ (∀ p, s.feed.trailing = some p → s.feed.position < 16777215 →
          s.feed.position + 1 = p + s.sec2.sensorDistance + s.sec2.vacuumTail →
          t.feed.vacuum = false)
      ∧ (∀ p, s.feed.capture = some p → s.feed.phase = .active ∨ s.feed.phase = .trailing →
          s.feed.position < 16777215 → s.feed.position + 1 = p + s.sec2.sensorDistance →
          (s.feed.phase = .trailing → s.feed.trailing ≠ some p) → t.feed.underSegment = true)
      ∧ (s.feed.phase ≠ .trailing → t.feed.phase = s.feed.phase)
      ∧ ∀ x ∈ t.bands.records, x.state = .printing → x ∈ s.bands.records
          ∨ s.feed.position < 16777215
            ∧ ∃ p, s.feed.capture = some p ∧ p + s.sec2.sensorDistance + 4 * x.start ≤ s.feed.position)
  ∧ (∀ (s : State) (p : Nat) (r : BandRecord) (pre post : List BandRecord), s.mode.resetPin = false →
    s.feed.position < 16777215 → s.feed.capture = some p → s.feed.phase ≠ .none →
    s.bands.sheetRef = some r.sheet → s.bands.records = pre ++ r :: post →
    (∀ x ∈ pre, x.sheet = r.sheet → x.state = .printing) →
    (∀ x ∈ s.bands.records, x.state = .printing → x.sheet = r.sheet) →
    p + s.sec2.sensorDistance + 4 * r.start ≤ s.feed.position →
    ∃ t, Completes .encoderCount s t
      ∧ (r.state = .covered → r.issue = s.nozzle.issue →
          ({ r with state := .printing } : BandRecord) ∈ t.bands.records)
      ∧ (r.state = .announced ∨ r.state = .stale →
          (∀ x ∈ t.bands.records, x.sheet ≠ r.sheet)
          ∧ (∀ x ∈ s.bands.records, x.sheet ≠ r.sheet →
              x.plan ∈ t.bands.records.map BandRecord.plan)
          ∧ ∀ sh, s.feed.sheet = some sh → t.bands.guard
              = if t.bands.lastRetired = sh.printLength then .allClear
                else .line t.bands.lastRetired))

/-- The one PRINTING record retires at its end position: it leaves the queue, and every enabled channel gives
up its volume through its residue, clamped at 0 with UNDERRUN where the estimate is short, and counts the band
(R50, R9 to R12); an IDLE channel that it takes below its refill mark is WANT or OPEN at once (R24, R27, R28),
unless a purge starts in the event (R36). -/
def Obligations.PrintingRecordRetires : Prop :=
  ∀ (s : State) (r : BandRecord) (base : Nat), s.mode.resetPin = false → s.printing = some r →
    (∀ x ∈ s.bands.records.erase r, x.state ≠ .printing ∧ x.tag ≠ r.tag) → s.sheetBase = some base →
    s.feed.position < 16777215 → base + 4 * r.endLine ≤ s.feed.position + 1 →
    ∃ t, Completes .encoderCount s t ∧ t.bands.lastRetired = r.endLine
      ∧ r ∉ t.bands.records
      ∧ (∀ c, DeductsVolume s t .printed c (r.volume.get c))
      ∧ ((∀ c, s.gives c (r.volume.get c)) → FaultCode.underrun ∈ t.faults.active →
          FaultCode.underrun ∈ s.faults.active)
      ∧ (∀ c, Retires s t r c)
      ∧ (∀ c, s.enabled c = true → (s.tally.channels.get c).bands < 65535 →
          (t.tally.channels.get c).bands = (s.tally.channels.get c).bands + 1)
      ∧ ∀ c, s.enabled c = true → (s.ink.get c).state = .known → (s.refill.get c).state = .idle →
          (s.refill.get c).effective = 0 → (s.ink.get c).full.state = .dry →
          (t.ink.get c).estimate < (s.settingsOf c).refillMark →
          (t.refill.get c).state = .want ∨ (t.refill.get c).state = .opened
            ∨ t.purgeRunning = true ∧ (t.refill.get c).state = .held

/-- The leading edge in PENDING and the trailing edge in ACTIVE, each with its edge-triggered tally operation
(R78, R79, R82, R163, R164). -/
def Obligations.SheetEdgesAreCaptured : Prop :=
  (∀ s : State, s.mode.resetPin = false → s.feed.phase = .pending →
    ∃ t, Completes .leadingEdge s t ∧ t.mode = s.mode ∧ t.ink = s.ink
      ∧ t.feed.phase = .active ∧ t.feed.capture = some s.feed.position
      ∧ t.feed.stepsAtCapture = some s.feed.commanded ∧ t.feed.vacuum = true
      ∧ t.feed.position = s.feed.position ∧ t.feed.commanded = s.feed.commanded
      ∧ t.feed.move = s.feed.move
      ∧ (s.capturesHeard → SkewJudged s t s.feed.position)
      ∧ (¬ s.capturesHeard → SkewStands s t ∧ t.feed.skewWindow = some (2 * s.sec1.statusPeriod))
      ∧ (s.mode.mode ≠ .run ∨ s.tally.outstanding = true
          ∨ s.sec3.leadingClose = false →
          t.tally = { s.tally with leadingSeen := true })
      ∧ (s.mode.mode = .run → s.tally.outstanding = false → s.sec3.leadingClose = true →
          (∃ r, t.link.reportSlot = some r ∧ r.partsSent = 0 ∧ r.report.peek = false
            ∧ r.report.limited = true ∧ r.report.leadingSeen = true) ∧ t.tally.leadingSeen = false
            ∧ t.tally.outstanding = true ∧ t.tally.inForce = s.tally.inForce
            ∧ ∀ c, t.tally.channels.get c
                = TallyChannel.openedAt (s.ink.get c).estimate)
      ∧ (s.mode.mode = .run → s.tally.outstanding = false → s.sec3.leadingClose = false →
          s.sec3.leadingPeek = true →
          t.link.reportSlot = some
            { report := ({ s with tally := { s.tally with leadingSeen := true } } :
                State).snapshot true true, partsSent := 0 })
      ∧ (s.mode.mode ≠ .run ∨ s.tally.outstanding = true
          ∨ s.sec3.leadingClose = false ∧ s.sec3.leadingPeek = false →
          t.link.reportSlot = s.link.reportSlot))
  ∧ (∀ s : State, s.mode.resetPin = false → s.feed.phase = .active →
    ∃ t, Completes .trailingEdge s t ∧ t.mode = s.mode ∧ t.ink = s.ink
      ∧ t.feed.phase = .trailing ∧ t.feed.trailing = some s.feed.position
      ∧ t.feed.capture = s.feed.capture ∧ t.feed.position = s.feed.position
      ∧ t.feed.vacuum = s.feed.vacuum ∧ t.feed.underSegment = s.feed.underSegment
      ∧ t.feed.move = s.feed.move
      ∧ (s.mode.mode ≠ .run ∨ s.tally.outstanding = true
          ∨ s.sec3.trailingClose = false →
          t.tally = { s.tally with trailingSeen := true })
      ∧ (s.mode.mode = .run → s.tally.outstanding = false → s.sec3.trailingClose = false →
          s.sec3.trailingPeek = true →
          t.link.reportSlot = some
            { report := ({ s with tally := { s.tally with trailingSeen := true } } :
                State).snapshot true true, partsSent := 0 })
      ∧ (s.mode.mode = .run → s.tally.outstanding = false → s.sec3.trailingClose = true →
          t.link.reportSlot = some
            { report := ({ s with tally := { s.tally with trailingSeen := true } } :
                State).snapshot false true, partsSent := 0 }
          ∧ t.tally.leadingSeen = false ∧ t.tally.trailingSeen = false
          ∧ t.tally.startInPeriod = false ∧ t.tally.outstanding = true
          ∧ t.tally.inForce = s.tally.inForce ∧ t.tally.prior = s.tally.prior
          ∧ t.tally.pendingCopy = s.tally.pendingCopy
          ∧ ∀ c, t.tally.channels.get c = TallyChannel.openedAt (s.ink.get c).estimate)
      ∧ (s.mode.mode ≠ .run ∨ s.tally.outstanding = true
          ∨ s.sec3.trailingClose = false ∧ s.sec3.trailingPeek = false →
          t.link.reportSlot = s.link.reportSlot))

/-- The skew estimate at the end of the window, or at the STATUS that makes the last neighbour's capture available
while the window runs, sets the trim or raises SKEW (R83, R84); any other STATUS leaves it as it stands. -/
def Obligations.SkewWindowEndEstimates : Prop :=
  (∀ (s : State) (a : Nat), s.mode.resetPin = false → s.feed.skewWindow = some 0 →
    s.feed.capture = some a →
    ∃ t, Completes .skewWindowEnd s t ∧ SameLedgers s t ∧ SkewJudged s t a
      ∧ t.feed.skewWindow = none
      ∧ ∃ d, t.feed.skew = some d
        ∧ d = (match s.captureFrom (leftOf s.mode.station),
              s.captureFrom (rightOf s.mode.station) with
            | some b, some c => (2 * (a : Int) - b - c).tdiv 2
            | some b, none => (a : Int) - b
            | none, some c => (a : Int) - c
            | none, none => 0)
        ∧ (d.natAbs ≤ s.sec2.skewLimit → t.feed.trim = -d ∧ t.faults = s.faults)
        ∧ (s.sec2.skewLimit < d.natAbs → t.feed.trim = s.feed.trim
            ∧ FaultCode.skew ∈ t.faults.active))
  ∧ (∀ (s : State) (n : StationNo) (f : PeerStatus), s.mode.resetPin = false → n ≠ s.mode.station →
    ∃ t, Completes (.peerStatusHeard n f) s t
      ∧ (∀ a, s.feed.skewWindow.isSome = true → s.feed.capture = some a → t.capturesHeard →
          SkewJudged s t a)
      ∧ (s.feed.skewWindow = none ∨ ¬ t.capturesHeard →
          SkewStands s t ∧ t.feed.skewWindow = s.feed.skewWindow))

/-- FHOLD turns a RUNNING move HELD, and its release turns a HELD move RUNNING (R77). -/
def Obligations.FholdHoldsAndReleasesTheMove : Prop :=
  ∀ (s : State) (m : Move), s.mode.resetPin = false → s.feed.move = some m →
    (m.state = .running →
      ∃ t, Completes .fholdAsserted s t ∧ SameLedgers s t ∧ t.fholdReads = true
        ∧ t.feed.move = some { m with state := .held } ∧ t.link.early = true
        ∧ t.feed.trim = s.feed.trim)
    ∧ (m.state = .held → s.feed.fholdDrive = false →
      ∃ t, Completes .fholdReleased s t ∧ SameLedgers s t
        ∧ t.feed.move = some { m with state := .running } ∧ t.feed.fholdLine = false
        ∧ t.link.early = true ∧ t.feed.trim = s.feed.trim)

/-! ### Service and keep-wet -/

/-- The sled leaves its place; an arrival at the target takes the action to its work there (R92, R94, R96), or
completes it: the capped flag, and for a GAP SPIT its deductions and the pointer (R96, R97, R106, R120). That no
switch reads closed once the sled has left is the model's field (notes/assumptions/40.md). -/
def Obligations.SledMotionsAreFollowed : Prop :=
  ∀ (s : State) (p : SledPlace) (a : CurrentAction), s.mode.resetPin = false →
    s.service.motion = some p → s.service.current = some a →
    (∃ t, Completes .sledDeparture s t ∧ t.service.sled = .moving ∧ t.service.closed = none
      ∧ t.service.current = some a ∧ SameLedgers s t ∧ DriveWorkedOut s t)
    ∧ (a.stage = .outbound →
        (a.action = .gapSpit ∧ p = .spit ∨ (∃ g, a.action = .check g) ∧ p = .detect
          ∨ (∃ h l, a.action = .purge h l) ∧ p = .cap) →
        ∃ t, Completes (.sledArrival p) s t ∧ t.service.sled = .standing p
          ∧ t.service.motion = none
          ∧ t.service.head = some
              { number := (s.service.requestNumber + 1) % 256
                kind := match a.action with
                  | .check g => .check g
                  | .purge h l => .purge h l
                  | _ => .fire a.block (PerChannel.gen s.enabled) a.drops }
          ∧ t.service.current = some { a with stage := .atHead } ∧ SameLedgers s t)
    ∧ (a.stage = .outbound → a.action = .wipe → p = .spit →
        ∃ t, Completes (.sledArrival p) s t ∧ t.service.sled = .standing .spit
          ∧ t.service.motion = some .park ∧ t.service.wiper = false
          ∧ t.service.current = some { a with stage := .inbound } ∧ SameLedgers s t)
    ∧ (p = .park →
        a.stage = .outbound ∧ (a.action = .home ∨ a.action = .uncap)
          ∨ a.stage = .inbound ∧ (a.action = .wipe ∨ a.action = .gapSpit) →
        ∃ t, Completes (.sledArrival .park) s t ∧ t.service.sled = .standing .park
          ∧ t.service.capped = false ∧ t.mode = s.mode
          ∧ (a.action ≠ .gapSpit → SameLedgers s t ∧ t.keepWet.pointer = s.keepWet.pointer)
          ∧ (a.action = .gapSpit → t.keepWet.pointer = (a.block + 1) % 48
              ∧ ∀ c, DeductsVolume s t .spit c (a.volumes.get c))
          ∧ (a.action = .uncap ∨ a.action = .wipe → s.onlyAction →
              t.service.current = none ∧ t.service.timeLeft = none ∧ t.service.stack = []))
    ∧ (p = .cap → a.stage = .outbound → a.action = .cap →
        ∃ t, Completes (.sledArrival .cap) s t ∧ t.service.sled = .standing .cap
          ∧ t.service.capped = true ∧ SameLedgers s t
          ∧ (s.onlyAction → s.sheetInProgress = false →
              t.service.current = none ∧ t.service.timeLeft = none ∧ t.service.stack = []))

/-- A RESULT of the outstanding CHECK is kept, and the DONE of a purge or a sheet spit completes it with its
deductions: a sheet spit's through the residue, leaving the head uncapped (R96, R97, R120), a purge's past it,
leaving the head capped and refill released (R9, R37, R96, R99). That a forced check with the empty group set, which
R121 has complete with its DONE, goes to PARK like every other CHECK is the model's choice
(notes/assumptions/43.md). -/
def Obligations.HeadAnswersAreTaken : Prop :=
  ∀ (s : State) (h : HeadRequest) (a : CurrentAction), s.mode.resetPin = false →
    s.service.head = some h → s.service.current = some a →
    (∀ groups g l, h.kind = .check groups → g ∈ groups →
      Completes (.headResult h.number g l) s
        { s with service := { s.service with
            current := some { a with results := insertResult g l a.results } } })
    ∧ (a.action = .gapSpit ∨ (∃ g, a.action = .check g) →
        s.service.sled ≠ .standing .park → s.service.closed ≠ some .park →
        ∃ t, Completes (.headDone h.number) s t ∧ t.service.head = none
          ∧ t.service.motion = some .park
          ∧ t.service.current = some { a with stage := .inbound } ∧ SameLedgers s t)
    ∧ (a.action = .sheetSpit →
        ∃ t, Completes (.headDone h.number) s t
          ∧ t.keepWet.pointer = (a.block + 1) % 48 ∧ t.mode = s.mode
          ∧ (∀ c, DeductsVolume s t .spit c (a.volumes.get c))
          ∧ (s.service.capped = false → s.service.sled = .standing .park →
              s.service.closed ≠ some .cap → t.service.capped = false))
    ∧ (∀ heavy set, a.action = .purge heavy set →
        ∃ t, Completes (.headDone h.number) s t ∧ t.mode = s.mode
          ∧ (∀ c, set.get c = true →
              Deducts s t .purge c (a.volumes.get c) (s.ink.get c).residue (a.volumes.get c))
          ∧ (∀ c, set.get c = false →
              t.ink.get c = s.ink.get c ∧ t.tally.channels.get c = s.tally.channels.get c)
          ∧ (s.service.sled = .standing .cap → s.service.closed ≠ some .park →
              t.service.capped = true)
          ∧ (s.mode.mode = .run → s.nozzle.blocked = false → s.onlyAction →
              ∀ c, s.enabled c = true → (t.refill.get c).state ≠ .held))

/-- An action whose time is up fails: the sled is UNKNOWN, the arbiter stopped, SERVICE TIMEOUT active, and
nothing of the completion is done (R100, R101); the cap idle count at its end raises CAP-IDLE and returns to 0
(R110). -/
def Obligations.ServiceTimersAct : Prop :=
  (∀ (s : State) (a : CurrentAction), s.mode.resetPin = false → s.service.current = some a →
    s.service.timeLeft = some 0 →
    ∃ t, Completes .actionTimeout s t ∧ t.service.sled = .unknown ∧ t.service.motion = none
      ∧ t.service.current = none ∧ t.service.timeLeft = none ∧ t.service.head = none
      ∧ t.service.stopped = true ∧ t.service.stack = s.service.stack
      ∧ t.service.capped = s.service.capped
      ∧ FaultCode.serviceTimeout ∈ t.faults.active ∧ t.feed.fholdDrive = true
      ∧ t.keepWet = s.keepWet ∧ SameLedgers s t)
  ∧ (∀ s : State, s.mode.resetPin = false → s.idleUncapped = true →
    s.sec3.capIdleTime ≤ s.service.capIdle →
    ∃ t, Completes .capIdleExpiry s t ∧ t.service.capIdle = 0 ∧ SameLedgers s t
      ∧ (s.service.stopped = true → t.service.pending.capIdle = true))

/-- A CHECK of one group that completes at PARK: a nozzle seen leaves the failed list, a missed suspect
enters it, another missed nozzle becomes a suspect, and the entries of other groups stay (R98, R131 to R133);
the group states (R136), the notice (R139), and the ladder, which starts, grows, climbs, succeeds or is
exhausted (R142, R143, R147, R148). -/
def Obligations.CheckReadsItsGroup : Prop :=
  ∀ (s : State) (a : CurrentAction) (c : Channel) (gi : Nat) (missed : List Nat) (grp : Group),
    s.mode.resetPin = false → s.service.motion = some .park → s.service.current = some a →
    a.stage = .inbound → a.action = .check [c.num * 96 + gi] →
    a.results = [(c.num * 96 + gi, missed)] → gi < 96 → (s.nozzle.groups.get c)[gi]? = some grp →
    (∀ n ∈ missed, n / 64 = gi) → (∀ f ∈ s.nozzle.failed, f.nozzle < 6144) →
    s.nozzle.failed.length + missed.length ≤ 64 →
    ∃ t, Completes (.sledArrival .park) s t ∧ t.ink = s.ink ∧ t.tally = s.tally
      ∧ t.mode = s.mode ∧ t.service.sled = .standing .park
      ∧ (∀ f : FailedNozzle, ¬ (f.channel = c ∧ f.nozzle / 64 = gi) →
          (f ∈ t.nozzle.failed ↔ f ∈ s.nozzle.failed))
      ∧ (∀ n, n / 64 = gi → n ∉ missed →
          ({ channel := c, nozzle := n } : FailedNozzle) ∉ t.nozzle.failed)
      ∧ (∀ n ∈ missed, n ∈ grp.suspects →
          ({ channel := c, nozzle := n } : FailedNozzle) ∈ t.nozzle.failed)
      ∧ ∃ grp', (t.nozzle.groups.get c)[gi]? = some grp'
        ∧ (∀ n ∈ missed, n ∉ grp.suspects →
            ({ channel := c, nozzle := n } : FailedNozzle) ∉ s.nozzle.failed → n ∈ grp'.suspects)
        ∧ (∀ n ∈ grp'.suspects, n ∈ missed)
        ∧ grp'.span = grp.bands ∧ grp'.spanOver = grp.bandsOver
        ∧ grp'.bands = (if missed = [] then 0 else grp.bands)
        ∧ (∀ d j g, (t.nozzle.groups.get d)[j]? = some g →
            (g.state = .uncovered ↔ ∃ n, ColumnLost t.nozzle.failed d n ∧ n / 64 = j % 48)
            ∧ (g.state = .healthy ↔ (¬ ∃ n, ColumnLost t.nozzle.failed d n ∧ n / 64 = j % 48)
                ∧ g.suspects = [] ∧ ∀ f ∈ t.nozzle.failed, ¬ (f.channel = d ∧ f.nozzle / 64 = j)))
        ∧ ((∀ n ∈ missed, n ∉ grp.suspects) →
            (∀ f ∈ s.nozzle.failed, f.channel = c → f.nozzle / 64 = gi → f.nozzle ∈ missed) →
            t.nozzle.issue = s.nozzle.issue ∧ t.nozzle.notices = s.nozzle.notices
            ∧ t.link.nozzleSlot = s.link.nozzleSlot)
        ∧ ((∃ n ∈ missed, n ∈ grp.suspects)
            ∨ (∃ f ∈ s.nozzle.failed, f.channel = c ∧ f.nozzle / 64 = gi ∧ f.nozzle ∉ missed) →
            t.nozzle.issue = (s.nozzle.issue + 1) % 256
            ∧ ∃ x : Notice, x.issue = t.nozzle.issue ∧ x.group = c.num * 96 + gi
              ∧ x.span = grp.bands ∧ x.spanOver = grp.bandsOver
              ∧ (∀ n, n ∈ x.added ↔ n ∈ missed ∧ n ∈ grp.suspects)
              ∧ (∀ n, n ∈ x.removed ↔ n / 64 = gi ∧ n ∉ missed
                  ∧ ({ channel := c, nozzle := n } : FailedNozzle) ∈ s.nozzle.failed)
              ∧ (s.link.nozzleSlot = none → s.nozzle.notices = [] →
                  t.link.nozzleSlot = some x ∧ t.nozzle.notices = [])
              ∧ (s.link.nozzleSlot.isSome = true →
                  t.link.nozzleSlot = s.link.nozzleSlot
                  ∧ ((∀ y ∈ s.nozzle.notices, y.group ≠ x.group) →
                      t.nozzle.notices = s.nozzle.notices ++ [x])
                  ∧ ((∃ y ∈ s.nozzle.notices, y.group = x.group) →
                      t.nozzle.notices = s.nozzle.notices.map fun y =>
                        if y.group = x.group then y.merge x else y)))
        ∧ (s.enabled c = true → (∃ n ∈ missed, n ∈ grp.suspects) →
            (s.nozzle.ladders.get c).inService = false →
            ((s.nozzle.ladders.get c).exhausted = true ∨ (s.nozzle.ladders.get c).level = 0
                ∧ s.nozzle.armed = false →
              t.nozzle.ladders.get c = s.nozzle.ladders.get c)
            ∧ ((s.nozzle.ladders.get c).level = 0 → (s.nozzle.ladders.get c).exhausted = false →
              s.nozzle.armed = true →
              (t.nozzle.ladders.get c).level = 1 ∧ (t.nozzle.ladders.get c).exhausted = false
              ∧ ∀ j g, (t.nozzle.groups.get c)[j]? = some g →
                  (c.num * 96 + j ∈ (t.nozzle.ladders.get c).affected
                    ↔ j = gi ∨ g.ring.length = 4 ∧ ∀ n ∈ g.ring, 0 < n))
            ∧ (1 ≤ (s.nozzle.ladders.get c).level → (s.nozzle.ladders.get c).level ≤ 4 →
              (s.nozzle.ladders.get c).exhausted = false →
              (t.nozzle.ladders.get c).level = (s.nozzle.ladders.get c).level
              ∧ ∀ x, x ∈ (t.nozzle.ladders.get c).affected
                  ↔ x ∈ (s.nozzle.ladders.get c).affected ∨ x = c.num * 96 + gi))
        ∧ (∀ q qs, s.service.stack = q :: qs → q.source = .recovery → q.channel = some c →
            q.actions.length = 1 → (s.nozzle.ladders.get c).inService = true →
            1 ≤ (s.nozzle.ladders.get c).level → (s.nozzle.ladders.get c).level ≤ 4 →
            c.num * 96 + gi ∈ (s.nozzle.ladders.get c).affected →
            ((∀ f ∈ t.nozzle.failed,
                f.channel.num * 96 + f.nozzle / 64 ∉ (s.nozzle.ladders.get c).affected) →
              (t.nozzle.ladders.get c).level = 0 ∧ (t.nozzle.ladders.get c).affected = []
              ∧ (t.nozzle.ladders.get c).inService = false)
            ∧ ((∃ f ∈ t.nozzle.failed, f.channel = c ∧ f.nozzle / 64 = gi) →
              ((s.nozzle.ladders.get c).level = 4
                  ∨ (s.nozzle.ladders.get c).level = 2 ∧ s.refillMarked c = true →
                (t.nozzle.ladders.get c).level = (s.nozzle.ladders.get c).level
                ∧ (t.nozzle.ladders.get c).exhausted = true
                ∧ (t.nozzle.ladders.get c).inService = false)
              ∧ ((s.nozzle.ladders.get c).level = 1 ∨ (s.nozzle.ladders.get c).level = 3
                  ∨ (s.nozzle.ladders.get c).level = 2 ∧ s.refillMarked c = false →
                (t.nozzle.ladders.get c).level = (s.nozzle.ladders.get c).level + 1
                ∧ ∀ j g, (t.nozzle.groups.get c)[j]? = some g →
                    (c.num * 96 + j ∈ (t.nozzle.ladders.get c).affected
                      ↔ c.num * 96 + j ∈ (s.nozzle.ladders.get c).affected ∧ g.state ≠ .healthy
                        ∨ g.ring.length = 4 ∧ ∀ n ∈ g.ring, 0 < n))))

/-- An expiry reloads the counter; with a spit outstanding it is a missed one, and otherwise it asks for a
spit (R117, R119). -/
def Obligations.KeepWetExpiryAsksOrMisses : Prop :=
  ∀ s : State, s.running → s.keepWet.counter = some 1 →
    ∃ t, Completes .keepWetExpiry s t ∧ t.keepWet.counter = some s.sec3.keepWetInterval
      ∧ SameLedgers s t
      ∧ (s.spitOutstanding = true →
          t.keepWet.missed = Nat.min 255 (s.keepWet.missed + 1)
          ∧ t.keepWet.dry = insertNum s.keepWet.pointer s.keepWet.dry
          ∧ t.keepWet.pointer = (s.keepWet.pointer + 1) % 48 ∧ t.keepWet.forced = true
          ∧ (s.service.stopped = true → t.service.pending.forcedCheck = true))
      ∧ (s.spitOutstanding = false →
          t.keepWet.missed = s.keepWet.missed ∧ t.keepWet.dry = s.keepWet.dry
          ∧ t.keepWet.pointer = s.keepWet.pointer ∧ t.keepWet.forced = s.keepWet.forced
          ∧ (s.service.stopped = true →
              (s.feed.underSegment = true → s.sheetSpitAllowed = true →
                t.service.pending.sheetSpit = true)
              ∧ (s.feed.underSegment = false ∨ s.sheetSpitAllowed = false →
                t.service.pending.keepWet = true)))
end

