-- ==== Sys2Proof/Laws/State.lean ====
section
/-! SUPPORT. The small lemmas of the tables and of the record updates: reading back what was written, and
what each setter of Machine/Ops.lean leaves as it was. -/

namespace Sys2Proof

/-! ### Tables -/

@[simp] theorem PerChannel.get_set_same {α : Type} (t : PerChannel α) (c : Channel) (a : α) :
    (t.set c a).get c = a := by cases c <;> rfl

theorem PerChannel.get_set_ne {α : Type} (t : PerChannel α) {c d : Channel} (h : d ≠ c) (a : α) :
    (t.set c a).get d = t.get d := by cases c <;> cases d <;> first | rfl | exact absurd rfl h

theorem PerChannel.get_set {α : Type} (t : PerChannel α) (c d : Channel) (a : α) :
    (t.set c a).get d = if d = c then a else t.get d := by
  cases c <;> cases d <;> rfl

@[simp] theorem PerChannel.get_gen {α : Type} (f : Channel → α) (c : Channel) :
    (PerChannel.gen f).get c = f c := by cases c <;> rfl

@[simp] theorem PerChannel.get_fill {α : Type} (a : α) (c : Channel) :
    (PerChannel.fill a).get c = a := by cases c <;> rfl

/-- Two tables are equal when they agree at every channel. -/
theorem PerChannel.eq_of_get {α : Type} {t u : PerChannel α} (h : ∀ c, t.get c = u.get c) : t = u := by
  cases t; cases u
  have h0 := h .matteBlack
  have h1 := h .photoBlack
  have h2 := h .cyan
  have h3 := h .magenta
  have h4 := h .yellow
  have h5 := h .grey
  simp only [PerChannel.get] at h0 h1 h2 h3 h4 h5
  subst h0 h1 h2 h3 h4 h5
  rfl

@[simp] theorem PerStation.get_gen {α : Type} (f : StationNo → α) (n : StationNo) :
    (PerStation.gen f).get n = f n := by
  revert n; intro ⟨n, h⟩; interval_cases n <;> rfl

@[simp] theorem PerStation.get_fill {α : Type} (a : α) (n : StationNo) :
    (PerStation.fill a).get n = a := by simp [PerStation.fill]

theorem PerStation.get_set {α : Type} (t : PerStation α) (n m : StationNo) (a : α) :
    (t.set n a).get m = if m = n then a else t.get m := by simp [PerStation.set]

@[simp] theorem PerSource.get_set_same {α : Type} (t : PerSource α) (c : Source) (a : α) :
    (t.set c a).get c = a := by cases c <;> rfl

theorem PerSource.get_set {α : Type} (t : PerSource α) (c d : Source) (a : α) :
    (t.set c a).get d = if d = c then a else t.get d := by
  cases c <;> cases d <;> rfl

@[simp] theorem PerSource.get_gen {α : Type} (f : Source → α) (c : Source) :
    (PerSource.gen f).get c = f c := by cases c <;> rfl

/-- A fold keeps what each of its steps keeps. -/
theorem foldl_keeps {α β γ : Type} (f : β → α → β) (g : β → γ) (h : ∀ b a, g (f b a) = g b) :
    ∀ (l : List α) (b : β), g (l.foldl f b) = g b
  | [], _ => rfl
  | a :: l, b => by simpa [h] using foldl_keeps f g h l (f b a)

/-- A fold keeps an invariant that each of its steps keeps. -/
theorem foldl_invariant {α β : Type} (f : β → α → β) (P : β → Prop) (h : ∀ b a, P b → P (f b a)) :
    ∀ (l : List α) (b : β), P b → P (l.foldl f b)
  | [], _, hb => hb
  | a :: l, b, hb => foldl_invariant f P h l (f b a) (h b a hb)

namespace Machine

/-! ### Setters -/

/-- What `raise` leaves as it was. -/
@[simp] theorem Work.raise_frame (w : Work) (code : FaultCode) (detail : Detail) :
    (w.raise code detail).ink = w.ink ∧ (w.raise code detail).refill = w.refill ∧ (w.raise code
    detail).bands = w.bands ∧ (w.raise code detail).feed = w.feed ∧ (w.raise code
    detail).service = w.service ∧ (w.raise code detail).keepWet = w.keepWet ∧ (w.raise code
    detail).nozzle = w.nozzle ∧ (w.raise code detail).tally = w.tally ∧ (w.raise code
    detail).link = w.link ∧ (w.raise code detail).mode = w.mode ∧ (w.raise code detail).faults =
    w.faults ∧ (w.raise code detail).pending = w.pending ∧ (w.raise code detail).pre = w.pre ∧
    (w.raise code detail).cover = w.cover ∧ (w.raise code detail).guardDue = w.guardDue ∧
    (w.raise code detail).classes = w.classes ∧ (w.raise code detail).peersHeard = w.peersHeard
    ∧ (w.raise code detail).boundary = w.boundary ∧ (w.raise code detail).drive = w.drive :=
  ⟨rfl, rfl, rfl, rfl, rfl, rfl, rfl, rfl, rfl, rfl, rfl, rfl, rfl, rfl, rfl, rfl, rfl, rfl,
  rfl⟩

/-- What `outcome` leaves as it was. -/
@[simp] theorem Work.outcome_frame (w : Work) (kind : OrderKind) (ref : Nat) (code : OutcomeCode) :
    (w.outcome kind ref code).ink = w.ink ∧ (w.outcome kind ref code).refill = w.refill ∧
    (w.outcome kind ref code).bands = w.bands ∧ (w.outcome kind ref code).feed = w.feed ∧
    (w.outcome kind ref code).service = w.service ∧ (w.outcome kind ref code).keepWet =
    w.keepWet ∧ (w.outcome kind ref code).nozzle = w.nozzle ∧ (w.outcome kind ref code).tally =
    w.tally ∧ (w.outcome kind ref code).mode = w.mode ∧ (w.outcome kind ref code).faults =
    w.faults ∧ (w.outcome kind ref code).pending = w.pending ∧ (w.outcome kind ref code).pre =
    w.pre ∧ (w.outcome kind ref code).raised = w.raised ∧ (w.outcome kind ref code).cover =
    w.cover ∧ (w.outcome kind ref code).guardDue = w.guardDue ∧ (w.outcome kind ref
    code).classes = w.classes ∧ (w.outcome kind ref code).peersHeard = w.peersHeard ∧ (w.outcome
    kind ref code).boundary = w.boundary ∧ (w.outcome kind ref code).drive = w.drive :=
  ⟨rfl, rfl, rfl, rfl, rfl, rfl, rfl, rfl, rfl, rfl, rfl, rfl, rfl, rfl, rfl, rfl, rfl, rfl,
  rfl⟩

/-- What `putTally` leaves as it was. -/
@[simp] theorem Work.putTally_frame (w : Work) (c : Channel) (t : TallyChannel) :
    (w.putTally c t).ink = w.ink ∧ (w.putTally c t).refill = w.refill ∧ (w.putTally c t).bands =
    w.bands ∧ (w.putTally c t).feed = w.feed ∧ (w.putTally c t).service = w.service ∧
    (w.putTally c t).keepWet = w.keepWet ∧ (w.putTally c t).nozzle = w.nozzle ∧ (w.putTally c
    t).link = w.link ∧ (w.putTally c t).mode = w.mode ∧ (w.putTally c t).faults = w.faults ∧
    (w.putTally c t).pending = w.pending ∧ (w.putTally c t).pre = w.pre ∧ (w.putTally c t).cover
    = w.cover ∧ (w.putTally c t).guardDue = w.guardDue ∧ (w.putTally c t).classes = w.classes ∧
    (w.putTally c t).peersHeard = w.peersHeard ∧ (w.putTally c t).boundary = w.boundary ∧
    (w.putTally c t).drive = w.drive :=
  ⟨rfl, rfl, rfl, rfl, rfl, rfl, rfl, rfl, rfl, rfl, rfl, rfl, rfl, rfl, rfl, rfl, rfl, rfl⟩

/-- What `addTally` leaves as it was. -/
@[simp] theorem Work.addTally_frame (w : Work) (c : Channel) (k : Amount) (n : Nat) :
    (w.addTally c k n).ink = w.ink ∧ (w.addTally c k n).refill = w.refill ∧ (w.addTally c k
    n).bands = w.bands ∧ (w.addTally c k n).feed = w.feed ∧ (w.addTally c k n).service =
    w.service ∧ (w.addTally c k n).keepWet = w.keepWet ∧ (w.addTally c k n).nozzle = w.nozzle ∧
    (w.addTally c k n).link = w.link ∧ (w.addTally c k n).mode = w.mode ∧ (w.addTally c k
    n).faults = w.faults ∧ (w.addTally c k n).pending = w.pending ∧ (w.addTally c k n).pre =
    w.pre ∧ (w.addTally c k n).cover = w.cover ∧ (w.addTally c k n).guardDue = w.guardDue ∧
    (w.addTally c k n).classes = w.classes ∧ (w.addTally c k n).peersHeard = w.peersHeard ∧
    (w.addTally c k n).boundary = w.boundary ∧ (w.addTally c k n).drive = w.drive :=
  ⟨rfl, rfl, rfl, rfl, rfl, rfl, rfl, rfl, rfl, rfl, rfl, rfl, rfl, rfl, rfl, rfl, rfl, rfl⟩

/-- What `adjust` leaves as it was. -/
@[simp] theorem Work.adjust_frame (w : Work) (c : Channel) (d : Int) :
    (w.adjust c d).ink = w.ink ∧ (w.adjust c d).refill = w.refill ∧ (w.adjust c d).bands =
    w.bands ∧ (w.adjust c d).feed = w.feed ∧ (w.adjust c d).service = w.service ∧ (w.adjust c
    d).keepWet = w.keepWet ∧ (w.adjust c d).nozzle = w.nozzle ∧ (w.adjust c d).link = w.link ∧
    (w.adjust c d).mode = w.mode ∧ (w.adjust c d).faults = w.faults ∧ (w.adjust c d).pending =
    w.pending ∧ (w.adjust c d).pre = w.pre ∧ (w.adjust c d).cover = w.cover ∧ (w.adjust c
    d).guardDue = w.guardDue ∧ (w.adjust c d).classes = w.classes ∧ (w.adjust c d).peersHeard =
    w.peersHeard ∧ (w.adjust c d).boundary = w.boundary ∧ (w.adjust c d).drive = w.drive :=
  ⟨rfl, rfl, rfl, rfl, rfl, rfl, rfl, rfl, rfl, rfl, rfl, rfl, rfl, rfl, rfl, rfl, rfl, rfl⟩

/-- What `countBand` leaves as it was. -/
@[simp] theorem Work.countBand_frame (w : Work) (c : Channel) :
    (w.countBand c).ink = w.ink ∧ (w.countBand c).refill = w.refill ∧ (w.countBand c).bands =
    w.bands ∧ (w.countBand c).feed = w.feed ∧ (w.countBand c).service = w.service ∧ (w.countBand
    c).keepWet = w.keepWet ∧ (w.countBand c).nozzle = w.nozzle ∧ (w.countBand c).link = w.link ∧
    (w.countBand c).mode = w.mode ∧ (w.countBand c).faults = w.faults ∧ (w.countBand c).pending
    = w.pending ∧ (w.countBand c).pre = w.pre ∧ (w.countBand c).cover = w.cover ∧ (w.countBand
    c).guardDue = w.guardDue ∧ (w.countBand c).classes = w.classes ∧ (w.countBand c).peersHeard
    = w.peersHeard ∧ (w.countBand c).boundary = w.boundary ∧ (w.countBand c).drive = w.drive :=
  ⟨rfl, rfl, rfl, rfl, rfl, rfl, rfl, rfl, rfl, rfl, rfl, rfl, rfl, rfl, rfl, rfl, rfl, rfl⟩

/-- What `putInk` leaves as it was. -/
@[simp] theorem Work.putInk_frame (w : Work) (c : Channel) (x : InkChannel) :
    (w.putInk c x).refill = w.refill ∧ (w.putInk c x).bands = w.bands ∧ (w.putInk c x).feed =
    w.feed ∧ (w.putInk c x).service = w.service ∧ (w.putInk c x).keepWet = w.keepWet ∧ (w.putInk
    c x).nozzle = w.nozzle ∧ (w.putInk c x).tally = w.tally ∧ (w.putInk c x).link = w.link ∧
    (w.putInk c x).mode = w.mode ∧ (w.putInk c x).faults = w.faults ∧ (w.putInk c x).pending =
    w.pending ∧ (w.putInk c x).pre = w.pre ∧ (w.putInk c x).raised = w.raised ∧ (w.putInk c
    x).guardDue = w.guardDue ∧ (w.putInk c x).peersHeard = w.peersHeard ∧ (w.putInk c
    x).boundary = w.boundary ∧ (w.putInk c x).drive = w.drive :=
  ⟨rfl, rfl, rfl, rfl, rfl, rfl, rfl, rfl, rfl, rfl, rfl, rfl, rfl, rfl, rfl, rfl, rfl⟩

/-- What `putRefill` leaves as it was. -/
@[simp] theorem Work.putRefill_frame (w : Work) (c : Channel) (x : RefillChannel) :
    (w.putRefill c x).ink = w.ink ∧ (w.putRefill c x).bands = w.bands ∧ (w.putRefill c x).feed =
    w.feed ∧ (w.putRefill c x).service = w.service ∧ (w.putRefill c x).keepWet = w.keepWet ∧
    (w.putRefill c x).nozzle = w.nozzle ∧ (w.putRefill c x).tally = w.tally ∧ (w.putRefill c
    x).link = w.link ∧ (w.putRefill c x).mode = w.mode ∧ (w.putRefill c x).faults = w.faults ∧
    (w.putRefill c x).pending = w.pending ∧ (w.putRefill c x).pre = w.pre ∧ (w.putRefill c
    x).raised = w.raised ∧ (w.putRefill c x).cover = w.cover ∧ (w.putRefill c x).guardDue =
    w.guardDue ∧ (w.putRefill c x).peersHeard = w.peersHeard ∧ (w.putRefill c x).boundary =
    w.boundary ∧ (w.putRefill c x).drive = w.drive :=
  ⟨rfl, rfl, rfl, rfl, rfl, rfl, rfl, rfl, rfl, rfl, rfl, rfl, rfl, rfl, rfl, rfl, rfl, rfl⟩

/-- What `request` leaves as it was. -/
@[simp] theorem Work.request_frame (w : Work) (src : Source) :
    (w.request src).ink = w.ink ∧ (w.request src).refill = w.refill ∧ (w.request src).bands =
    w.bands ∧ (w.request src).feed = w.feed ∧ (w.request src).keepWet = w.keepWet ∧ (w.request
    src).nozzle = w.nozzle ∧ (w.request src).tally = w.tally ∧ (w.request src).link = w.link ∧
    (w.request src).mode = w.mode ∧ (w.request src).faults = w.faults ∧ (w.request src).pending
    = w.pending ∧ (w.request src).pre = w.pre ∧ (w.request src).raised = w.raised ∧ (w.request
    src).cover = w.cover ∧ (w.request src).guardDue = w.guardDue ∧ (w.request src).peersHeard =
    w.peersHeard ∧ (w.request src).drive = w.drive :=
  ⟨rfl, rfl, rfl, rfl, rfl, rfl, rfl, rfl, rfl, rfl, rfl, rfl, rfl, rfl, rfl, rfl, rfl⟩

/-- What `withdraw` leaves as it was. -/
@[simp] theorem Work.withdraw_frame (w : Work) (src : Source) :
    (w.withdraw src).ink = w.ink ∧ (w.withdraw src).refill = w.refill ∧ (w.withdraw src).bands =
    w.bands ∧ (w.withdraw src).feed = w.feed ∧ (w.withdraw src).keepWet = w.keepWet ∧
    (w.withdraw src).nozzle = w.nozzle ∧ (w.withdraw src).tally = w.tally ∧ (w.withdraw
    src).link = w.link ∧ (w.withdraw src).mode = w.mode ∧ (w.withdraw src).faults = w.faults ∧
    (w.withdraw src).pending = w.pending ∧ (w.withdraw src).pre = w.pre ∧ (w.withdraw
    src).raised = w.raised ∧ (w.withdraw src).cover = w.cover ∧ (w.withdraw src).guardDue =
    w.guardDue ∧ (w.withdraw src).peersHeard = w.peersHeard ∧ (w.withdraw src).drive = w.drive :=
  ⟨rfl, rfl, rfl, rfl, rfl, rfl, rfl, rfl, rfl, rfl, rfl, rfl, rfl, rfl, rfl, rfl, rfl⟩

/-- What `setCapped` leaves as it was. -/
@[simp] theorem Work.setCapped_frame (w : Work) (b : Bool) :
    (w.setCapped b).ink = w.ink ∧ (w.setCapped b).refill = w.refill ∧ (w.setCapped b).bands =
    w.bands ∧ (w.setCapped b).feed = w.feed ∧ (w.setCapped b).nozzle = w.nozzle ∧ (w.setCapped
    b).tally = w.tally ∧ (w.setCapped b).link = w.link ∧ (w.setCapped b).mode = w.mode ∧
    (w.setCapped b).faults = w.faults ∧ (w.setCapped b).pending = w.pending ∧ (w.setCapped
    b).pre = w.pre ∧ (w.setCapped b).raised = w.raised ∧ (w.setCapped b).cover = w.cover ∧
    (w.setCapped b).guardDue = w.guardDue ∧ (w.setCapped b).classes = w.classes ∧ (w.setCapped
    b).peersHeard = w.peersHeard :=
  ⟨rfl, rfl, rfl, rfl, rfl, rfl, rfl, rfl, rfl, rfl, rfl, rfl, rfl, rfl, rfl, rfl⟩

/-- What `revalue` leaves as it was. -/
@[simp] theorem Work.revalue_frame (w : Work) :
    w.revalue.ink = w.ink ∧ w.revalue.refill = w.refill ∧ w.revalue.feed = w.feed ∧
    w.revalue.service = w.service ∧ w.revalue.keepWet = w.keepWet ∧ w.revalue.nozzle = w.nozzle
    ∧ w.revalue.tally = w.tally ∧ w.revalue.link = w.link ∧ w.revalue.mode = w.mode ∧
    w.revalue.faults = w.faults ∧ w.revalue.pending = w.pending ∧ w.revalue.pre = w.pre ∧
    w.revalue.raised = w.raised ∧ w.revalue.classes = w.classes ∧ w.revalue.peersHeard =
    w.peersHeard ∧ w.revalue.boundary = w.boundary ∧ w.revalue.drive = w.drive :=
  ⟨rfl, rfl, rfl, rfl, rfl, rfl, rfl, rfl, rfl, rfl, rfl, rfl, rfl, rfl, rfl, rfl, rfl⟩

/-- What `putRecords` leaves as it was. -/
@[simp] theorem Work.putRecords_frame (w : Work) (l : List BandRecord) :
    (w.putRecords l).ink = w.ink ∧ (w.putRecords l).refill = w.refill ∧ (w.putRecords l).feed =
    w.feed ∧ (w.putRecords l).service = w.service ∧ (w.putRecords l).keepWet = w.keepWet ∧
    (w.putRecords l).nozzle = w.nozzle ∧ (w.putRecords l).tally = w.tally ∧ (w.putRecords
    l).link = w.link ∧ (w.putRecords l).mode = w.mode ∧ (w.putRecords l).faults = w.faults ∧
    (w.putRecords l).pending = w.pending ∧ (w.putRecords l).pre = w.pre ∧ (w.putRecords
    l).raised = w.raised ∧ (w.putRecords l).classes = w.classes ∧ (w.putRecords l).peersHeard =
    w.peersHeard ∧ (w.putRecords l).boundary = w.boundary ∧ (w.putRecords l).drive = w.drive :=
  ⟨rfl, rfl, rfl, rfl, rfl, rfl, rfl, rfl, rfl, rfl, rfl, rfl, rfl, rfl, rfl, rfl, rfl⟩

/-- What `bumpGroups` leaves as it was. -/
@[simp] theorem Work.bumpGroups_frame (w : Work) :
    w.bumpGroups.ink = w.ink ∧ w.bumpGroups.refill = w.refill ∧ w.bumpGroups.bands = w.bands ∧
    w.bumpGroups.feed = w.feed ∧ w.bumpGroups.service = w.service ∧ w.bumpGroups.keepWet =
    w.keepWet ∧ w.bumpGroups.tally = w.tally ∧ w.bumpGroups.link = w.link ∧ w.bumpGroups.mode =
    w.mode ∧ w.bumpGroups.faults = w.faults ∧ w.bumpGroups.pending = w.pending ∧
    w.bumpGroups.pre = w.pre ∧ w.bumpGroups.raised = w.raised ∧ w.bumpGroups.cover = w.cover ∧
    w.bumpGroups.guardDue = w.guardDue ∧ w.bumpGroups.classes = w.classes ∧
    w.bumpGroups.peersHeard = w.peersHeard ∧ w.bumpGroups.boundary = w.boundary ∧
    w.bumpGroups.drive = w.drive :=
  ⟨rfl, rfl, rfl, rfl, rfl, rfl, rfl, rfl, rfl, rfl, rfl, rfl, rfl, rfl, rfl, rfl, rfl, rfl,
  rfl⟩

/-- What `setStage` leaves as it was. -/
@[simp] theorem Work.setStage_frame (w : Work) (g : Stage) :
    (w.setStage g).ink = w.ink ∧ (w.setStage g).refill = w.refill ∧ (w.setStage g).bands =
    w.bands ∧ (w.setStage g).feed = w.feed ∧ (w.setStage g).keepWet = w.keepWet ∧ (w.setStage
    g).nozzle = w.nozzle ∧ (w.setStage g).tally = w.tally ∧ (w.setStage g).link = w.link ∧
    (w.setStage g).mode = w.mode ∧ (w.setStage g).faults = w.faults ∧ (w.setStage g).pending =
    w.pending ∧ (w.setStage g).pre = w.pre ∧ (w.setStage g).raised = w.raised ∧ (w.setStage
    g).cover = w.cover ∧ (w.setStage g).guardDue = w.guardDue ∧ (w.setStage g).classes =
    w.classes ∧ (w.setStage g).peersHeard = w.peersHeard ∧ (w.setStage g).boundary = w.boundary
    ∧ (w.setStage g).drive = w.drive :=
  ⟨rfl, rfl, rfl, rfl, rfl, rfl, rfl, rfl, rfl, rfl, rfl, rfl, rfl, rfl, rfl, rfl, rfl, rfl,
  rfl⟩

/-- What `popStack` leaves as it was. -/
@[simp] theorem Work.popStack_frame (w : Work) :
    w.popStack.ink = w.ink ∧ w.popStack.refill = w.refill ∧ w.popStack.bands = w.bands ∧
    w.popStack.feed = w.feed ∧ w.popStack.keepWet = w.keepWet ∧ w.popStack.nozzle = w.nozzle ∧
    w.popStack.tally = w.tally ∧ w.popStack.link = w.link ∧ w.popStack.mode = w.mode ∧
    w.popStack.faults = w.faults ∧ w.popStack.pending = w.pending ∧ w.popStack.pre = w.pre ∧
    w.popStack.raised = w.raised ∧ w.popStack.cover = w.cover ∧ w.popStack.guardDue = w.guardDue
    ∧ w.popStack.classes = w.classes ∧ w.popStack.peersHeard = w.peersHeard ∧
    w.popStack.boundary = w.boundary ∧ w.popStack.drive = w.drive :=
  ⟨rfl, rfl, rfl, rfl, rfl, rfl, rfl, rfl, rfl, rfl, rfl, rfl, rfl, rfl, rfl, rfl, rfl, rfl,
  rfl⟩

/-- What `endAction` leaves as it was. -/
@[simp] theorem Work.endAction_frame (w : Work) :
    w.endAction.ink = w.ink ∧ w.endAction.refill = w.refill ∧ w.endAction.bands = w.bands ∧
    w.endAction.feed = w.feed ∧ w.endAction.keepWet = w.keepWet ∧ w.endAction.nozzle = w.nozzle
    ∧ w.endAction.tally = w.tally ∧ w.endAction.link = w.link ∧ w.endAction.mode = w.mode ∧
    w.endAction.faults = w.faults ∧ w.endAction.pending = w.pending ∧ w.endAction.pre = w.pre ∧
    w.endAction.raised = w.raised ∧ w.endAction.cover = w.cover ∧ w.endAction.guardDue =
    w.guardDue ∧ w.endAction.peersHeard = w.peersHeard :=
  ⟨rfl, rfl, rfl, rfl, rfl, rfl, rfl, rfl, rfl, rfl, rfl, rfl, rfl, rfl, rfl, rfl⟩

/-- What `sendHead` leaves as it was. -/
@[simp] theorem Work.sendHead_frame (w : Work) (k : HeadKind) :
    (w.sendHead k).ink = w.ink ∧ (w.sendHead k).refill = w.refill ∧ (w.sendHead k).bands =
    w.bands ∧ (w.sendHead k).feed = w.feed ∧ (w.sendHead k).keepWet = w.keepWet ∧ (w.sendHead
    k).nozzle = w.nozzle ∧ (w.sendHead k).tally = w.tally ∧ (w.sendHead k).link = w.link ∧
    (w.sendHead k).mode = w.mode ∧ (w.sendHead k).faults = w.faults ∧ (w.sendHead k).pending =
    w.pending ∧ (w.sendHead k).pre = w.pre ∧ (w.sendHead k).raised = w.raised ∧ (w.sendHead
    k).cover = w.cover ∧ (w.sendHead k).guardDue = w.guardDue ∧ (w.sendHead k).classes =
    w.classes ∧ (w.sendHead k).peersHeard = w.peersHeard ∧ (w.sendHead k).boundary = w.boundary
    ∧ (w.sendHead k).drive = w.drive :=
  ⟨rfl, rfl, rfl, rfl, rfl, rfl, rfl, rfl, rfl, rfl, rfl, rfl, rfl, rfl, rfl, rfl, rfl, rfl,
  rfl⟩

/-- What `peersChanged` leaves as it was. -/
@[simp] theorem Work.peersChanged_frame (w : Work) :
    w.peersChanged.ink = w.ink ∧ w.peersChanged.refill = w.refill ∧ w.peersChanged.bands =
    w.bands ∧ w.peersChanged.feed = w.feed ∧ w.peersChanged.service = w.service ∧
    w.peersChanged.keepWet = w.keepWet ∧ w.peersChanged.nozzle = w.nozzle ∧ w.peersChanged.tally
    = w.tally ∧ w.peersChanged.link = w.link ∧ w.peersChanged.mode = w.mode ∧
    w.peersChanged.faults = w.faults ∧ w.peersChanged.pending = w.pending ∧ w.peersChanged.pre =
    w.pre ∧ w.peersChanged.raised = w.raised ∧ w.peersChanged.cover = w.cover ∧
    w.peersChanged.guardDue = w.guardDue ∧ w.peersChanged.classes = w.classes ∧
    w.peersChanged.boundary = w.boundary :=
  ⟨rfl, rfl, rfl, rfl, rfl, rfl, rfl, rfl, rfl, rfl, rfl, rfl, rfl, rfl, rfl, rfl, rfl, rfl⟩

/-- What `statusDueNow` leaves as it was. -/
@[simp] theorem Work.statusDueNow_frame (w : Work) :
    w.statusDueNow.ink = w.ink ∧ w.statusDueNow.refill = w.refill ∧ w.statusDueNow.bands =
    w.bands ∧ w.statusDueNow.feed = w.feed ∧ w.statusDueNow.service = w.service ∧
    w.statusDueNow.keepWet = w.keepWet ∧ w.statusDueNow.nozzle = w.nozzle ∧ w.statusDueNow.tally
    = w.tally ∧ w.statusDueNow.mode = w.mode ∧ w.statusDueNow.faults = w.faults ∧
    w.statusDueNow.pending = w.pending ∧ w.statusDueNow.pre = w.pre ∧ w.statusDueNow.raised =
    w.raised ∧ w.statusDueNow.cover = w.cover ∧ w.statusDueNow.guardDue = w.guardDue ∧
    w.statusDueNow.classes = w.classes ∧ w.statusDueNow.peersHeard = w.peersHeard ∧
    w.statusDueNow.boundary = w.boundary ∧ w.statusDueNow.drive = w.drive :=
  ⟨rfl, rfl, rfl, rfl, rfl, rfl, rfl, rfl, rfl, rfl, rfl, rfl, rfl, rfl, rfl, rfl, rfl, rfl,
  rfl⟩

/-- What `loadReport` leaves as it was. -/
@[simp] theorem Work.loadReport_frame (w : Work) (r : Report) :
    (w.loadReport r).ink = w.ink ∧ (w.loadReport r).refill = w.refill ∧ (w.loadReport r).bands =
    w.bands ∧ (w.loadReport r).feed = w.feed ∧ (w.loadReport r).service = w.service ∧
    (w.loadReport r).keepWet = w.keepWet ∧ (w.loadReport r).nozzle = w.nozzle ∧ (w.loadReport
    r).tally = w.tally ∧ (w.loadReport r).mode = w.mode ∧ (w.loadReport r).faults = w.faults ∧
    (w.loadReport r).pending = w.pending ∧ (w.loadReport r).pre = w.pre ∧ (w.loadReport
    r).raised = w.raised ∧ (w.loadReport r).cover = w.cover ∧ (w.loadReport r).guardDue =
    w.guardDue ∧ (w.loadReport r).classes = w.classes ∧ (w.loadReport r).peersHeard =
    w.peersHeard ∧ (w.loadReport r).boundary = w.boundary ∧ (w.loadReport r).drive = w.drive :=
  ⟨rfl, rfl, rfl, rfl, rfl, rfl, rfl, rfl, rfl, rfl, rfl, rfl, rfl, rfl, rfl, rfl, rfl, rfl,
  rfl⟩

/-- What `loadFault` leaves as it was. -/
@[simp] theorem Work.loadFault_frame (w : Work) (r : Raise) :
    (w.loadFault r).ink = w.ink ∧ (w.loadFault r).refill = w.refill ∧ (w.loadFault r).bands =
    w.bands ∧ (w.loadFault r).feed = w.feed ∧ (w.loadFault r).service = w.service ∧ (w.loadFault
    r).keepWet = w.keepWet ∧ (w.loadFault r).nozzle = w.nozzle ∧ (w.loadFault r).tally = w.tally
    ∧ (w.loadFault r).mode = w.mode ∧ (w.loadFault r).pending = w.pending ∧ (w.loadFault r).pre
    = w.pre ∧ (w.loadFault r).raised = w.raised ∧ (w.loadFault r).cover = w.cover ∧ (w.loadFault
    r).guardDue = w.guardDue ∧ (w.loadFault r).classes = w.classes ∧ (w.loadFault r).peersHeard
    = w.peersHeard ∧ (w.loadFault r).boundary = w.boundary ∧ (w.loadFault r).drive = w.drive :=
  ⟨rfl, rfl, rfl, rfl, rfl, rfl, rfl, rfl, rfl, rfl, rfl, rfl, rfl, rfl, rfl, rfl, rfl, rfl⟩

/-- What `turnMove` leaves as it was. -/
@[simp] theorem Work.turnMove_frame (w : Work) (old new : MoveState) :
    (w.turnMove old new).ink = w.ink ∧ (w.turnMove old new).refill = w.refill ∧ (w.turnMove old
    new).bands = w.bands ∧ (w.turnMove old new).service = w.service ∧ (w.turnMove old
    new).keepWet = w.keepWet ∧ (w.turnMove old new).nozzle = w.nozzle ∧ (w.turnMove old
    new).tally = w.tally ∧ (w.turnMove old new).link = w.link ∧ (w.turnMove old new).mode =
    w.mode ∧ (w.turnMove old new).faults = w.faults ∧ (w.turnMove old new).pending = w.pending ∧
    (w.turnMove old new).pre = w.pre ∧ (w.turnMove old new).raised = w.raised ∧ (w.turnMove old
    new).cover = w.cover ∧ (w.turnMove old new).guardDue = w.guardDue ∧ (w.turnMove old
    new).classes = w.classes ∧ (w.turnMove old new).peersHeard = w.peersHeard ∧ (w.turnMove old
    new).boundary = w.boundary :=
  ⟨rfl, rfl, rfl, rfl, rfl, rfl, rfl, rfl, rfl, rfl, rfl, rfl, rfl, rfl, rfl, rfl, rfl, rfl⟩

/-- What `holdRefill` leaves as it was. -/
@[simp] theorem Work.holdRefill_frame (w : Work) :
    w.holdRefill.ink = w.ink ∧ w.holdRefill.bands = w.bands ∧ w.holdRefill.feed = w.feed ∧
    w.holdRefill.service = w.service ∧ w.holdRefill.keepWet = w.keepWet ∧ w.holdRefill.nozzle =
    w.nozzle ∧ w.holdRefill.tally = w.tally ∧ w.holdRefill.link = w.link ∧ w.holdRefill.mode =
    w.mode ∧ w.holdRefill.faults = w.faults ∧ w.holdRefill.pending = w.pending ∧
    w.holdRefill.pre = w.pre ∧ w.holdRefill.raised = w.raised ∧ w.holdRefill.cover = w.cover ∧
    w.holdRefill.guardDue = w.guardDue ∧ w.holdRefill.peersHeard = w.peersHeard ∧
    w.holdRefill.boundary = w.boundary ∧ w.holdRefill.drive = w.drive :=
  ⟨rfl, rfl, rfl, rfl, rfl, rfl, rfl, rfl, rfl, rfl, rfl, rfl, rfl, rfl, rfl, rfl, rfl, rfl⟩

/-- What `refillStage` leaves as it was. -/
@[simp] theorem Work.refillStage_frame (w : Work) :
    w.refillStage.ink = w.ink ∧ w.refillStage.bands = w.bands ∧ w.refillStage.feed = w.feed ∧
    w.refillStage.service = w.service ∧ w.refillStage.keepWet = w.keepWet ∧ w.refillStage.nozzle
    = w.nozzle ∧ w.refillStage.tally = w.tally ∧ w.refillStage.link = w.link ∧
    w.refillStage.mode = w.mode ∧ w.refillStage.faults = w.faults ∧ w.refillStage.pending =
    w.pending ∧ w.refillStage.pre = w.pre ∧ w.refillStage.raised = w.raised ∧
    w.refillStage.cover = w.cover ∧ w.refillStage.guardDue = w.guardDue ∧ w.refillStage.classes
    = w.classes ∧ w.refillStage.peersHeard = w.peersHeard ∧ w.refillStage.boundary = w.boundary
    ∧ w.refillStage.drive = w.drive :=
  ⟨rfl, rfl, rfl, rfl, rfl, rfl, rfl, rfl, rfl, rfl, rfl, rfl, rfl, rfl, rfl, rfl, rfl, rfl,
  rfl⟩

/-- What `driveStage` leaves as it was. -/
@[simp] theorem Work.driveStage_frame (w : Work) :
    w.driveStage.ink = w.ink ∧ w.driveStage.refill = w.refill ∧ w.driveStage.bands = w.bands ∧
    w.driveStage.service = w.service ∧ w.driveStage.keepWet = w.keepWet ∧ w.driveStage.nozzle =
    w.nozzle ∧ w.driveStage.tally = w.tally ∧ w.driveStage.link = w.link ∧ w.driveStage.mode =
    w.mode ∧ w.driveStage.faults = w.faults ∧ w.driveStage.pending = w.pending ∧
    w.driveStage.pre = w.pre ∧ w.driveStage.raised = w.raised ∧ w.driveStage.cover = w.cover ∧
    w.driveStage.guardDue = w.guardDue ∧ w.driveStage.classes = w.classes ∧
    w.driveStage.peersHeard = w.peersHeard ∧ w.driveStage.boundary = w.boundary ∧
    w.driveStage.drive = w.drive :=
  ⟨rfl, rfl, rfl, rfl, rfl, rfl, rfl, rfl, rfl, rfl, rfl, rfl, rfl, rfl, rfl, rfl, rfl, rfl,
  rfl⟩

/-- What `earlyStage` leaves as it was. -/
@[simp] theorem Work.earlyStage_frame (w : Work) :
    w.earlyStage.ink = w.ink ∧ w.earlyStage.refill = w.refill ∧ w.earlyStage.bands = w.bands ∧
    w.earlyStage.feed = w.feed ∧ w.earlyStage.service = w.service ∧ w.earlyStage.keepWet =
    w.keepWet ∧ w.earlyStage.nozzle = w.nozzle ∧ w.earlyStage.tally = w.tally ∧
    w.earlyStage.mode = w.mode ∧ w.earlyStage.faults = w.faults ∧ w.earlyStage.pending =
    w.pending ∧ w.earlyStage.pre = w.pre ∧ w.earlyStage.raised = w.raised ∧ w.earlyStage.cover =
    w.cover ∧ w.earlyStage.guardDue = w.guardDue ∧ w.earlyStage.classes = w.classes ∧
    w.earlyStage.peersHeard = w.peersHeard ∧ w.earlyStage.boundary = w.boundary ∧
    w.earlyStage.drive = w.drive :=
  ⟨rfl, rfl, rfl, rfl, rfl, rfl, rfl, rfl, rfl, rfl, rfl, rfl, rfl, rfl, rfl, rfl, rfl, rfl,
  rfl⟩

end Machine

end Sys2Proof
end

