-- ==== Sys2Proof/Laws/Frames.lean ====
section
/-! SUPPORT. What each shared operation leaves as it was, one lemma each, for every state: the provers cite
these instead of unfolding the operations. -/

set_option linter.unusedTactic false
set_option linter.unnecessarySeqFocus false
set_option linter.unreachableTactic false

namespace Sys2Proof.Machine

/-- What `takeWhole` leaves as it was. -/
@[simp] theorem Work.takeWhole_frame (w : Work) (k : Amount) (c : Channel) (whole r : Nat) :
    (w.takeWhole k c whole r).refill = w.refill ∧ (w.takeWhole k c whole r).bands = w.bands ∧
    (w.takeWhole k c whole r).feed = w.feed ∧ (w.takeWhole k c whole r).service = w.service ∧
    (w.takeWhole k c whole r).keepWet = w.keepWet ∧ (w.takeWhole k c whole r).nozzle = w.nozzle
    ∧ (w.takeWhole k c whole r).link = w.link ∧ (w.takeWhole k c whole r).mode = w.mode ∧
    (w.takeWhole k c whole r).faults = w.faults ∧ (w.takeWhole k c whole r).pending = w.pending
    ∧ (w.takeWhole k c whole r).pre = w.pre ∧ (w.takeWhole k c whole r).guardDue = w.guardDue ∧
    (w.takeWhole k c whole r).peersHeard = w.peersHeard ∧ (w.takeWhole k c whole r).boundary =
    w.boundary ∧ (w.takeWhole k c whole r).drive = w.drive := by
  simp only [Work.takeWhole]
  (repeat' split) <;> simp

/-- What `takeUnknown` leaves as it was. -/
@[simp] theorem Work.takeUnknown_frame (w : Work) (k : Amount) (c : Channel) (whole : Nat) :
    (w.takeUnknown k c whole).refill = w.refill ∧ (w.takeUnknown k c whole).bands = w.bands ∧
    (w.takeUnknown k c whole).feed = w.feed ∧ (w.takeUnknown k c whole).service = w.service ∧
    (w.takeUnknown k c whole).keepWet = w.keepWet ∧ (w.takeUnknown k c whole).nozzle = w.nozzle
    ∧ (w.takeUnknown k c whole).link = w.link ∧ (w.takeUnknown k c whole).mode = w.mode ∧
    (w.takeUnknown k c whole).faults = w.faults ∧ (w.takeUnknown k c whole).pending = w.pending
    ∧ (w.takeUnknown k c whole).pre = w.pre ∧ (w.takeUnknown k c whole).guardDue = w.guardDue ∧
    (w.takeUnknown k c whole).peersHeard = w.peersHeard ∧ (w.takeUnknown k c whole).boundary =
    w.boundary ∧ (w.takeUnknown k c whole).drive = w.drive := by
  simp only [Work.takeUnknown]
  (repeat' split) <;> simp

/-- What `deduct` leaves as it was. -/
@[simp] theorem Work.deduct_frame (w : Work) (k : Amount) (c : Channel) (v : Nat) :
    (w.deduct k c v).refill = w.refill ∧ (w.deduct k c v).bands = w.bands ∧ (w.deduct k c
    v).feed = w.feed ∧ (w.deduct k c v).service = w.service ∧ (w.deduct k c v).keepWet =
    w.keepWet ∧ (w.deduct k c v).nozzle = w.nozzle ∧ (w.deduct k c v).link = w.link ∧ (w.deduct
    k c v).mode = w.mode ∧ (w.deduct k c v).faults = w.faults ∧ (w.deduct k c v).pending =
    w.pending ∧ (w.deduct k c v).pre = w.pre ∧ (w.deduct k c v).guardDue = w.guardDue ∧
    (w.deduct k c v).peersHeard = w.peersHeard ∧ (w.deduct k c v).boundary = w.boundary ∧
    (w.deduct k c v).drive = w.drive := by
  simp only [Work.deduct]
  (repeat' split) <;> simp

/-- What `deductPurge` leaves as it was. -/
@[simp] theorem Work.deductPurge_frame (w : Work) (c : Channel) (whole : Nat) :
    (w.deductPurge c whole).refill = w.refill ∧ (w.deductPurge c whole).bands = w.bands ∧
    (w.deductPurge c whole).feed = w.feed ∧ (w.deductPurge c whole).service = w.service ∧
    (w.deductPurge c whole).keepWet = w.keepWet ∧ (w.deductPurge c whole).nozzle = w.nozzle ∧
    (w.deductPurge c whole).link = w.link ∧ (w.deductPurge c whole).mode = w.mode ∧
    (w.deductPurge c whole).faults = w.faults ∧ (w.deductPurge c whole).pending = w.pending ∧
    (w.deductPurge c whole).pre = w.pre ∧ (w.deductPurge c whole).guardDue = w.guardDue ∧
    (w.deductPurge c whole).peersHeard = w.peersHeard ∧ (w.deductPurge c whole).boundary =
    w.boundary ∧ (w.deductPurge c whole).drive = w.drive := by
  simp only [Work.deductPurge]
  (repeat' split) <;> simp

/-- What `deductBand` leaves as it was. -/
@[simp] theorem Work.deductBand_frame (w : Work) (r : BandRecord) :
    (w.deductBand r).refill = w.refill ∧ (w.deductBand r).bands = w.bands ∧ (w.deductBand
    r).feed = w.feed ∧ (w.deductBand r).service = w.service ∧ (w.deductBand r).keepWet =
    w.keepWet ∧ (w.deductBand r).nozzle = w.nozzle ∧ (w.deductBand r).link = w.link ∧
    (w.deductBand r).mode = w.mode ∧ (w.deductBand r).faults = w.faults ∧ (w.deductBand
    r).pending = w.pending ∧ (w.deductBand r).pre = w.pre ∧ (w.deductBand r).guardDue =
    w.guardDue ∧ (w.deductBand r).peersHeard = w.peersHeard ∧ (w.deductBand r).boundary =
    w.boundary ∧ (w.deductBand r).drive = w.drive := by
  have h := foldl_keeps
    (fun w c => if w.enabled c then (w.deduct .printed c (r.volume.get c)).countBand c
      else w : Work → _ → Work)
    (fun w : Work => (w.refill, w.bands, w.feed, w.service, w.keepWet, w.nozzle, w.link,
      w.mode, w.faults, w.pending, w.pre, w.guardDue, w.peersHeard, w.boundary, w.drive))
    (fun b a => by (try dsimp only); (try split) <;> simp)
  simp only [Prod.mk.injEq] at h
  simp [Work.deductBand, h]

/-- What `deductSpit` leaves as it was. -/
@[simp] theorem Work.deductSpit_frame (w : Work) (volumes : PerChannel Nat) :
    (w.deductSpit volumes).refill = w.refill ∧ (w.deductSpit volumes).bands = w.bands ∧
    (w.deductSpit volumes).feed = w.feed ∧ (w.deductSpit volumes).service = w.service ∧
    (w.deductSpit volumes).keepWet = w.keepWet ∧ (w.deductSpit volumes).nozzle = w.nozzle ∧
    (w.deductSpit volumes).link = w.link ∧ (w.deductSpit volumes).mode = w.mode ∧ (w.deductSpit
    volumes).faults = w.faults ∧ (w.deductSpit volumes).pending = w.pending ∧ (w.deductSpit
    volumes).pre = w.pre ∧ (w.deductSpit volumes).guardDue = w.guardDue ∧ (w.deductSpit
    volumes).peersHeard = w.peersHeard ∧ (w.deductSpit volumes).boundary = w.boundary ∧
    (w.deductSpit volumes).drive = w.drive := by
  have h := foldl_keeps
    (fun w c => w.deduct .spit c (volumes.get c) : Work → _ → Work)
    (fun w : Work => (w.refill, w.bands, w.feed, w.service, w.keepWet, w.nozzle, w.link,
      w.mode, w.faults, w.pending, w.pre, w.guardDue, w.peersHeard, w.boundary, w.drive))
    (fun b a => by (try dsimp only); (try split) <;> simp)
  simp only [Prod.mk.injEq] at h
  simp [Work.deductSpit, h]

/-- What `deductPurges` leaves as it was. -/
@[simp] theorem Work.deductPurges_frame (w : Work) (set : ChannelSet) (volumes : PerChannel Nat) :
    (w.deductPurges set volumes).refill = w.refill ∧ (w.deductPurges set volumes).bands =
    w.bands ∧ (w.deductPurges set volumes).feed = w.feed ∧ (w.deductPurges set volumes).service
    = w.service ∧ (w.deductPurges set volumes).keepWet = w.keepWet ∧ (w.deductPurges set
    volumes).nozzle = w.nozzle ∧ (w.deductPurges set volumes).link = w.link ∧ (w.deductPurges
    set volumes).mode = w.mode ∧ (w.deductPurges set volumes).faults = w.faults ∧
    (w.deductPurges set volumes).pending = w.pending ∧ (w.deductPurges set volumes).pre = w.pre
    ∧ (w.deductPurges set volumes).guardDue = w.guardDue ∧ (w.deductPurges set
    volumes).peersHeard = w.peersHeard ∧ (w.deductPurges set volumes).boundary = w.boundary ∧
    (w.deductPurges set volumes).drive = w.drive := by
  have h := foldl_keeps
    (fun w c => if set.get c then w.deductPurge c (volumes.get c) else w : Work → _ → Work)
    (fun w : Work => (w.refill, w.bands, w.feed, w.service, w.keepWet, w.nozzle, w.link,
      w.mode, w.faults, w.pending, w.pre, w.guardDue, w.peersHeard, w.boundary, w.drive))
    (fun b a => by (try dsimp only); (try split) <;> simp)
  simp only [Prod.mk.injEq] at h
  simp [Work.deductPurges, h]

/-- What `credit` leaves as it was. -/
@[simp] theorem Work.credit_frame (w : Work) (c : Channel) :
    (w.credit c).refill = w.refill ∧ (w.credit c).bands = w.bands ∧ (w.credit c).feed = w.feed ∧
    (w.credit c).service = w.service ∧ (w.credit c).keepWet = w.keepWet ∧ (w.credit c).nozzle =
    w.nozzle ∧ (w.credit c).link = w.link ∧ (w.credit c).mode = w.mode ∧ (w.credit c).faults =
    w.faults ∧ (w.credit c).pending = w.pending ∧ (w.credit c).pre = w.pre ∧ (w.credit
    c).guardDue = w.guardDue ∧ (w.credit c).peersHeard = w.peersHeard ∧ (w.credit c).boundary =
    w.boundary ∧ (w.credit c).drive = w.drive := by
  simp only [Work.credit]
  (repeat' split) <;> simp

/-- What `reconcile` leaves as it was. -/
@[simp] theorem Work.reconcile_frame (w : Work) (c : Channel) (level : Nat) :
    (w.reconcile c level).refill = w.refill ∧ (w.reconcile c level).bands = w.bands ∧
    (w.reconcile c level).feed = w.feed ∧ (w.reconcile c level).service = w.service ∧
    (w.reconcile c level).keepWet = w.keepWet ∧ (w.reconcile c level).nozzle = w.nozzle ∧
    (w.reconcile c level).link = w.link ∧ (w.reconcile c level).mode = w.mode ∧ (w.reconcile c
    level).faults = w.faults ∧ (w.reconcile c level).pending = w.pending ∧ (w.reconcile c
    level).pre = w.pre ∧ (w.reconcile c level).guardDue = w.guardDue ∧ (w.reconcile c
    level).peersHeard = w.peersHeard ∧ (w.reconcile c level).boundary = w.boundary ∧
    (w.reconcile c level).drive = w.drive := by
  simp only [Work.reconcile]
  (repeat' split) <;> simp

/-- What `anchor` leaves as it was. -/
@[simp] theorem Work.anchor_frame (w : Work) (c : Channel) :
    (w.anchor c).refill = w.refill ∧ (w.anchor c).bands = w.bands ∧ (w.anchor c).feed = w.feed ∧
    (w.anchor c).service = w.service ∧ (w.anchor c).keepWet = w.keepWet ∧ (w.anchor c).nozzle =
    w.nozzle ∧ (w.anchor c).link = w.link ∧ (w.anchor c).mode = w.mode ∧ (w.anchor c).faults =
    w.faults ∧ (w.anchor c).pending = w.pending ∧ (w.anchor c).pre = w.pre ∧ (w.anchor
    c).guardDue = w.guardDue ∧ (w.anchor c).peersHeard = w.peersHeard ∧ (w.anchor c).boundary =
    w.boundary ∧ (w.anchor c).drive = w.drive := by
  simp only [Work.anchor]
  (repeat' split) <;> simp

/-- What `markReconcile` leaves as it was. -/
@[simp] theorem Work.markReconcile_frame (w : Work) (c : Channel) (m : MarkName) (wet : Bool) :
    (w.markReconcile c m wet).refill = w.refill ∧ (w.markReconcile c m wet).bands = w.bands ∧
    (w.markReconcile c m wet).feed = w.feed ∧ (w.markReconcile c m wet).service = w.service ∧
    (w.markReconcile c m wet).keepWet = w.keepWet ∧ (w.markReconcile c m wet).nozzle = w.nozzle
    ∧ (w.markReconcile c m wet).link = w.link ∧ (w.markReconcile c m wet).mode = w.mode ∧
    (w.markReconcile c m wet).faults = w.faults ∧ (w.markReconcile c m wet).pending = w.pending
    ∧ (w.markReconcile c m wet).pre = w.pre ∧ (w.markReconcile c m wet).guardDue = w.guardDue ∧
    (w.markReconcile c m wet).peersHeard = w.peersHeard ∧ (w.markReconcile c m wet).boundary =
    w.boundary ∧ (w.markReconcile c m wet).drive = w.drive := by
  simp only [Work.markReconcile]
  (repeat' split) <;> simp

/-- What `startInk` leaves as it was. -/
@[simp] theorem Work.startInk_frame (w : Work) (was : Bool) (c : Channel) :
    (w.startInk was c).refill = w.refill ∧ (w.startInk was c).bands = w.bands ∧ (w.startInk was
    c).feed = w.feed ∧ (w.startInk was c).service = w.service ∧ (w.startInk was c).keepWet =
    w.keepWet ∧ (w.startInk was c).nozzle = w.nozzle ∧ (w.startInk was c).link = w.link ∧
    (w.startInk was c).mode = w.mode ∧ (w.startInk was c).faults = w.faults ∧ (w.startInk was
    c).pending = w.pending ∧ (w.startInk was c).pre = w.pre ∧ (w.startInk was c).guardDue =
    w.guardDue ∧ (w.startInk was c).peersHeard = w.peersHeard ∧ (w.startInk was c).boundary =
    w.boundary ∧ (w.startInk was c).drive = w.drive := by
  simp only [Work.startInk]
  (repeat' split) <;> simp

/-- What `retire` leaves as it was. -/
@[simp] theorem Work.retire_frame (w : Work) (r : BandRecord) :
    (w.retire r).refill = w.refill ∧ (w.retire r).feed = w.feed ∧ (w.retire r).service =
    w.service ∧ (w.retire r).keepWet = w.keepWet ∧ (w.retire r).link = w.link ∧ (w.retire
    r).mode = w.mode ∧ (w.retire r).faults = w.faults ∧ (w.retire r).pending = w.pending ∧
    (w.retire r).pre = w.pre ∧ (w.retire r).peersHeard = w.peersHeard ∧ (w.retire r).boundary =
    w.boundary ∧ (w.retire r).drive = w.drive := by
  simp only [Work.retire]
  (repeat' split) <;> simp

/-- What `retirePrinting` leaves as it was. -/
@[simp] theorem Work.retirePrinting_frame (w : Work) :
    w.retirePrinting.refill = w.refill ∧ w.retirePrinting.feed = w.feed ∧
    w.retirePrinting.service = w.service ∧ w.retirePrinting.keepWet = w.keepWet ∧
    w.retirePrinting.link = w.link ∧ w.retirePrinting.mode = w.mode ∧ w.retirePrinting.faults =
    w.faults ∧ w.retirePrinting.pending = w.pending ∧ w.retirePrinting.pre = w.pre ∧
    w.retirePrinting.peersHeard = w.peersHeard ∧ w.retirePrinting.boundary = w.boundary ∧
    w.retirePrinting.drive = w.drive := by
  simp only [Work.retirePrinting]
  (repeat' split) <;> simp

/-- What `removeCurrent` leaves as it was. -/
@[simp] theorem Work.removeCurrent_frame (w : Work) :
    w.removeCurrent.refill = w.refill ∧ w.removeCurrent.feed = w.feed ∧ w.removeCurrent.service
    = w.service ∧ w.removeCurrent.keepWet = w.keepWet ∧ w.removeCurrent.link = w.link ∧
    w.removeCurrent.mode = w.mode ∧ w.removeCurrent.faults = w.faults ∧ w.removeCurrent.pending
    = w.pending ∧ w.removeCurrent.pre = w.pre ∧ w.removeCurrent.peersHeard = w.peersHeard ∧
    w.removeCurrent.boundary = w.boundary ∧ w.removeCurrent.drive = w.drive := by
  simp only [Work.removeCurrent]
  (repeat' split) <;> simp

/-- What `sheetQueue` leaves as it was. -/
@[simp] theorem Work.sheetQueue_frame (w : Work) (n printLength : Nat) :
    (w.sheetQueue n printLength).refill = w.refill ∧ (w.sheetQueue n printLength).feed = w.feed
    ∧ (w.sheetQueue n printLength).service = w.service ∧ (w.sheetQueue n printLength).keepWet =
    w.keepWet ∧ (w.sheetQueue n printLength).link = w.link ∧ (w.sheetQueue n printLength).mode =
    w.mode ∧ (w.sheetQueue n printLength).faults = w.faults ∧ (w.sheetQueue n
    printLength).pending = w.pending ∧ (w.sheetQueue n printLength).pre = w.pre ∧ (w.sheetQueue
    n printLength).peersHeard = w.peersHeard ∧ (w.sheetQueue n printLength).boundary =
    w.boundary ∧ (w.sheetQueue n printLength).drive = w.drive := by
  simp only [Work.sheetQueue]
  (repeat' split) <;> simp

/-- What `retireAt` leaves as it was. -/
@[simp] theorem Work.retireAt_frame (w : Work) (base pos : Nat) :
    (w.retireAt base pos).refill = w.refill ∧ (w.retireAt base pos).feed = w.feed ∧ (w.retireAt
    base pos).service = w.service ∧ (w.retireAt base pos).keepWet = w.keepWet ∧ (w.retireAt base
    pos).link = w.link ∧ (w.retireAt base pos).mode = w.mode ∧ (w.retireAt base pos).faults =
    w.faults ∧ (w.retireAt base pos).pending = w.pending ∧ (w.retireAt base pos).pre = w.pre ∧
    (w.retireAt base pos).peersHeard = w.peersHeard ∧ (w.retireAt base pos).boundary =
    w.boundary ∧ (w.retireAt base pos).drive = w.drive := by
  simp only [Work.retireAt]
  (repeat' split) <;> simp

/-- What `startAt` leaves as it was. -/
@[simp] theorem Work.startAt_frame (w : Work) (base pos : Nat) :
    (w.startAt base pos).refill = w.refill ∧ (w.startAt base pos).feed = w.feed ∧ (w.startAt
    base pos).service = w.service ∧ (w.startAt base pos).keepWet = w.keepWet ∧ (w.startAt base
    pos).link = w.link ∧ (w.startAt base pos).mode = w.mode ∧ (w.startAt base pos).faults =
    w.faults ∧ (w.startAt base pos).pending = w.pending ∧ (w.startAt base pos).pre = w.pre ∧
    (w.startAt base pos).peersHeard = w.peersHeard ∧ (w.startAt base pos).boundary = w.boundary
    ∧ (w.startAt base pos).drive = w.drive := by
  simp only [Work.startAt]
  (repeat' split) <;> simp

/-- What `positionTests` leaves as it was. -/
@[simp] theorem Work.positionTests_frame (w : Work) :
    w.positionTests.refill = w.refill ∧ w.positionTests.feed = w.feed ∧ w.positionTests.service
    = w.service ∧ w.positionTests.keepWet = w.keepWet ∧ w.positionTests.link = w.link ∧
    w.positionTests.mode = w.mode ∧ w.positionTests.faults = w.faults ∧ w.positionTests.pending
    = w.pending ∧ w.positionTests.pre = w.pre ∧ w.positionTests.peersHeard = w.peersHeard ∧
    w.positionTests.boundary = w.boundary ∧ w.positionTests.drive = w.drive := by
  simp only [Work.positionTests]
  (repeat' split) <;> simp

/-- What `stale` leaves as it was. -/
@[simp] theorem Work.stale_frame (w : Work) :
    w.stale.ink = w.ink ∧ w.stale.refill = w.refill ∧ w.stale.feed = w.feed ∧ w.stale.service =
    w.service ∧ w.stale.keepWet = w.keepWet ∧ w.stale.nozzle = w.nozzle ∧ w.stale.tally =
    w.tally ∧ w.stale.link = w.link ∧ w.stale.mode = w.mode ∧ w.stale.faults = w.faults ∧
    w.stale.pending = w.pending ∧ w.stale.pre = w.pre ∧ w.stale.raised = w.raised ∧
    w.stale.classes = w.classes ∧ w.stale.peersHeard = w.peersHeard ∧ w.stale.boundary =
    w.boundary ∧ w.stale.drive = w.drive := by
  simp only [Work.stale]
  (repeat' split) <;> simp

/-- What `takeBand` leaves as it was. -/
@[simp] theorem Work.takeBand_frame (w : Work) (ref tag sheetId start length issue : Nat) (drops : PerChannel Drops) :
    (w.takeBand ref tag sheetId start length issue drops).ink = w.ink ∧ (w.takeBand ref tag
    sheetId start length issue drops).refill = w.refill ∧ (w.takeBand ref tag sheetId start
    length issue drops).feed = w.feed ∧ (w.takeBand ref tag sheetId start length issue
    drops).service = w.service ∧ (w.takeBand ref tag sheetId start length issue drops).keepWet =
    w.keepWet ∧ (w.takeBand ref tag sheetId start length issue drops).nozzle = w.nozzle ∧
    (w.takeBand ref tag sheetId start length issue drops).tally = w.tally ∧ (w.takeBand ref tag
    sheetId start length issue drops).mode = w.mode ∧ (w.takeBand ref tag sheetId start length
    issue drops).faults = w.faults ∧ (w.takeBand ref tag sheetId start length issue
    drops).pending = w.pending ∧ (w.takeBand ref tag sheetId start length issue drops).pre =
    w.pre ∧ (w.takeBand ref tag sheetId start length issue drops).raised = w.raised ∧
    (w.takeBand ref tag sheetId start length issue drops).classes = w.classes ∧ (w.takeBand ref
    tag sheetId start length issue drops).peersHeard = w.peersHeard ∧ (w.takeBand ref tag
    sheetId start length issue drops).boundary = w.boundary ∧ (w.takeBand ref tag sheetId start
    length issue drops).drive = w.drive := by
  simp only [Work.takeBand]
  (repeat' split) <;> simp

/-- What `raiseRecovery` leaves as it was. -/
@[simp] theorem Work.raiseRecovery_frame (w : Work) :
    w.raiseRecovery.ink = w.ink ∧ w.raiseRecovery.refill = w.refill ∧ w.raiseRecovery.bands =
    w.bands ∧ w.raiseRecovery.feed = w.feed ∧ w.raiseRecovery.keepWet = w.keepWet ∧
    w.raiseRecovery.nozzle = w.nozzle ∧ w.raiseRecovery.tally = w.tally ∧ w.raiseRecovery.link =
    w.link ∧ w.raiseRecovery.mode = w.mode ∧ w.raiseRecovery.faults = w.faults ∧
    w.raiseRecovery.pending = w.pending ∧ w.raiseRecovery.pre = w.pre ∧ w.raiseRecovery.raised =
    w.raised ∧ w.raiseRecovery.cover = w.cover ∧ w.raiseRecovery.guardDue = w.guardDue ∧
    w.raiseRecovery.peersHeard = w.peersHeard ∧ w.raiseRecovery.drive = w.drive := by
  simp only [Work.raiseRecovery]
  (repeat' split) <;> simp

/-- What `withdrawRecovery` leaves as it was. -/
@[simp] theorem Work.withdrawRecovery_frame (w : Work) :
    w.withdrawRecovery.ink = w.ink ∧ w.withdrawRecovery.refill = w.refill ∧
    w.withdrawRecovery.bands = w.bands ∧ w.withdrawRecovery.feed = w.feed ∧
    w.withdrawRecovery.keepWet = w.keepWet ∧ w.withdrawRecovery.nozzle = w.nozzle ∧
    w.withdrawRecovery.tally = w.tally ∧ w.withdrawRecovery.link = w.link ∧
    w.withdrawRecovery.mode = w.mode ∧ w.withdrawRecovery.faults = w.faults ∧
    w.withdrawRecovery.pending = w.pending ∧ w.withdrawRecovery.pre = w.pre ∧
    w.withdrawRecovery.raised = w.raised ∧ w.withdrawRecovery.cover = w.cover ∧
    w.withdrawRecovery.guardDue = w.guardDue ∧ w.withdrawRecovery.peersHeard = w.peersHeard ∧
    w.withdrawRecovery.drive = w.drive := by
  simp only [Work.withdrawRecovery]
  (repeat' split) <;> simp

/-- What `putLadders` leaves as it was. -/
@[simp] theorem Work.putLadders_frame (w : Work) (l : PerChannel Ladder) :
    (w.putLadders l).ink = w.ink ∧ (w.putLadders l).refill = w.refill ∧ (w.putLadders l).bands =
    w.bands ∧ (w.putLadders l).feed = w.feed ∧ (w.putLadders l).keepWet = w.keepWet ∧
    (w.putLadders l).tally = w.tally ∧ (w.putLadders l).link = w.link ∧ (w.putLadders l).mode =
    w.mode ∧ (w.putLadders l).faults = w.faults ∧ (w.putLadders l).pending = w.pending ∧
    (w.putLadders l).pre = w.pre ∧ (w.putLadders l).raised = w.raised ∧ (w.putLadders l).cover =
    w.cover ∧ (w.putLadders l).guardDue = w.guardDue ∧ (w.putLadders l).peersHeard =
    w.peersHeard ∧ (w.putLadders l).drive = w.drive := by
  simp only [Work.putLadders]
  (repeat' split) <;> simp

/-- What `screenRecovery` leaves as it was. -/
@[simp] theorem Work.screenRecovery_frame (w : Work) :
    w.screenRecovery.ink = w.ink ∧ w.screenRecovery.refill = w.refill ∧ w.screenRecovery.bands =
    w.bands ∧ w.screenRecovery.feed = w.feed ∧ w.screenRecovery.keepWet = w.keepWet ∧
    w.screenRecovery.tally = w.tally ∧ w.screenRecovery.link = w.link ∧ w.screenRecovery.mode =
    w.mode ∧ w.screenRecovery.faults = w.faults ∧ w.screenRecovery.pending = w.pending ∧
    w.screenRecovery.pre = w.pre ∧ w.screenRecovery.raised = w.raised ∧ w.screenRecovery.cover =
    w.cover ∧ w.screenRecovery.guardDue = w.guardDue ∧ w.screenRecovery.peersHeard =
    w.peersHeard ∧ w.screenRecovery.drive = w.drive := by
  simp only [Work.screenRecovery]
  (repeat' split) <;> simp

/-- What `marksChanged` leaves as it was. -/
@[simp] theorem Work.marksChanged_frame (w : Work) (c : Channel) (before : RefillChannel) :
    (w.marksChanged c before).ink = w.ink ∧ (w.marksChanged c before).refill = w.refill ∧
    (w.marksChanged c before).bands = w.bands ∧ (w.marksChanged c before).feed = w.feed ∧
    (w.marksChanged c before).keepWet = w.keepWet ∧ (w.marksChanged c before).tally = w.tally ∧
    (w.marksChanged c before).link = w.link ∧ (w.marksChanged c before).mode = w.mode ∧
    (w.marksChanged c before).faults = w.faults ∧ (w.marksChanged c before).pending = w.pending
    ∧ (w.marksChanged c before).pre = w.pre ∧ (w.marksChanged c before).raised = w.raised ∧
    (w.marksChanged c before).cover = w.cover ∧ (w.marksChanged c before).guardDue = w.guardDue
    ∧ (w.marksChanged c before).peersHeard = w.peersHeard ∧ (w.marksChanged c before).drive =
    w.drive := by
  simp only [Work.marksChanged]
  (repeat' split) <;> simp

/-- What `raiseUncovered` leaves as it was. -/
@[simp] theorem Work.raiseUncovered_frame (w : Work) (before : Bool) :
    (w.raiseUncovered before).ink = w.ink ∧ (w.raiseUncovered before).refill = w.refill ∧
    (w.raiseUncovered before).bands = w.bands ∧ (w.raiseUncovered before).feed = w.feed ∧
    (w.raiseUncovered before).service = w.service ∧ (w.raiseUncovered before).keepWet =
    w.keepWet ∧ (w.raiseUncovered before).nozzle = w.nozzle ∧ (w.raiseUncovered before).tally =
    w.tally ∧ (w.raiseUncovered before).link = w.link ∧ (w.raiseUncovered before).mode = w.mode
    ∧ (w.raiseUncovered before).faults = w.faults ∧ (w.raiseUncovered before).pending =
    w.pending ∧ (w.raiseUncovered before).pre = w.pre ∧ (w.raiseUncovered before).cover =
    w.cover ∧ (w.raiseUncovered before).guardDue = w.guardDue ∧ (w.raiseUncovered
    before).classes = w.classes ∧ (w.raiseUncovered before).peersHeard = w.peersHeard ∧
    (w.raiseUncovered before).boundary = w.boundary ∧ (w.raiseUncovered before).drive = w.drive := by
  simp only [Work.raiseUncovered]
  (repeat' split) <;> simp

/-- What `loadNotice` leaves as it was. -/
@[simp] theorem Work.loadNotice_frame (w : Work) :
    w.loadNotice.ink = w.ink ∧ w.loadNotice.refill = w.refill ∧ w.loadNotice.bands = w.bands ∧
    w.loadNotice.feed = w.feed ∧ w.loadNotice.service = w.service ∧ w.loadNotice.keepWet =
    w.keepWet ∧ w.loadNotice.tally = w.tally ∧ w.loadNotice.mode = w.mode ∧ w.loadNotice.faults
    = w.faults ∧ w.loadNotice.pending = w.pending ∧ w.loadNotice.pre = w.pre ∧
    w.loadNotice.raised = w.raised ∧ w.loadNotice.cover = w.cover ∧ w.loadNotice.guardDue =
    w.guardDue ∧ w.loadNotice.classes = w.classes ∧ w.loadNotice.peersHeard = w.peersHeard ∧
    w.loadNotice.boundary = w.boundary ∧ w.loadNotice.drive = w.drive := by
  simp only [Work.loadNotice]
  (repeat' split) <;> simp

/-- What `checkEvent` leaves as it was. -/
@[simp] theorem Work.checkEvent_frame (w : Work) (results : List (Nat × List Nat)) (served : Option Channel) :
    (w.checkEvent results served).ink = w.ink ∧ (w.checkEvent results served).refill = w.refill
    ∧ (w.checkEvent results served).feed = w.feed ∧ (w.checkEvent results served).keepWet =
    w.keepWet ∧ (w.checkEvent results served).tally = w.tally ∧ (w.checkEvent results
    served).mode = w.mode ∧ (w.checkEvent results served).faults = w.faults ∧ (w.checkEvent
    results served).pending = w.pending ∧ (w.checkEvent results served).pre = w.pre ∧
    (w.checkEvent results served).peersHeard = w.peersHeard ∧ (w.checkEvent results
    served).drive = w.drive := by
  simp only [Work.checkEvent]
  (repeat' split) <;> simp

/-- What `clearLadders` leaves as it was. -/
@[simp] theorem Work.clearLadders_frame (w : Work) (set : ChannelSet) :
    (w.clearLadders set).ink = w.ink ∧ (w.clearLadders set).refill = w.refill ∧ (w.clearLadders
    set).bands = w.bands ∧ (w.clearLadders set).feed = w.feed ∧ (w.clearLadders set).keepWet =
    w.keepWet ∧ (w.clearLadders set).tally = w.tally ∧ (w.clearLadders set).link = w.link ∧
    (w.clearLadders set).mode = w.mode ∧ (w.clearLadders set).faults = w.faults ∧
    (w.clearLadders set).pending = w.pending ∧ (w.clearLadders set).pre = w.pre ∧
    (w.clearLadders set).raised = w.raised ∧ (w.clearLadders set).cover = w.cover ∧
    (w.clearLadders set).guardDue = w.guardDue ∧ (w.clearLadders set).peersHeard = w.peersHeard
    ∧ (w.clearLadders set).drive = w.drive := by
  simp only [Work.clearLadders]
  (repeat' split) <;> simp

/-- What `startNozzle` leaves as it was. -/
@[simp] theorem Work.startNozzle_frame (w : Work) (before : Bool) :
    (w.startNozzle before).ink = w.ink ∧ (w.startNozzle before).refill = w.refill ∧
    (w.startNozzle before).bands = w.bands ∧ (w.startNozzle before).feed = w.feed ∧
    (w.startNozzle before).keepWet = w.keepWet ∧ (w.startNozzle before).tally = w.tally ∧
    (w.startNozzle before).link = w.link ∧ (w.startNozzle before).mode = w.mode ∧ (w.startNozzle
    before).faults = w.faults ∧ (w.startNozzle before).pending = w.pending ∧ (w.startNozzle
    before).pre = w.pre ∧ (w.startNozzle before).guardDue = w.guardDue ∧ (w.startNozzle
    before).peersHeard = w.peersHeard ∧ (w.startNozzle before).drive = w.drive := by
  simp only [Work.startNozzle]
  (repeat' split) <;> simp

/-- What `releaseRefill` leaves as it was. -/
@[simp] theorem Work.releaseRefill_frame (w : Work) :
    w.releaseRefill.ink = w.ink ∧ w.releaseRefill.bands = w.bands ∧ w.releaseRefill.feed =
    w.feed ∧ w.releaseRefill.service = w.service ∧ w.releaseRefill.keepWet = w.keepWet ∧
    w.releaseRefill.nozzle = w.nozzle ∧ w.releaseRefill.tally = w.tally ∧ w.releaseRefill.link =
    w.link ∧ w.releaseRefill.mode = w.mode ∧ w.releaseRefill.faults = w.faults ∧
    w.releaseRefill.pending = w.pending ∧ w.releaseRefill.pre = w.pre ∧ w.releaseRefill.raised =
    w.raised ∧ w.releaseRefill.cover = w.cover ∧ w.releaseRefill.guardDue = w.guardDue ∧
    w.releaseRefill.peersHeard = w.peersHeard ∧ w.releaseRefill.boundary = w.boundary ∧
    w.releaseRefill.drive = w.drive := by
  simp only [Work.releaseRefill]
  (repeat' split) <;> simp

/-- What `countPulse` leaves as it was. -/
@[simp] theorem Work.countPulse_frame (w : Work) (c : Channel) :
    (w.countPulse c).ink = w.ink ∧ (w.countPulse c).bands = w.bands ∧ (w.countPulse c).feed =
    w.feed ∧ (w.countPulse c).keepWet = w.keepWet ∧ (w.countPulse c).tally = w.tally ∧
    (w.countPulse c).link = w.link ∧ (w.countPulse c).mode = w.mode ∧ (w.countPulse c).faults =
    w.faults ∧ (w.countPulse c).pending = w.pending ∧ (w.countPulse c).pre = w.pre ∧
    (w.countPulse c).cover = w.cover ∧ (w.countPulse c).guardDue = w.guardDue ∧ (w.countPulse
    c).peersHeard = w.peersHeard ∧ (w.countPulse c).drive = w.drive := by
  simp only [Work.countPulse]
  (repeat' split) <;> simp

/-- What `windowEnd` leaves as it was. -/
@[simp] theorem Work.windowEnd_frame (w : Work) (c : Channel) (f : FlowWindow) :
    (w.windowEnd c f).ink = w.ink ∧ (w.windowEnd c f).bands = w.bands ∧ (w.windowEnd c f).feed =
    w.feed ∧ (w.windowEnd c f).keepWet = w.keepWet ∧ (w.windowEnd c f).tally = w.tally ∧
    (w.windowEnd c f).link = w.link ∧ (w.windowEnd c f).mode = w.mode ∧ (w.windowEnd c f).faults
    = w.faults ∧ (w.windowEnd c f).pending = w.pending ∧ (w.windowEnd c f).pre = w.pre ∧
    (w.windowEnd c f).cover = w.cover ∧ (w.windowEnd c f).guardDue = w.guardDue ∧ (w.windowEnd c
    f).peersHeard = w.peersHeard ∧ (w.windowEnd c f).drive = w.drive := by
  simp only [Work.windowEnd]
  (repeat' split) <;> simp

/-- What `overfillTest` leaves as it was. -/
@[simp] theorem Work.overfillTest_frame (w : Work) (c : Channel) :
    (w.overfillTest c).ink = w.ink ∧ (w.overfillTest c).bands = w.bands ∧ (w.overfillTest
    c).feed = w.feed ∧ (w.overfillTest c).keepWet = w.keepWet ∧ (w.overfillTest c).tally =
    w.tally ∧ (w.overfillTest c).link = w.link ∧ (w.overfillTest c).mode = w.mode ∧
    (w.overfillTest c).faults = w.faults ∧ (w.overfillTest c).pending = w.pending ∧
    (w.overfillTest c).pre = w.pre ∧ (w.overfillTest c).cover = w.cover ∧ (w.overfillTest
    c).guardDue = w.guardDue ∧ (w.overfillTest c).peersHeard = w.peersHeard ∧ (w.overfillTest
    c).drive = w.drive := by
  simp only [Work.overfillTest]
  (repeat' split) <;> simp

/-- What `overfillTests` leaves as it was. -/
@[simp] theorem Work.overfillTests_frame (w : Work) :
    w.overfillTests.ink = w.ink ∧ w.overfillTests.bands = w.bands ∧ w.overfillTests.feed =
    w.feed ∧ w.overfillTests.keepWet = w.keepWet ∧ w.overfillTests.tally = w.tally ∧
    w.overfillTests.link = w.link ∧ w.overfillTests.mode = w.mode ∧ w.overfillTests.faults =
    w.faults ∧ w.overfillTests.pending = w.pending ∧ w.overfillTests.pre = w.pre ∧
    w.overfillTests.cover = w.cover ∧ w.overfillTests.guardDue = w.guardDue ∧
    w.overfillTests.peersHeard = w.peersHeard ∧ w.overfillTests.drive = w.drive := by
  have h := foldl_keeps
    (fun w c => w.overfillTest c : Work → _ → Work)
    (fun w : Work => (w.ink, w.bands, w.feed, w.keepWet, w.tally, w.link, w.mode,
      w.faults, w.pending, w.pre, w.cover, w.guardDue, w.peersHeard, w.drive))
    (fun b a => by (try dsimp only); (try split) <;> simp)
  simp only [Prod.mk.injEq] at h
  simp [Work.overfillTests, h]

/-- What `clearStarved` leaves as it was. -/
@[simp] theorem Work.clearStarved_frame (w : Work) (set : ChannelSet) :
    (w.clearStarved set).ink = w.ink ∧ (w.clearStarved set).bands = w.bands ∧ (w.clearStarved
    set).feed = w.feed ∧ (w.clearStarved set).keepWet = w.keepWet ∧ (w.clearStarved set).tally =
    w.tally ∧ (w.clearStarved set).link = w.link ∧ (w.clearStarved set).mode = w.mode ∧
    (w.clearStarved set).faults = w.faults ∧ (w.clearStarved set).pending = w.pending ∧
    (w.clearStarved set).pre = w.pre ∧ (w.clearStarved set).cover = w.cover ∧ (w.clearStarved
    set).guardDue = w.guardDue ∧ (w.clearStarved set).peersHeard = w.peersHeard ∧
    (w.clearStarved set).drive = w.drive := by
  have h := foldl_keeps
    (fun v c => v.marksChanged c (w.refill.get c) : Work → _ → Work)
    (fun w : Work => (w.ink, w.bands, w.feed, w.keepWet, w.tally, w.link, w.mode,
      w.faults, w.pending, w.pre, w.cover, w.guardDue, w.peersHeard, w.drive))
    (fun b a => by (try dsimp only); (try split) <;> simp)
  simp only [Prod.mk.injEq] at h
  simp [Work.clearStarved, h]

/-- What `clearLocked` leaves as it was. -/
@[simp] theorem Work.clearLocked_frame (w : Work) :
    w.clearLocked.ink = w.ink ∧ w.clearLocked.bands = w.bands ∧ w.clearLocked.feed = w.feed ∧
    w.clearLocked.keepWet = w.keepWet ∧ w.clearLocked.tally = w.tally ∧ w.clearLocked.link =
    w.link ∧ w.clearLocked.mode = w.mode ∧ w.clearLocked.faults = w.faults ∧
    w.clearLocked.pending = w.pending ∧ w.clearLocked.pre = w.pre ∧ w.clearLocked.cover =
    w.cover ∧ w.clearLocked.guardDue = w.guardDue ∧ w.clearLocked.peersHeard = w.peersHeard ∧
    w.clearLocked.drive = w.drive := by
  have h := foldl_keeps
    (fun v c => v.marksChanged c (w.refill.get c) : Work → _ → Work)
    (fun w : Work => (w.ink, w.bands, w.feed, w.keepWet, w.tally, w.link, w.mode,
      w.faults, w.pending, w.pre, w.cover, w.guardDue, w.peersHeard, w.drive))
    (fun b a => by (try dsimp only); (try split) <;> simp)
  simp only [Prod.mk.injEq] at h
  simp [Work.clearLocked, h]

/-- What `backoffOver` leaves as it was. -/
@[simp] theorem Work.backoffOver_frame (w : Work) (c : Channel) :
    (w.backoffOver c).ink = w.ink ∧ (w.backoffOver c).bands = w.bands ∧ (w.backoffOver c).feed =
    w.feed ∧ (w.backoffOver c).service = w.service ∧ (w.backoffOver c).keepWet = w.keepWet ∧
    (w.backoffOver c).nozzle = w.nozzle ∧ (w.backoffOver c).tally = w.tally ∧ (w.backoffOver
    c).link = w.link ∧ (w.backoffOver c).mode = w.mode ∧ (w.backoffOver c).faults = w.faults ∧
    (w.backoffOver c).pending = w.pending ∧ (w.backoffOver c).pre = w.pre ∧ (w.backoffOver
    c).raised = w.raised ∧ (w.backoffOver c).cover = w.cover ∧ (w.backoffOver c).guardDue =
    w.guardDue ∧ (w.backoffOver c).peersHeard = w.peersHeard ∧ (w.backoffOver c).boundary =
    w.boundary ∧ (w.backoffOver c).drive = w.drive := by
  simp only [Work.backoffOver]
  (repeat' split) <;> simp

/-- What `setActive` leaves as it was. -/
@[simp] theorem Work.setActive_frame (w : Work) (l : List FaultCode) :
    (w.setActive l).ink = w.ink ∧ (w.setActive l).refill = w.refill ∧ (w.setActive l).bands =
    w.bands ∧ (w.setActive l).feed = w.feed ∧ (w.setActive l).keepWet = w.keepWet ∧ (w.setActive
    l).tally = w.tally ∧ (w.setActive l).link = w.link ∧ (w.setActive l).mode = w.mode ∧
    (w.setActive l).pending = w.pending ∧ (w.setActive l).pre = w.pre ∧ (w.setActive l).raised =
    w.raised ∧ (w.setActive l).cover = w.cover ∧ (w.setActive l).guardDue = w.guardDue ∧
    (w.setActive l).peersHeard = w.peersHeard := by
  simp only [Work.setActive]
  (repeat' split) <;> simp

/-- What `faultStage` leaves as it was. -/
@[simp] theorem Work.faultStage_frame (w : Work) :
    w.faultStage.ink = w.ink ∧ w.faultStage.refill = w.refill ∧ w.faultStage.bands = w.bands ∧
    w.faultStage.feed = w.feed ∧ w.faultStage.keepWet = w.keepWet ∧ w.faultStage.tally = w.tally
    ∧ w.faultStage.mode = w.mode ∧ w.faultStage.pending = w.pending ∧ w.faultStage.pre = w.pre ∧
    w.faultStage.raised = w.raised ∧ w.faultStage.cover = w.cover ∧ w.faultStage.guardDue =
    w.guardDue ∧ w.faultStage.peersHeard = w.peersHeard := by
  simp only [Work.faultStage]
  (repeat' split) <;> simp

/-- What `clearFaultsPart` leaves as it was. -/
@[simp] theorem Work.clearFaultsPart_frame (w : Work) :
    w.clearFaultsPart.ink = w.ink ∧ w.clearFaultsPart.bands = w.bands ∧ w.clearFaultsPart.feed =
    w.feed ∧ w.clearFaultsPart.keepWet = w.keepWet ∧ w.clearFaultsPart.tally = w.tally ∧
    w.clearFaultsPart.link = w.link ∧ w.clearFaultsPart.mode = w.mode ∧
    w.clearFaultsPart.pending = w.pending ∧ w.clearFaultsPart.pre = w.pre ∧
    w.clearFaultsPart.cover = w.cover ∧ w.clearFaultsPart.guardDue = w.guardDue ∧
    w.clearFaultsPart.peersHeard = w.peersHeard := by
  simp only [Work.clearFaultsPart]
  (repeat' split) <;> simp

/-- What `removeSheetStops` leaves as it was. -/
@[simp] theorem Work.removeSheetStops_frame (w : Work) :
    w.removeSheetStops.ink = w.ink ∧ w.removeSheetStops.refill = w.refill ∧
    w.removeSheetStops.bands = w.bands ∧ w.removeSheetStops.feed = w.feed ∧
    w.removeSheetStops.keepWet = w.keepWet ∧ w.removeSheetStops.tally = w.tally ∧
    w.removeSheetStops.link = w.link ∧ w.removeSheetStops.mode = w.mode ∧
    w.removeSheetStops.pending = w.pending ∧ w.removeSheetStops.pre = w.pre ∧
    w.removeSheetStops.raised = w.raised ∧ w.removeSheetStops.cover = w.cover ∧
    w.removeSheetStops.guardDue = w.guardDue ∧ w.removeSheetStops.peersHeard = w.peersHeard := by
  simp only [Work.removeSheetStops]
  (repeat' split) <;> simp

/-- What `commandSled` leaves as it was. -/
@[simp] theorem Work.commandSled_frame (w : Work) (p : SledPlace) :
    (w.commandSled p).ink = w.ink ∧ (w.commandSled p).refill = w.refill ∧ (w.commandSled
    p).bands = w.bands ∧ (w.commandSled p).feed = w.feed ∧ (w.commandSled p).keepWet = w.keepWet
    ∧ (w.commandSled p).nozzle = w.nozzle ∧ (w.commandSled p).tally = w.tally ∧ (w.commandSled
    p).link = w.link ∧ (w.commandSled p).mode = w.mode ∧ (w.commandSled p).faults = w.faults ∧
    (w.commandSled p).pending = w.pending ∧ (w.commandSled p).pre = w.pre ∧ (w.commandSled
    p).raised = w.raised ∧ (w.commandSled p).cover = w.cover ∧ (w.commandSled p).guardDue =
    w.guardDue ∧ (w.commandSled p).classes = w.classes ∧ (w.commandSled p).peersHeard =
    w.peersHeard ∧ (w.commandSled p).boundary = w.boundary := by
  simp only [Work.commandSled]
  (repeat' split) <;> simp

/-- What `spitDone` leaves as it was. -/
@[simp] theorem Work.spitDone_frame (w : Work) (a : CurrentAction) :
    (w.spitDone a).refill = w.refill ∧ (w.spitDone a).bands = w.bands ∧ (w.spitDone a).feed =
    w.feed ∧ (w.spitDone a).service = w.service ∧ (w.spitDone a).nozzle = w.nozzle ∧ (w.spitDone
    a).link = w.link ∧ (w.spitDone a).mode = w.mode ∧ (w.spitDone a).faults = w.faults ∧
    (w.spitDone a).pending = w.pending ∧ (w.spitDone a).pre = w.pre ∧ (w.spitDone a).guardDue =
    w.guardDue ∧ (w.spitDone a).peersHeard = w.peersHeard ∧ (w.spitDone a).boundary = w.boundary
    ∧ (w.spitDone a).drive = w.drive := by
  simp only [Work.spitDone]
  (repeat' split) <;> simp

/-- What `purgeDone` leaves as it was. -/
@[simp] theorem Work.purgeDone_frame (w : Work) (set : ChannelSet) (volumes : PerChannel Nat) :
    (w.purgeDone set volumes).bands = w.bands ∧ (w.purgeDone set volumes).feed = w.feed ∧
    (w.purgeDone set volumes).service = w.service ∧ (w.purgeDone set volumes).keepWet =
    w.keepWet ∧ (w.purgeDone set volumes).nozzle = w.nozzle ∧ (w.purgeDone set volumes).link =
    w.link ∧ (w.purgeDone set volumes).mode = w.mode ∧ (w.purgeDone set volumes).faults =
    w.faults ∧ (w.purgeDone set volumes).pending = w.pending ∧ (w.purgeDone set volumes).pre =
    w.pre ∧ (w.purgeDone set volumes).guardDue = w.guardDue ∧ (w.purgeDone set
    volumes).peersHeard = w.peersHeard ∧ (w.purgeDone set volumes).boundary = w.boundary ∧
    (w.purgeDone set volumes).drive = w.drive := by
  simp only [Work.purgeDone]
  (repeat' split) <;> simp

/-- What `forcedDone` leaves as it was. -/
@[simp] theorem Work.forcedDone_frame (w : Work) (unchecked : List Nat) :
    (w.forcedDone unchecked).ink = w.ink ∧ (w.forcedDone unchecked).refill = w.refill ∧
    (w.forcedDone unchecked).bands = w.bands ∧ (w.forcedDone unchecked).feed = w.feed ∧
    (w.forcedDone unchecked).nozzle = w.nozzle ∧ (w.forcedDone unchecked).tally = w.tally ∧
    (w.forcedDone unchecked).link = w.link ∧ (w.forcedDone unchecked).mode = w.mode ∧
    (w.forcedDone unchecked).faults = w.faults ∧ (w.forcedDone unchecked).pending = w.pending ∧
    (w.forcedDone unchecked).pre = w.pre ∧ (w.forcedDone unchecked).raised = w.raised ∧
    (w.forcedDone unchecked).cover = w.cover ∧ (w.forcedDone unchecked).guardDue = w.guardDue ∧
    (w.forcedDone unchecked).peersHeard = w.peersHeard := by
  simp only [Work.forcedDone]
  (repeat' split) <;> simp

/-- What `checkDone` leaves as it was. -/
@[simp] theorem Work.checkDone_frame (w : Work) (a : CurrentAction) (groups : List Nat) (ended : Option Sequence) :
    (w.checkDone a groups ended).ink = w.ink ∧ (w.checkDone a groups ended).refill = w.refill ∧
    (w.checkDone a groups ended).feed = w.feed ∧ (w.checkDone a groups ended).tally = w.tally ∧
    (w.checkDone a groups ended).mode = w.mode ∧ (w.checkDone a groups ended).faults = w.faults
    ∧ (w.checkDone a groups ended).pending = w.pending ∧ (w.checkDone a groups ended).pre =
    w.pre ∧ (w.checkDone a groups ended).peersHeard = w.peersHeard := by
  simp only [Work.checkDone]
  (repeat' split) <;> simp

/-- What `complete` leaves as it was. -/
@[simp] theorem Work.complete_frame (w : Work) :
    w.complete.feed = w.feed ∧ w.complete.mode = w.mode ∧ w.complete.faults = w.faults ∧
    w.complete.pending = w.pending ∧ w.complete.pre = w.pre ∧ w.complete.peersHeard =
    w.peersHeard := by
  simp only [Work.complete]
  (repeat' split) <;> simp

/-- What `goPark` leaves as it was. -/
@[simp] theorem Work.goPark_frame (w : Work) :
    w.goPark.feed = w.feed ∧ w.goPark.mode = w.mode ∧ w.goPark.faults = w.faults ∧
    w.goPark.pending = w.pending ∧ w.goPark.pre = w.pre ∧ w.goPark.peersHeard = w.peersHeard := by
  simp only [Work.goPark]
  (repeat' split) <;> simp

/-- What `reached` leaves as it was. -/
@[simp] theorem Work.reached_frame (w : Work) :
    w.reached.feed = w.feed ∧ w.reached.mode = w.mode ∧ w.reached.faults = w.faults ∧
    w.reached.pending = w.pending ∧ w.reached.pre = w.pre ∧ w.reached.peersHeard = w.peersHeard := by
  simp only [Work.reached]
  (repeat' split) <;> simp

/-- What `firstLeg` leaves as it was. -/
@[simp] theorem Work.firstLeg_frame (w : Work) (p : SledPlace) :
    (w.firstLeg p).feed = w.feed ∧ (w.firstLeg p).mode = w.mode ∧ (w.firstLeg p).faults =
    w.faults ∧ (w.firstLeg p).pending = w.pending ∧ (w.firstLeg p).pre = w.pre ∧ (w.firstLeg
    p).peersHeard = w.peersHeard := by
  simp only [Work.firstLeg]
  (repeat' split) <;> simp

/-- What `startAction` leaves as it was. -/
@[simp] theorem Work.startAction_frame (w : Work) (a : Action) :
    (w.startAction a).feed = w.feed ∧ (w.startAction a).mode = w.mode ∧ (w.startAction a).faults
    = w.faults ∧ (w.startAction a).pending = w.pending ∧ (w.startAction a).pre = w.pre ∧
    (w.startAction a).peersHeard = w.peersHeard := by
  simp only [Work.startAction]
  (repeat' split) <;> simp

/-- What `push` leaves as it was. -/
@[simp] theorem Work.push_frame (w : Work) (src : Source) (acts : List Action) (ch : Option Channel) :
    (w.push src acts ch).ink = w.ink ∧ (w.push src acts ch).refill = w.refill ∧ (w.push src acts
    ch).bands = w.bands ∧ (w.push src acts ch).feed = w.feed ∧ (w.push src acts ch).keepWet =
    w.keepWet ∧ (w.push src acts ch).nozzle = w.nozzle ∧ (w.push src acts ch).tally = w.tally ∧
    (w.push src acts ch).link = w.link ∧ (w.push src acts ch).mode = w.mode ∧ (w.push src acts
    ch).faults = w.faults ∧ (w.push src acts ch).pending = w.pending ∧ (w.push src acts ch).pre
    = w.pre ∧ (w.push src acts ch).raised = w.raised ∧ (w.push src acts ch).cover = w.cover ∧
    (w.push src acts ch).guardDue = w.guardDue ∧ (w.push src acts ch).classes = w.classes ∧
    (w.push src acts ch).peersHeard = w.peersHeard ∧ (w.push src acts ch).boundary = w.boundary
    ∧ (w.push src acts ch).drive = w.drive := by
  simp only [Work.push]
  (repeat' split) <;> simp

/-- What `requestStarted` leaves as it was. -/
@[simp] theorem Work.requestStarted_frame (w : Work) (src : Source) (ch : Option Channel) :
    (w.requestStarted src ch).ink = w.ink ∧ (w.requestStarted src ch).refill = w.refill ∧
    (w.requestStarted src ch).bands = w.bands ∧ (w.requestStarted src ch).feed = w.feed ∧
    (w.requestStarted src ch).tally = w.tally ∧ (w.requestStarted src ch).link = w.link ∧
    (w.requestStarted src ch).mode = w.mode ∧ (w.requestStarted src ch).faults = w.faults ∧
    (w.requestStarted src ch).pending = w.pending ∧ (w.requestStarted src ch).pre = w.pre ∧
    (w.requestStarted src ch).raised = w.raised ∧ (w.requestStarted src ch).cover = w.cover ∧
    (w.requestStarted src ch).guardDue = w.guardDue ∧ (w.requestStarted src ch).peersHeard =
    w.peersHeard ∧ (w.requestStarted src ch).drive = w.drive := by
  simp only [Work.requestStarted]
  (repeat' split) <;> simp

/-- What `beginSource` leaves as it was. -/
@[simp] theorem Work.beginSource_frame (w : Work) (src : Source) :
    (w.beginSource src).feed = w.feed ∧ (w.beginSource src).mode = w.mode ∧ (w.beginSource
    src).faults = w.faults ∧ (w.beginSource src).pending = w.pending ∧ (w.beginSource src).pre =
    w.pre ∧ (w.beginSource src).peersHeard = w.peersHeard := by
  simp only [Work.beginSource]
  (repeat' split) <;> simp

/-- What `beginTop` leaves as it was. -/
@[simp] theorem Work.beginTop_frame (w : Work) (a : Action) :
    (w.beginTop a).feed = w.feed ∧ (w.beginTop a).mode = w.mode ∧ (w.beginTop a).faults =
    w.faults ∧ (w.beginTop a).pending = w.pending ∧ (w.beginTop a).pre = w.pre ∧ (w.beginTop
    a).peersHeard = w.peersHeard := by
  simp only [Work.beginTop]
  (repeat' split) <;> simp

/-- What `arbitrate` leaves as it was. -/
@[simp] theorem Work.arbitrate_frame (w : Work) (n : Nat) :
    (Work.arbitrate n w).feed = w.feed ∧ (Work.arbitrate n w).mode = w.mode ∧ (Work.arbitrate n
    w).faults = w.faults ∧ (Work.arbitrate n w).pending = w.pending ∧ (Work.arbitrate n w).pre =
    w.pre ∧ (Work.arbitrate n w).peersHeard = w.peersHeard := by
  induction n generalizing w with
  | zero => simp [Work.arbitrate]
  | succ n ih =>
    simp only [Work.arbitrate]
    (repeat' split) <;> simp [ih]

/-- What `arbiterStage` leaves as it was. -/
@[simp] theorem Work.arbiterStage_frame (w : Work) :
    w.arbiterStage.feed = w.feed ∧ w.arbiterStage.mode = w.mode ∧ w.arbiterStage.faults =
    w.faults ∧ w.arbiterStage.pending = w.pending ∧ w.arbiterStage.pre = w.pre ∧
    w.arbiterStage.peersHeard = w.peersHeard := by
  simp only [Work.arbiterStage]
  (repeat' split) <;> simp

/-- What `fail` leaves as it was. -/
@[simp] theorem Work.fail_frame (w : Work) :
    w.fail.ink = w.ink ∧ w.fail.bands = w.bands ∧ w.fail.feed = w.feed ∧ w.fail.keepWet =
    w.keepWet ∧ w.fail.nozzle = w.nozzle ∧ w.fail.tally = w.tally ∧ w.fail.link = w.link ∧
    w.fail.mode = w.mode ∧ w.fail.faults = w.faults ∧ w.fail.pending = w.pending ∧ w.fail.pre =
    w.pre ∧ w.fail.cover = w.cover ∧ w.fail.guardDue = w.guardDue ∧ w.fail.peersHeard =
    w.peersHeard := by
  simp only [Work.fail]
  (repeat' split) <;> simp

/-- What `setUnder` leaves as it was. -/
@[simp] theorem Work.setUnder_frame (w : Work) (b : Bool) :
    (w.setUnder b).ink = w.ink ∧ (w.setUnder b).refill = w.refill ∧ (w.setUnder b).bands =
    w.bands ∧ (w.setUnder b).keepWet = w.keepWet ∧ (w.setUnder b).nozzle = w.nozzle ∧
    (w.setUnder b).tally = w.tally ∧ (w.setUnder b).link = w.link ∧ (w.setUnder b).mode = w.mode
    ∧ (w.setUnder b).faults = w.faults ∧ (w.setUnder b).pending = w.pending ∧ (w.setUnder b).pre
    = w.pre ∧ (w.setUnder b).raised = w.raised ∧ (w.setUnder b).cover = w.cover ∧ (w.setUnder
    b).guardDue = w.guardDue ∧ (w.setUnder b).peersHeard = w.peersHeard ∧ (w.setUnder b).drive =
    w.drive := by
  simp only [Work.setUnder]
  (repeat' split) <;> simp

/-- What `raiseCapIdle` leaves as it was. -/
@[simp] theorem Work.raiseCapIdle_frame (w : Work) :
    w.raiseCapIdle.ink = w.ink ∧ w.raiseCapIdle.refill = w.refill ∧ w.raiseCapIdle.bands =
    w.bands ∧ w.raiseCapIdle.feed = w.feed ∧ w.raiseCapIdle.keepWet = w.keepWet ∧
    w.raiseCapIdle.nozzle = w.nozzle ∧ w.raiseCapIdle.tally = w.tally ∧ w.raiseCapIdle.link =
    w.link ∧ w.raiseCapIdle.mode = w.mode ∧ w.raiseCapIdle.faults = w.faults ∧
    w.raiseCapIdle.pending = w.pending ∧ w.raiseCapIdle.pre = w.pre ∧ w.raiseCapIdle.raised =
    w.raised ∧ w.raiseCapIdle.cover = w.cover ∧ w.raiseCapIdle.guardDue = w.guardDue ∧
    w.raiseCapIdle.peersHeard = w.peersHeard ∧ w.raiseCapIdle.drive = w.drive := by
  simp only [Work.raiseCapIdle]
  (repeat' split) <;> simp

/-- What `takeService` leaves as it was. -/
@[simp] theorem Work.takeService_frame (w : Work) (ref : Nat) (a : Action) (fits : Bool) :
    (w.takeService ref a fits).ink = w.ink ∧ (w.takeService ref a fits).refill = w.refill ∧
    (w.takeService ref a fits).bands = w.bands ∧ (w.takeService ref a fits).feed = w.feed ∧
    (w.takeService ref a fits).keepWet = w.keepWet ∧ (w.takeService ref a fits).nozzle =
    w.nozzle ∧ (w.takeService ref a fits).tally = w.tally ∧ (w.takeService ref a fits).mode =
    w.mode ∧ (w.takeService ref a fits).faults = w.faults ∧ (w.takeService ref a fits).pending =
    w.pending ∧ (w.takeService ref a fits).pre = w.pre ∧ (w.takeService ref a fits).raised =
    w.raised ∧ (w.takeService ref a fits).cover = w.cover ∧ (w.takeService ref a fits).guardDue
    = w.guardDue ∧ (w.takeService ref a fits).peersHeard = w.peersHeard ∧ (w.takeService ref a
    fits).drive = w.drive := by
  simp only [Work.takeService]
  (repeat' split) <;> simp

/-- What `takeResult` leaves as it was. -/
@[simp] theorem Work.takeResult_frame (w : Work) (number g : Nat) (missed : List Nat) :
    (w.takeResult number g missed).ink = w.ink ∧ (w.takeResult number g missed).refill =
    w.refill ∧ (w.takeResult number g missed).bands = w.bands ∧ (w.takeResult number g
    missed).feed = w.feed ∧ (w.takeResult number g missed).keepWet = w.keepWet ∧ (w.takeResult
    number g missed).nozzle = w.nozzle ∧ (w.takeResult number g missed).tally = w.tally ∧
    (w.takeResult number g missed).link = w.link ∧ (w.takeResult number g missed).mode = w.mode
    ∧ (w.takeResult number g missed).faults = w.faults ∧ (w.takeResult number g missed).pending
    = w.pending ∧ (w.takeResult number g missed).pre = w.pre ∧ (w.takeResult number g
    missed).raised = w.raised ∧ (w.takeResult number g missed).cover = w.cover ∧ (w.takeResult
    number g missed).guardDue = w.guardDue ∧ (w.takeResult number g missed).classes = w.classes
    ∧ (w.takeResult number g missed).peersHeard = w.peersHeard ∧ (w.takeResult number g
    missed).boundary = w.boundary ∧ (w.takeResult number g missed).drive = w.drive := by
  simp only [Work.takeResult]
  (repeat' split) <;> simp

/-- What `headAnswered` leaves as it was. -/
@[simp] theorem Work.headAnswered_frame (w : Work) :
    w.headAnswered.feed = w.feed ∧ w.headAnswered.mode = w.mode ∧ w.headAnswered.faults =
    w.faults ∧ w.headAnswered.pending = w.pending ∧ w.headAnswered.pre = w.pre ∧
    w.headAnswered.peersHeard = w.peersHeard := by
  simp only [Work.headAnswered]
  (repeat' split) <;> simp

/-- What `missedExpiry` leaves as it was. -/
@[simp] theorem Work.missedExpiry_frame (w : Work) :
    w.missedExpiry.ink = w.ink ∧ w.missedExpiry.refill = w.refill ∧ w.missedExpiry.bands =
    w.bands ∧ w.missedExpiry.feed = w.feed ∧ w.missedExpiry.nozzle = w.nozzle ∧
    w.missedExpiry.tally = w.tally ∧ w.missedExpiry.link = w.link ∧ w.missedExpiry.mode = w.mode
    ∧ w.missedExpiry.faults = w.faults ∧ w.missedExpiry.pending = w.pending ∧ w.missedExpiry.pre
    = w.pre ∧ w.missedExpiry.raised = w.raised ∧ w.missedExpiry.cover = w.cover ∧
    w.missedExpiry.guardDue = w.guardDue ∧ w.missedExpiry.peersHeard = w.peersHeard := by
  simp only [Work.missedExpiry]
  (repeat' split) <;> simp

/-- What `expiry` leaves as it was. -/
@[simp] theorem Work.expiry_frame (w : Work) :
    w.expiry.ink = w.ink ∧ w.expiry.refill = w.refill ∧ w.expiry.bands = w.bands ∧ w.expiry.feed
    = w.feed ∧ w.expiry.nozzle = w.nozzle ∧ w.expiry.tally = w.tally ∧ w.expiry.link = w.link ∧
    w.expiry.mode = w.mode ∧ w.expiry.faults = w.faults ∧ w.expiry.pending = w.pending ∧
    w.expiry.pre = w.pre ∧ w.expiry.raised = w.raised ∧ w.expiry.cover = w.cover ∧
    w.expiry.guardDue = w.guardDue ∧ w.expiry.peersHeard = w.peersHeard := by
  simp only [Work.expiry]
  (repeat' split) <;> simp

/-- What `startKeepWet` leaves as it was. -/
@[simp] theorem Work.startKeepWet_frame (w : Work) :
    w.startKeepWet.ink = w.ink ∧ w.startKeepWet.refill = w.refill ∧ w.startKeepWet.bands =
    w.bands ∧ w.startKeepWet.feed = w.feed ∧ w.startKeepWet.nozzle = w.nozzle ∧
    w.startKeepWet.tally = w.tally ∧ w.startKeepWet.link = w.link ∧ w.startKeepWet.mode = w.mode
    ∧ w.startKeepWet.faults = w.faults ∧ w.startKeepWet.pending = w.pending ∧ w.startKeepWet.pre
    = w.pre ∧ w.startKeepWet.raised = w.raised ∧ w.startKeepWet.cover = w.cover ∧
    w.startKeepWet.guardDue = w.guardDue ∧ w.startKeepWet.peersHeard = w.peersHeard ∧
    w.startKeepWet.drive = w.drive := by
  simp only [Work.startKeepWet]
  (repeat' split) <;> simp

/-- What `closePeriod` leaves as it was. -/
@[simp] theorem Work.closePeriod_frame (w : Work) (limited : Bool) :
    (w.closePeriod limited).ink = w.ink ∧ (w.closePeriod limited).refill = w.refill ∧
    (w.closePeriod limited).bands = w.bands ∧ (w.closePeriod limited).feed = w.feed ∧
    (w.closePeriod limited).service = w.service ∧ (w.closePeriod limited).keepWet = w.keepWet ∧
    (w.closePeriod limited).nozzle = w.nozzle ∧ (w.closePeriod limited).mode = w.mode ∧
    (w.closePeriod limited).faults = w.faults ∧ (w.closePeriod limited).pending = w.pending ∧
    (w.closePeriod limited).pre = w.pre ∧ (w.closePeriod limited).raised = w.raised ∧
    (w.closePeriod limited).cover = w.cover ∧ (w.closePeriod limited).guardDue = w.guardDue ∧
    (w.closePeriod limited).classes = w.classes ∧ (w.closePeriod limited).peersHeard =
    w.peersHeard ∧ (w.closePeriod limited).boundary = w.boundary ∧ (w.closePeriod limited).drive
    = w.drive := by
  simp only [Work.closePeriod]
  (repeat' split) <;> simp

/-- What `settingsInForce` leaves as it was. -/
@[simp] theorem Work.settingsInForce_frame (w : Work) :
    w.settingsInForce.ink = w.ink ∧ w.settingsInForce.refill = w.refill ∧ w.settingsInForce.feed
    = w.feed ∧ w.settingsInForce.service = w.service ∧ w.settingsInForce.keepWet = w.keepWet ∧
    w.settingsInForce.nozzle = w.nozzle ∧ w.settingsInForce.link = w.link ∧
    w.settingsInForce.mode = w.mode ∧ w.settingsInForce.faults = w.faults ∧
    w.settingsInForce.pending = w.pending ∧ w.settingsInForce.pre = w.pre ∧
    w.settingsInForce.raised = w.raised ∧ w.settingsInForce.peersHeard = w.peersHeard ∧
    w.settingsInForce.drive = w.drive := by
  simp only [Work.settingsInForce]
  (repeat' split) <;> simp

/-- What `fullClose` leaves as it was. -/
@[simp] theorem Work.fullClose_frame (w : Work) :
    w.fullClose.ink = w.ink ∧ w.fullClose.refill = w.refill ∧ w.fullClose.feed = w.feed ∧
    w.fullClose.service = w.service ∧ w.fullClose.keepWet = w.keepWet ∧ w.fullClose.nozzle =
    w.nozzle ∧ w.fullClose.mode = w.mode ∧ w.fullClose.faults = w.faults ∧ w.fullClose.pending =
    w.pending ∧ w.fullClose.pre = w.pre ∧ w.fullClose.raised = w.raised ∧ w.fullClose.peersHeard
    = w.peersHeard ∧ w.fullClose.drive = w.drive := by
  simp only [Work.fullClose]
  (repeat' split) <;> simp

/-- What `peekPeriod` leaves as it was. -/
@[simp] theorem Work.peekPeriod_frame (w : Work) (limited : Bool) :
    (w.peekPeriod limited).ink = w.ink ∧ (w.peekPeriod limited).refill = w.refill ∧
    (w.peekPeriod limited).bands = w.bands ∧ (w.peekPeriod limited).feed = w.feed ∧
    (w.peekPeriod limited).service = w.service ∧ (w.peekPeriod limited).keepWet = w.keepWet ∧
    (w.peekPeriod limited).nozzle = w.nozzle ∧ (w.peekPeriod limited).tally = w.tally ∧
    (w.peekPeriod limited).mode = w.mode ∧ (w.peekPeriod limited).faults = w.faults ∧
    (w.peekPeriod limited).pending = w.pending ∧ (w.peekPeriod limited).pre = w.pre ∧
    (w.peekPeriod limited).raised = w.raised ∧ (w.peekPeriod limited).cover = w.cover ∧
    (w.peekPeriod limited).guardDue = w.guardDue ∧ (w.peekPeriod limited).classes = w.classes ∧
    (w.peekPeriod limited).peersHeard = w.peersHeard ∧ (w.peekPeriod limited).boundary =
    w.boundary ∧ (w.peekPeriod limited).drive = w.drive := by
  simp only [Work.peekPeriod]
  (repeat' split) <;> simp

/-- What `edgeOperation` leaves as it was. -/
@[simp] theorem Work.edgeOperation_frame (w : Work) (close peek : Bool) :
    (w.edgeOperation close peek).ink = w.ink ∧ (w.edgeOperation close peek).refill = w.refill ∧
    (w.edgeOperation close peek).bands = w.bands ∧ (w.edgeOperation close peek).feed = w.feed ∧
    (w.edgeOperation close peek).service = w.service ∧ (w.edgeOperation close peek).keepWet =
    w.keepWet ∧ (w.edgeOperation close peek).nozzle = w.nozzle ∧ (w.edgeOperation close
    peek).mode = w.mode ∧ (w.edgeOperation close peek).faults = w.faults ∧ (w.edgeOperation
    close peek).pending = w.pending ∧ (w.edgeOperation close peek).pre = w.pre ∧
    (w.edgeOperation close peek).raised = w.raised ∧ (w.edgeOperation close peek).cover =
    w.cover ∧ (w.edgeOperation close peek).guardDue = w.guardDue ∧ (w.edgeOperation close
    peek).classes = w.classes ∧ (w.edgeOperation close peek).peersHeard = w.peersHeard ∧
    (w.edgeOperation close peek).boundary = w.boundary ∧ (w.edgeOperation close peek).drive =
    w.drive := by
  simp only [Work.edgeOperation]
  (repeat' split) <;> simp

/-- What `tallyLeading` leaves as it was. -/
@[simp] theorem Work.tallyLeading_frame (w : Work) :
    w.tallyLeading.ink = w.ink ∧ w.tallyLeading.refill = w.refill ∧ w.tallyLeading.bands =
    w.bands ∧ w.tallyLeading.feed = w.feed ∧ w.tallyLeading.service = w.service ∧
    w.tallyLeading.keepWet = w.keepWet ∧ w.tallyLeading.nozzle = w.nozzle ∧ w.tallyLeading.mode
    = w.mode ∧ w.tallyLeading.faults = w.faults ∧ w.tallyLeading.pending = w.pending ∧
    w.tallyLeading.pre = w.pre ∧ w.tallyLeading.raised = w.raised ∧ w.tallyLeading.cover =
    w.cover ∧ w.tallyLeading.guardDue = w.guardDue ∧ w.tallyLeading.classes = w.classes ∧
    w.tallyLeading.peersHeard = w.peersHeard ∧ w.tallyLeading.boundary = w.boundary ∧
    w.tallyLeading.drive = w.drive := by
  simp only [Work.tallyLeading]
  (repeat' split) <;> simp

/-- What `tallyTrailing` leaves as it was. -/
@[simp] theorem Work.tallyTrailing_frame (w : Work) :
    w.tallyTrailing.ink = w.ink ∧ w.tallyTrailing.refill = w.refill ∧ w.tallyTrailing.bands =
    w.bands ∧ w.tallyTrailing.feed = w.feed ∧ w.tallyTrailing.service = w.service ∧
    w.tallyTrailing.keepWet = w.keepWet ∧ w.tallyTrailing.nozzle = w.nozzle ∧
    w.tallyTrailing.mode = w.mode ∧ w.tallyTrailing.faults = w.faults ∧ w.tallyTrailing.pending
    = w.pending ∧ w.tallyTrailing.pre = w.pre ∧ w.tallyTrailing.raised = w.raised ∧
    w.tallyTrailing.cover = w.cover ∧ w.tallyTrailing.guardDue = w.guardDue ∧
    w.tallyTrailing.classes = w.classes ∧ w.tallyTrailing.peersHeard = w.peersHeard ∧
    w.tallyTrailing.boundary = w.boundary ∧ w.tallyTrailing.drive = w.drive := by
  simp only [Work.tallyTrailing]
  (repeat' split) <;> simp

/-- What `phaseEffects` leaves as it was. -/
@[simp] theorem Work.phaseEffects_frame (w : Work) (p : Phase) :
    (w.phaseEffects p).ink = w.ink ∧ (w.phaseEffects p).refill = w.refill ∧ (w.phaseEffects
    p).bands = w.bands ∧ (w.phaseEffects p).feed = w.feed ∧ (w.phaseEffects p).keepWet =
    w.keepWet ∧ (w.phaseEffects p).nozzle = w.nozzle ∧ (w.phaseEffects p).tally = w.tally ∧
    (w.phaseEffects p).link = w.link ∧ (w.phaseEffects p).mode = w.mode ∧ (w.phaseEffects
    p).faults = w.faults ∧ (w.phaseEffects p).pending = w.pending ∧ (w.phaseEffects p).pre =
    w.pre ∧ (w.phaseEffects p).cover = w.cover ∧ (w.phaseEffects p).guardDue = w.guardDue ∧
    (w.phaseEffects p).peersHeard = w.peersHeard ∧ (w.phaseEffects p).drive = w.drive := by
  simp only [Work.phaseEffects]
  (repeat' split) <;> simp

/-- What `setPhase` leaves as it was. -/
@[simp] theorem Work.setPhase_frame (w : Work) (p : Phase) :
    (w.setPhase p).ink = w.ink ∧ (w.setPhase p).refill = w.refill ∧ (w.setPhase p).bands =
    w.bands ∧ (w.setPhase p).keepWet = w.keepWet ∧ (w.setPhase p).nozzle = w.nozzle ∧
    (w.setPhase p).tally = w.tally ∧ (w.setPhase p).link = w.link ∧ (w.setPhase p).mode = w.mode
    ∧ (w.setPhase p).faults = w.faults ∧ (w.setPhase p).pending = w.pending ∧ (w.setPhase p).pre
    = w.pre ∧ (w.setPhase p).cover = w.cover ∧ (w.setPhase p).peersHeard = w.peersHeard := by
  simp only [Work.setPhase]
  (repeat' split) <;> simp

/-- What `slipTest` leaves as it was. -/
@[simp] theorem Work.slipTest_frame (w : Work) :
    w.slipTest.ink = w.ink ∧ w.slipTest.refill = w.refill ∧ w.slipTest.bands = w.bands ∧
    w.slipTest.service = w.service ∧ w.slipTest.keepWet = w.keepWet ∧ w.slipTest.nozzle =
    w.nozzle ∧ w.slipTest.tally = w.tally ∧ w.slipTest.link = w.link ∧ w.slipTest.mode = w.mode
    ∧ w.slipTest.faults = w.faults ∧ w.slipTest.pending = w.pending ∧ w.slipTest.pre = w.pre ∧
    w.slipTest.cover = w.cover ∧ w.slipTest.guardDue = w.guardDue ∧ w.slipTest.classes =
    w.classes ∧ w.slipTest.peersHeard = w.peersHeard ∧ w.slipTest.boundary = w.boundary ∧
    w.slipTest.drive = w.drive := by
  simp only [Work.slipTest]
  (repeat' split) <;> simp

/-- What `underTest` leaves as it was. -/
@[simp] theorem Work.underTest_frame (w : Work) :
    w.underTest.ink = w.ink ∧ w.underTest.refill = w.refill ∧ w.underTest.bands = w.bands ∧
    w.underTest.keepWet = w.keepWet ∧ w.underTest.nozzle = w.nozzle ∧ w.underTest.tally =
    w.tally ∧ w.underTest.link = w.link ∧ w.underTest.mode = w.mode ∧ w.underTest.faults =
    w.faults ∧ w.underTest.pending = w.pending ∧ w.underTest.pre = w.pre ∧ w.underTest.raised =
    w.raised ∧ w.underTest.cover = w.cover ∧ w.underTest.guardDue = w.guardDue ∧
    w.underTest.peersHeard = w.peersHeard ∧ w.underTest.drive = w.drive := by
  simp only [Work.underTest]
  (repeat' split) <;> simp

/-- What `leaveTest` leaves as it was. -/
@[simp] theorem Work.leaveTest_frame (w : Work) :
    w.leaveTest.ink = w.ink ∧ w.leaveTest.refill = w.refill ∧ w.leaveTest.bands = w.bands ∧
    w.leaveTest.keepWet = w.keepWet ∧ w.leaveTest.nozzle = w.nozzle ∧ w.leaveTest.tally =
    w.tally ∧ w.leaveTest.link = w.link ∧ w.leaveTest.mode = w.mode ∧ w.leaveTest.faults =
    w.faults ∧ w.leaveTest.pending = w.pending ∧ w.leaveTest.pre = w.pre ∧ w.leaveTest.cover =
    w.cover ∧ w.leaveTest.peersHeard = w.peersHeard := by
  simp only [Work.leaveTest]
  (repeat' split) <;> simp

/-- What `vacuumTest` leaves as it was. -/
@[simp] theorem Work.vacuumTest_frame (w : Work) :
    w.vacuumTest.ink = w.ink ∧ w.vacuumTest.refill = w.refill ∧ w.vacuumTest.bands = w.bands ∧
    w.vacuumTest.service = w.service ∧ w.vacuumTest.keepWet = w.keepWet ∧ w.vacuumTest.nozzle =
    w.nozzle ∧ w.vacuumTest.tally = w.tally ∧ w.vacuumTest.link = w.link ∧ w.vacuumTest.mode =
    w.mode ∧ w.vacuumTest.faults = w.faults ∧ w.vacuumTest.pending = w.pending ∧
    w.vacuumTest.pre = w.pre ∧ w.vacuumTest.raised = w.raised ∧ w.vacuumTest.cover = w.cover ∧
    w.vacuumTest.guardDue = w.guardDue ∧ w.vacuumTest.classes = w.classes ∧
    w.vacuumTest.peersHeard = w.peersHeard ∧ w.vacuumTest.boundary = w.boundary ∧
    w.vacuumTest.drive = w.drive := by
  simp only [Work.vacuumTest]
  (repeat' split) <;> simp

/-- What `positionEvent` leaves as it was. -/
@[simp] theorem Work.positionEvent_frame (w : Work) :
    w.positionEvent.refill = w.refill ∧ w.positionEvent.keepWet = w.keepWet ∧
    w.positionEvent.link = w.link ∧ w.positionEvent.mode = w.mode ∧ w.positionEvent.faults =
    w.faults ∧ w.positionEvent.pending = w.pending ∧ w.positionEvent.pre = w.pre ∧
    w.positionEvent.peersHeard = w.peersHeard := by
  simp only [Work.positionEvent]
  (repeat' split) <;> simp

/-- What `issueStep` leaves as it was. -/
@[simp] theorem Work.issueStep_frame (w : Work) :
    w.issueStep.ink = w.ink ∧ w.issueStep.refill = w.refill ∧ w.issueStep.bands = w.bands ∧
    w.issueStep.service = w.service ∧ w.issueStep.keepWet = w.keepWet ∧ w.issueStep.nozzle =
    w.nozzle ∧ w.issueStep.tally = w.tally ∧ w.issueStep.link = w.link ∧ w.issueStep.mode =
    w.mode ∧ w.issueStep.faults = w.faults ∧ w.issueStep.pending = w.pending ∧ w.issueStep.pre =
    w.pre ∧ w.issueStep.cover = w.cover ∧ w.issueStep.guardDue = w.guardDue ∧
    w.issueStep.classes = w.classes ∧ w.issueStep.peersHeard = w.peersHeard := by
  simp only [Work.issueStep]
  (repeat' split) <;> simp

/-- What `countStep` leaves as it was. -/
@[simp] theorem Work.countStep_frame (w : Work) (m : Move) :
    (w.countStep m).ink = w.ink ∧ (w.countStep m).refill = w.refill ∧ (w.countStep m).bands =
    w.bands ∧ (w.countStep m).service = w.service ∧ (w.countStep m).keepWet = w.keepWet ∧
    (w.countStep m).nozzle = w.nozzle ∧ (w.countStep m).tally = w.tally ∧ (w.countStep m).link =
    w.link ∧ (w.countStep m).mode = w.mode ∧ (w.countStep m).faults = w.faults ∧ (w.countStep
    m).pending = w.pending ∧ (w.countStep m).pre = w.pre ∧ (w.countStep m).raised = w.raised ∧
    (w.countStep m).cover = w.cover ∧ (w.countStep m).guardDue = w.guardDue ∧ (w.countStep
    m).classes = w.classes ∧ (w.countStep m).peersHeard = w.peersHeard ∧ (w.countStep
    m).boundary = w.boundary ∧ (w.countStep m).drive = w.drive := by
  simp only [Work.countStep]
  (repeat' split) <;> simp

/-- What `takeStep` leaves as it was. -/
@[simp] theorem Work.takeStep_frame (w : Work) (m : Move) :
    (w.takeStep m).ink = w.ink ∧ (w.takeStep m).refill = w.refill ∧ (w.takeStep m).bands =
    w.bands ∧ (w.takeStep m).service = w.service ∧ (w.takeStep m).keepWet = w.keepWet ∧
    (w.takeStep m).nozzle = w.nozzle ∧ (w.takeStep m).tally = w.tally ∧ (w.takeStep m).link =
    w.link ∧ (w.takeStep m).mode = w.mode ∧ (w.takeStep m).faults = w.faults ∧ (w.takeStep
    m).pending = w.pending ∧ (w.takeStep m).pre = w.pre ∧ (w.takeStep m).cover = w.cover ∧
    (w.takeStep m).guardDue = w.guardDue ∧ (w.takeStep m).classes = w.classes ∧ (w.takeStep
    m).peersHeard = w.peersHeard := by
  simp only [Work.takeStep]
  (repeat' split) <;> simp

/-- What `takeFeed` leaves as it was. -/
@[simp] theorem Work.takeFeed_frame (w : Work) (moveId distance speed : Nat) (eject : Bool) :
    (w.takeFeed moveId distance speed eject).ink = w.ink ∧ (w.takeFeed moveId distance speed
    eject).refill = w.refill ∧ (w.takeFeed moveId distance speed eject).bands = w.bands ∧
    (w.takeFeed moveId distance speed eject).service = w.service ∧ (w.takeFeed moveId distance
    speed eject).keepWet = w.keepWet ∧ (w.takeFeed moveId distance speed eject).nozzle =
    w.nozzle ∧ (w.takeFeed moveId distance speed eject).tally = w.tally ∧ (w.takeFeed moveId
    distance speed eject).link = w.link ∧ (w.takeFeed moveId distance speed eject).mode = w.mode
    ∧ (w.takeFeed moveId distance speed eject).faults = w.faults ∧ (w.takeFeed moveId distance
    speed eject).pending = w.pending ∧ (w.takeFeed moveId distance speed eject).pre = w.pre ∧
    (w.takeFeed moveId distance speed eject).raised = w.raised ∧ (w.takeFeed moveId distance
    speed eject).cover = w.cover ∧ (w.takeFeed moveId distance speed eject).guardDue =
    w.guardDue ∧ (w.takeFeed moveId distance speed eject).classes = w.classes ∧ (w.takeFeed
    moveId distance speed eject).peersHeard = w.peersHeard ∧ (w.takeFeed moveId distance speed
    eject).boundary = w.boundary := by
  simp only [Work.takeFeed]
  (repeat' split) <;> simp

/-- What `takeSheet` leaves as it was. -/
@[simp] theorem Work.takeSheet_frame (w : Work) (r : SheetRecord) :
    (w.takeSheet r).refill = w.refill ∧ (w.takeSheet r).keepWet = w.keepWet ∧ (w.takeSheet
    r).link = w.link ∧ (w.takeSheet r).mode = w.mode ∧ (w.takeSheet r).faults = w.faults ∧
    (w.takeSheet r).pending = w.pending ∧ (w.takeSheet r).pre = w.pre ∧ (w.takeSheet
    r).peersHeard = w.peersHeard := by
  simp only [Work.takeSheet]
  (repeat' split) <;> simp

/-- What `takeAbort` leaves as it was. -/
@[simp] theorem Work.takeAbort_frame (w : Work) :
    w.takeAbort.refill = w.refill ∧ w.takeAbort.keepWet = w.keepWet ∧ w.takeAbort.link = w.link
    ∧ w.takeAbort.mode = w.mode ∧ w.takeAbort.pending = w.pending ∧ w.takeAbort.pre = w.pre ∧
    w.takeAbort.peersHeard = w.peersHeard := by
  simp only [Work.takeAbort]
  (repeat' split) <;> simp

/-- What `estimateSkew` leaves as it was. -/
@[simp] theorem Work.estimateSkew_frame (w : Work) :
    w.estimateSkew.ink = w.ink ∧ w.estimateSkew.refill = w.refill ∧ w.estimateSkew.bands =
    w.bands ∧ w.estimateSkew.service = w.service ∧ w.estimateSkew.keepWet = w.keepWet ∧
    w.estimateSkew.nozzle = w.nozzle ∧ w.estimateSkew.tally = w.tally ∧ w.estimateSkew.link =
    w.link ∧ w.estimateSkew.mode = w.mode ∧ w.estimateSkew.faults = w.faults ∧
    w.estimateSkew.pending = w.pending ∧ w.estimateSkew.pre = w.pre ∧ w.estimateSkew.cover =
    w.cover ∧ w.estimateSkew.guardDue = w.guardDue ∧ w.estimateSkew.classes = w.classes ∧
    w.estimateSkew.peersHeard = w.peersHeard ∧ w.estimateSkew.boundary = w.boundary ∧
    w.estimateSkew.drive = w.drive := by
  simp only [Work.estimateSkew]
  (repeat' split) <;> simp

/-- What `skewTest` leaves as it was. -/
@[simp] theorem Work.skewTest_frame (w : Work) :
    w.skewTest.ink = w.ink ∧ w.skewTest.refill = w.refill ∧ w.skewTest.bands = w.bands ∧
    w.skewTest.service = w.service ∧ w.skewTest.keepWet = w.keepWet ∧ w.skewTest.nozzle =
    w.nozzle ∧ w.skewTest.tally = w.tally ∧ w.skewTest.link = w.link ∧ w.skewTest.mode = w.mode
    ∧ w.skewTest.faults = w.faults ∧ w.skewTest.pending = w.pending ∧ w.skewTest.pre = w.pre ∧
    w.skewTest.cover = w.cover ∧ w.skewTest.guardDue = w.guardDue ∧ w.skewTest.classes =
    w.classes ∧ w.skewTest.peersHeard = w.peersHeard ∧ w.skewTest.boundary = w.boundary ∧
    w.skewTest.drive = w.drive := by
  simp only [Work.skewTest]
  (repeat' split) <;> simp

/-- What `takeLeading` leaves as it was. -/
@[simp] theorem Work.takeLeading_frame (w : Work) :
    w.takeLeading.ink = w.ink ∧ w.takeLeading.refill = w.refill ∧ w.takeLeading.bands = w.bands
    ∧ w.takeLeading.keepWet = w.keepWet ∧ w.takeLeading.nozzle = w.nozzle ∧ w.takeLeading.mode =
    w.mode ∧ w.takeLeading.faults = w.faults ∧ w.takeLeading.pending = w.pending ∧
    w.takeLeading.pre = w.pre ∧ w.takeLeading.cover = w.cover ∧ w.takeLeading.peersHeard =
    w.peersHeard := by
  simp only [Work.takeLeading]
  (repeat' split) <;> simp

/-- What `takeTrailing` leaves as it was. -/
@[simp] theorem Work.takeTrailing_frame (w : Work) :
    w.takeTrailing.ink = w.ink ∧ w.takeTrailing.refill = w.refill ∧ w.takeTrailing.bands =
    w.bands ∧ w.takeTrailing.keepWet = w.keepWet ∧ w.takeTrailing.nozzle = w.nozzle ∧
    w.takeTrailing.mode = w.mode ∧ w.takeTrailing.faults = w.faults ∧ w.takeTrailing.pending =
    w.pending ∧ w.takeTrailing.pre = w.pre ∧ w.takeTrailing.cover = w.cover ∧
    w.takeTrailing.peersHeard = w.peersHeard := by
  simp only [Work.takeTrailing]
  (repeat' split) <;> simp

/-- What `linkError` leaves as it was. -/
@[simp] theorem Work.linkError_frame (w : Work) :
    w.linkError.ink = w.ink ∧ w.linkError.refill = w.refill ∧ w.linkError.bands = w.bands ∧
    w.linkError.feed = w.feed ∧ w.linkError.service = w.service ∧ w.linkError.keepWet =
    w.keepWet ∧ w.linkError.nozzle = w.nozzle ∧ w.linkError.tally = w.tally ∧ w.linkError.mode =
    w.mode ∧ w.linkError.faults = w.faults ∧ w.linkError.pending = w.pending ∧ w.linkError.pre =
    w.pre ∧ w.linkError.cover = w.cover ∧ w.linkError.guardDue = w.guardDue ∧
    w.linkError.classes = w.classes ∧ w.linkError.peersHeard = w.peersHeard ∧
    w.linkError.boundary = w.boundary ∧ w.linkError.drive = w.drive := by
  simp only [Work.linkError]
  (repeat' split) <;> simp

/-- What `hearPeer` leaves as it was. -/
@[simp] theorem Work.hearPeer_frame (w : Work) (n : StationNo) (f : PeerStatus) :
    (w.hearPeer n f).ink = w.ink ∧ (w.hearPeer n f).refill = w.refill ∧ (w.hearPeer n f).bands =
    w.bands ∧ (w.hearPeer n f).service = w.service ∧ (w.hearPeer n f).keepWet = w.keepWet ∧
    (w.hearPeer n f).nozzle = w.nozzle ∧ (w.hearPeer n f).tally = w.tally ∧ (w.hearPeer n
    f).mode = w.mode ∧ (w.hearPeer n f).faults = w.faults ∧ (w.hearPeer n f).pending = w.pending
    ∧ (w.hearPeer n f).pre = w.pre ∧ (w.hearPeer n f).cover = w.cover ∧ (w.hearPeer n
    f).guardDue = w.guardDue ∧ (w.hearPeer n f).classes = w.classes ∧ (w.hearPeer n f).boundary
    = w.boundary := by
  simp only [Work.hearPeer]
  (repeat' split) <;> simp

/-- What `losePeer` leaves as it was. -/
@[simp] theorem Work.losePeer_frame (w : Work) (n : StationNo) :
    (w.losePeer n).ink = w.ink ∧ (w.losePeer n).refill = w.refill ∧ (w.losePeer n).bands =
    w.bands ∧ (w.losePeer n).feed = w.feed ∧ (w.losePeer n).service = w.service ∧ (w.losePeer
    n).keepWet = w.keepWet ∧ (w.losePeer n).nozzle = w.nozzle ∧ (w.losePeer n).tally = w.tally ∧
    (w.losePeer n).mode = w.mode ∧ (w.losePeer n).faults = w.faults ∧ (w.losePeer n).pending =
    w.pending ∧ (w.losePeer n).pre = w.pre ∧ (w.losePeer n).cover = w.cover ∧ (w.losePeer
    n).guardDue = w.guardDue ∧ (w.losePeer n).classes = w.classes ∧ (w.losePeer n).boundary =
    w.boundary := by
  simp only [Work.losePeer]
  (repeat' split) <;> simp

/-- What `losePeers` leaves as it was. -/
@[simp] theorem Work.losePeers_frame (w : Work) (stations : StationSet) :
    (w.losePeers stations).ink = w.ink ∧ (w.losePeers stations).refill = w.refill ∧ (w.losePeers
    stations).bands = w.bands ∧ (w.losePeers stations).feed = w.feed ∧ (w.losePeers
    stations).service = w.service ∧ (w.losePeers stations).keepWet = w.keepWet ∧ (w.losePeers
    stations).nozzle = w.nozzle ∧ (w.losePeers stations).tally = w.tally ∧ (w.losePeers
    stations).mode = w.mode ∧ (w.losePeers stations).faults = w.faults ∧ (w.losePeers
    stations).pending = w.pending ∧ (w.losePeers stations).pre = w.pre ∧ (w.losePeers
    stations).cover = w.cover ∧ (w.losePeers stations).guardDue = w.guardDue ∧ (w.losePeers
    stations).classes = w.classes ∧ (w.losePeers stations).boundary = w.boundary := by
  have h := foldl_keeps
    (fun w n => if stations.get n && w.peerDue n then w.losePeer n else w : Work → _ → Work)
    (fun w : Work => (w.ink, w.refill, w.bands, w.feed, w.service, w.keepWet, w.nozzle,
      w.tally, w.mode, w.faults, w.pending, w.pre, w.cover, w.guardDue, w.classes,
      w.boundary))
    (fun b a => by (try dsimp only); (try split) <;> simp)
  simp only [Prod.mk.injEq] at h
  exact h _ _

/-- What `loseController` leaves as it was. -/
@[simp] theorem Work.loseController_frame (w : Work) :
    w.loseController.ink = w.ink ∧ w.loseController.refill = w.refill ∧ w.loseController.bands =
    w.bands ∧ w.loseController.feed = w.feed ∧ w.loseController.keepWet = w.keepWet ∧
    w.loseController.nozzle = w.nozzle ∧ w.loseController.tally = w.tally ∧
    w.loseController.mode = w.mode ∧ w.loseController.faults = w.faults ∧
    w.loseController.pending = w.pending ∧ w.loseController.pre = w.pre ∧ w.loseController.cover
    = w.cover ∧ w.loseController.guardDue = w.guardDue := by
  simp only [Work.loseController]
  (repeat' split) <;> simp

/-- What `hearBeacon` leaves as it was. -/
@[simp] theorem Work.hearBeacon_frame (w : Work) (stopping : Bool) :
    (w.hearBeacon stopping).ink = w.ink ∧ (w.hearBeacon stopping).refill = w.refill ∧
    (w.hearBeacon stopping).bands = w.bands ∧ (w.hearBeacon stopping).feed = w.feed ∧
    (w.hearBeacon stopping).keepWet = w.keepWet ∧ (w.hearBeacon stopping).nozzle = w.nozzle ∧
    (w.hearBeacon stopping).tally = w.tally ∧ (w.hearBeacon stopping).mode = w.mode ∧
    (w.hearBeacon stopping).faults = w.faults ∧ (w.hearBeacon stopping).pending = w.pending ∧
    (w.hearBeacon stopping).pre = w.pre ∧ (w.hearBeacon stopping).cover = w.cover ∧
    (w.hearBeacon stopping).guardDue = w.guardDue := by
  simp only [Work.hearBeacon]
  (repeat' split) <;> simp

/-- What `partSent` leaves as it was. -/
@[simp] theorem Work.partSent_frame (w : Work) :
    w.partSent.ink = w.ink ∧ w.partSent.refill = w.refill ∧ w.partSent.bands = w.bands ∧
    w.partSent.feed = w.feed ∧ w.partSent.service = w.service ∧ w.partSent.keepWet = w.keepWet ∧
    w.partSent.nozzle = w.nozzle ∧ w.partSent.mode = w.mode ∧ w.partSent.faults = w.faults ∧
    w.partSent.pending = w.pending ∧ w.partSent.pre = w.pre ∧ w.partSent.raised = w.raised ∧
    w.partSent.cover = w.cover ∧ w.partSent.guardDue = w.guardDue ∧ w.partSent.classes =
    w.classes ∧ w.partSent.peersHeard = w.peersHeard ∧ w.partSent.boundary = w.boundary ∧
    w.partSent.drive = w.drive := by
  simp only [Work.partSent]
  (repeat' split) <;> simp

/-- What `endFrame` leaves as it was. -/
@[simp] theorem Work.endFrame_frame (w : Work) (t : TxFrame) :
    (w.endFrame t).ink = w.ink ∧ (w.endFrame t).refill = w.refill ∧ (w.endFrame t).bands =
    w.bands ∧ (w.endFrame t).feed = w.feed ∧ (w.endFrame t).service = w.service ∧ (w.endFrame
    t).keepWet = w.keepWet ∧ (w.endFrame t).mode = w.mode ∧ (w.endFrame t).pending = w.pending ∧
    (w.endFrame t).pre = w.pre ∧ (w.endFrame t).raised = w.raised ∧ (w.endFrame t).cover =
    w.cover ∧ (w.endFrame t).guardDue = w.guardDue ∧ (w.endFrame t).classes = w.classes ∧
    (w.endFrame t).peersHeard = w.peersHeard ∧ (w.endFrame t).boundary = w.boundary ∧
    (w.endFrame t).drive = w.drive := by
  simp only [Work.endFrame]
  (repeat' split) <;> simp

/-- What `beginFrame` leaves as it was. -/
@[simp] theorem Work.beginFrame_frame (w : Work) (t : Slot) :
    (w.beginFrame t).ink = w.ink ∧ (w.beginFrame t).refill = w.refill ∧ (w.beginFrame t).bands =
    w.bands ∧ (w.beginFrame t).feed = w.feed ∧ (w.beginFrame t).service = w.service ∧
    (w.beginFrame t).keepWet = w.keepWet ∧ (w.beginFrame t).nozzle = w.nozzle ∧ (w.beginFrame
    t).tally = w.tally ∧ (w.beginFrame t).mode = w.mode ∧ (w.beginFrame t).faults = w.faults ∧
    (w.beginFrame t).pending = w.pending ∧ (w.beginFrame t).pre = w.pre ∧ (w.beginFrame
    t).raised = w.raised ∧ (w.beginFrame t).cover = w.cover ∧ (w.beginFrame t).guardDue =
    w.guardDue ∧ (w.beginFrame t).classes = w.classes ∧ (w.beginFrame t).peersHeard =
    w.peersHeard ∧ (w.beginFrame t).boundary = w.boundary ∧ (w.beginFrame t).drive = w.drive := by
  simp only [Work.beginFrame]
  (repeat' split) <;> simp

/-- What `startLink` leaves as it was. -/
@[simp] theorem Work.startLink_frame (w : Work) :
    w.startLink.ink = w.ink ∧ w.startLink.refill = w.refill ∧ w.startLink.bands = w.bands ∧
    w.startLink.feed = w.feed ∧ w.startLink.keepWet = w.keepWet ∧ w.startLink.nozzle = w.nozzle
    ∧ w.startLink.tally = w.tally ∧ w.startLink.mode = w.mode ∧ w.startLink.faults = w.faults ∧
    w.startLink.pending = w.pending ∧ w.startLink.pre = w.pre ∧ w.startLink.cover = w.cover ∧
    w.startLink.guardDue = w.guardDue := by
  simp only [Work.startLink]
  (repeat' split) <;> simp

/-- What `clearParts` leaves as it was. -/
@[simp] theorem Work.clearParts_frame (w : Work) (faults : Bool) (ladders starved : ChannelSet) :
    (w.clearParts faults ladders starved).ink = w.ink ∧ (w.clearParts faults ladders
    starved).bands = w.bands ∧ (w.clearParts faults ladders starved).feed = w.feed ∧
    (w.clearParts faults ladders starved).keepWet = w.keepWet ∧ (w.clearParts faults ladders
    starved).tally = w.tally ∧ (w.clearParts faults ladders starved).link = w.link ∧
    (w.clearParts faults ladders starved).mode = w.mode ∧ (w.clearParts faults ladders
    starved).pending = w.pending ∧ (w.clearParts faults ladders starved).pre = w.pre ∧
    (w.clearParts faults ladders starved).cover = w.cover ∧ (w.clearParts faults ladders
    starved).guardDue = w.guardDue ∧ (w.clearParts faults ladders starved).peersHeard =
    w.peersHeard := by
  simp only [Work.clearParts]
  (repeat' split) <;> simp

/-- What `takeClear` leaves as it was. -/
@[simp] theorem Work.takeClear_frame (w : Work) (ref : Nat) (faults : Bool) (ladders starved : ChannelSet) :
    (w.takeClear ref faults ladders starved).ink = w.ink ∧ (w.takeClear ref faults ladders
    starved).bands = w.bands ∧ (w.takeClear ref faults ladders starved).feed = w.feed ∧
    (w.takeClear ref faults ladders starved).keepWet = w.keepWet ∧ (w.takeClear ref faults
    ladders starved).tally = w.tally ∧ (w.takeClear ref faults ladders starved).mode = w.mode ∧
    (w.takeClear ref faults ladders starved).pending = w.pending ∧ (w.takeClear ref faults
    ladders starved).pre = w.pre ∧ (w.takeClear ref faults ladders starved).cover = w.cover ∧
    (w.takeClear ref faults ladders starved).guardDue = w.guardDue ∧ (w.takeClear ref faults
    ladders starved).peersHeard = w.peersHeard := by
  simp only [Work.takeClear]
  (repeat' split) <;> simp

/-- What `takeSection` leaves as it was. -/
@[simp] theorem Work.takeSection_frame (w : Work) (ref : Nat) (m : ModeControl) (clamped : Bool) :
    (w.takeSection ref m clamped).ink = w.ink ∧ (w.takeSection ref m clamped).refill = w.refill
    ∧ (w.takeSection ref m clamped).bands = w.bands ∧ (w.takeSection ref m clamped).feed =
    w.feed ∧ (w.takeSection ref m clamped).service = w.service ∧ (w.takeSection ref m
    clamped).keepWet = w.keepWet ∧ (w.takeSection ref m clamped).nozzle = w.nozzle ∧
    (w.takeSection ref m clamped).tally = w.tally ∧ (w.takeSection ref m clamped).faults =
    w.faults ∧ (w.takeSection ref m clamped).pending = w.pending ∧ (w.takeSection ref m
    clamped).pre = w.pre ∧ (w.takeSection ref m clamped).raised = w.raised ∧ (w.takeSection ref
    m clamped).cover = w.cover ∧ (w.takeSection ref m clamped).guardDue = w.guardDue ∧
    (w.takeSection ref m clamped).classes = w.classes ∧ (w.takeSection ref m clamped).peersHeard
    = w.peersHeard ∧ (w.takeSection ref m clamped).boundary = w.boundary ∧ (w.takeSection ref m
    clamped).drive = w.drive := by
  simp only [Work.takeSection]
  (repeat' split) <;> simp

/-- What `enterRun` leaves as it was. -/
@[simp] theorem Work.enterRun_frame (w : Work) :
    w.enterRun.ink = w.ink ∧ w.enterRun.refill = w.refill ∧ w.enterRun.bands = w.bands ∧
    w.enterRun.feed = w.feed ∧ w.enterRun.keepWet = w.keepWet ∧ w.enterRun.nozzle = w.nozzle ∧
    w.enterRun.link = w.link ∧ w.enterRun.faults = w.faults ∧ w.enterRun.pending = w.pending ∧
    w.enterRun.pre = w.pre ∧ w.enterRun.raised = w.raised ∧ w.enterRun.peersHeard = w.peersHeard := by
  simp only [Work.enterRun]
  (repeat' split) <;> simp

/-- What `takeStart` leaves as it was. -/
@[simp] theorem Work.takeStart_frame (w : Work) :
    w.takeStart.feed = w.feed ∧ w.takeStart.faults = w.faults ∧ w.takeStart.pending = w.pending
    ∧ w.takeStart.pre = w.pre := by
  have h := fun was => foldl_keeps
    (fun v c => v.startInk (PerChannel.get was c) c : Work → _ → Work)
    (fun w : Work => (w.feed, w.faults, w.pending, w.pre))
    (fun b a => by simp)
  simp only [Prod.mk.injEq] at h
  simp [Work.takeStart, h]

/-- What `takeRestart` leaves as it was. -/
@[simp] theorem Work.takeRestart_frame (w : Work) (straps : StationNo) :
    (w.takeRestart straps).ink = w.ink ∧ (w.takeRestart straps).pending = w.pending ∧
    (w.takeRestart straps).pre = w.pre ∧ (w.takeRestart straps).raised = w.raised ∧
    (w.takeRestart straps).cover = w.cover ∧ (w.takeRestart straps).guardDue = w.guardDue ∧
    (w.takeRestart straps).peersHeard = w.peersHeard ∧ (w.takeRestart straps).boundary =
    w.boundary := by
  simp only [Work.takeRestart]
  (repeat' split) <;> simp

/-- What `enterHalted` leaves as it was. -/
@[simp] theorem Work.enterHalted_frame (w : Work) :
    w.enterHalted.ink = w.ink ∧ w.enterHalted.bands = w.bands ∧ w.enterHalted.service =
    w.service ∧ w.enterHalted.nozzle = w.nozzle ∧ w.enterHalted.tally = w.tally ∧
    w.enterHalted.link = w.link ∧ w.enterHalted.faults = w.faults ∧ w.enterHalted.pending =
    w.pending ∧ w.enterHalted.pre = w.pre ∧ w.enterHalted.cover = w.cover ∧
    w.enterHalted.guardDue = w.guardDue ∧ w.enterHalted.peersHeard = w.peersHeard := by
  simp only [Work.enterHalted]
  (repeat' split) <;> simp

/-- What `hearOwnNumber` leaves as it was. -/
@[simp] theorem Work.hearOwnNumber_frame (w : Work) :
    w.hearOwnNumber.ink = w.ink ∧ w.hearOwnNumber.bands = w.bands ∧ w.hearOwnNumber.service =
    w.service ∧ w.hearOwnNumber.nozzle = w.nozzle ∧ w.hearOwnNumber.tally = w.tally ∧
    w.hearOwnNumber.link = w.link ∧ w.hearOwnNumber.faults = w.faults ∧ w.hearOwnNumber.pending
    = w.pending ∧ w.hearOwnNumber.pre = w.pre ∧ w.hearOwnNumber.cover = w.cover ∧
    w.hearOwnNumber.guardDue = w.guardDue ∧ w.hearOwnNumber.peersHeard = w.peersHeard := by
  simp only [Work.hearOwnNumber]
  (repeat' split) <;> simp

/-- What `markRefill` leaves as it was. -/
@[simp] theorem Work.markRefill_frame (w : Work) (c : Channel) (m : MarkName) (wet : Bool) :
    (w.markRefill c m wet).ink = w.ink ∧ (w.markRefill c m wet).bands = w.bands ∧ (w.markRefill
    c m wet).feed = w.feed ∧ (w.markRefill c m wet).service = w.service ∧ (w.markRefill c m
    wet).keepWet = w.keepWet ∧ (w.markRefill c m wet).nozzle = w.nozzle ∧ (w.markRefill c m
    wet).tally = w.tally ∧ (w.markRefill c m wet).link = w.link ∧ (w.markRefill c m wet).mode =
    w.mode ∧ (w.markRefill c m wet).faults = w.faults ∧ (w.markRefill c m wet).pending =
    w.pending ∧ (w.markRefill c m wet).pre = w.pre ∧ (w.markRefill c m wet).raised = w.raised ∧
    (w.markRefill c m wet).cover = w.cover ∧ (w.markRefill c m wet).guardDue = w.guardDue ∧
    (w.markRefill c m wet).peersHeard = w.peersHeard ∧ (w.markRefill c m wet).boundary =
    w.boundary ∧ (w.markRefill c m wet).drive = w.drive := by
  simp only [Work.markRefill]
  (repeat' split) <;> simp

/-- What `arriveAt` leaves as it was. -/
@[simp] theorem Work.arriveAt_frame (w : Work) (p : SledPlace) :
    (w.arriveAt p).feed = w.feed ∧ (w.arriveAt p).mode = w.mode ∧ (w.arriveAt p).faults =
    w.faults ∧ (w.arriveAt p).pending = w.pending ∧ (w.arriveAt p).pre = w.pre ∧ (w.arriveAt
    p).peersHeard = w.peersHeard := by
  simp only [Work.arriveAt]
  (repeat' split) <;> simp

/-- What `coverStage` leaves as it was. -/
@[simp] theorem Work.coverStage_frame (w : Work) :
    w.coverStage.ink = w.ink ∧ w.coverStage.refill = w.refill ∧ w.coverStage.feed = w.feed ∧
    w.coverStage.service = w.service ∧ w.coverStage.keepWet = w.keepWet ∧ w.coverStage.nozzle =
    w.nozzle ∧ w.coverStage.tally = w.tally ∧ w.coverStage.link = w.link ∧ w.coverStage.mode =
    w.mode ∧ w.coverStage.faults = w.faults ∧ w.coverStage.pending = w.pending ∧
    w.coverStage.pre = w.pre ∧ w.coverStage.raised = w.raised ∧ w.coverStage.cover = w.cover ∧
    w.coverStage.classes = w.classes ∧ w.coverStage.peersHeard = w.peersHeard ∧
    w.coverStage.boundary = w.boundary ∧ w.coverStage.drive = w.drive := by
  simp only [Work.coverStage]
  (repeat' split) <;> simp

/-- What `guardStage` leaves as it was. -/
@[simp] theorem Work.guardStage_frame (w : Work) :
    w.guardStage.ink = w.ink ∧ w.guardStage.refill = w.refill ∧ w.guardStage.feed = w.feed ∧
    w.guardStage.service = w.service ∧ w.guardStage.keepWet = w.keepWet ∧ w.guardStage.nozzle =
    w.nozzle ∧ w.guardStage.tally = w.tally ∧ w.guardStage.link = w.link ∧ w.guardStage.mode =
    w.mode ∧ w.guardStage.faults = w.faults ∧ w.guardStage.pending = w.pending ∧
    w.guardStage.pre = w.pre ∧ w.guardStage.raised = w.raised ∧ w.guardStage.cover = w.cover ∧
    w.guardStage.guardDue = w.guardDue ∧ w.guardStage.classes = w.classes ∧
    w.guardStage.peersHeard = w.peersHeard ∧ w.guardStage.boundary = w.boundary := by
  simp only [Work.guardStage]
  (repeat' split) <;> simp

/-- What `settle` leaves as it was. -/
@[simp] theorem Work.settle_frame (w : Work) :
    w.settle.mode = w.mode ∧ w.settle.pending = w.pending ∧ w.settle.pre = w.pre ∧
    w.settle.peersHeard = w.peersHeard := by
  simp only [Work.settle]
  (repeat' split) <;> simp

end Sys2Proof.Machine
end

