-- ==== Sys2Proof/Laws/Stages.lean ====
section
/-! SUPPORT. The stages of the end of an event: each is the identity where the event did not call for it,
and what the arbiter's choice leaves as it was however long it runs. -/

namespace Sys2Proof.Machine

/-! ### Stages that the event did not call for -/

theorem Work.overfillTest_same {w : Work} (h : w.ink = w.pre.ink) (c : Channel) :
    w.overfillTest c = w := by simp [Work.overfillTest, h]

theorem Work.overfillTests_same {w : Work} (h : w.ink = w.pre.ink) : w.overfillTests = w := by
  simp [Work.overfillTests, Channel.all, Work.overfillTest_same h]

theorem Work.faultStage_none {w : Work} (h : w.raised = []) : w.faultStage = w := by
  simp [Work.faultStage, h, priorityOrder]

theorem Work.coverStage_off {w : Work} (h : w.cover = false) : w.coverStage = w := by
  simp [Work.coverStage, h]

theorem Work.guardStage_off {w : Work} (h : w.guardDue = false) : w.guardStage = w := by
  simp [Work.guardStage, h]

theorem Work.purgeInkMoved_same {w : Work} (h : w.ink = w.pre.ink) : w.purgeInkMoved = false := by
  simp [Work.purgeInkMoved, h]

theorem Work.arbiterStage_off {w : Work} (h : w.boundary = false) (hi : w.ink = w.pre.ink) :
    w.arbiterStage = w := by
  simp [Work.arbiterStage, h, Work.purgeInkMoved_same hi]

theorem Work.refillStage_off {w : Work} (h : w.classes = false) (hp : w.peersHeard = false) :
    w.refillStage = w := by
  unfold Work.refillStage
  rw [if_neg (by simp [h, hp])]

theorem Work.driveStage_off {w : Work} (h : w.drive = false) : w.driveStage = w := by
  unfold Work.driveStage
  rw [if_neg (by simp [h])]

/-- An event that calls for nothing at its end is settled as its body left it. -/
theorem Work.settle_quiet {w : Work} (hi : w.ink = w.pre.ink) (hr : w.raised = [])
    (hc : w.cover = false) (hg : w.guardDue = false) (hl : w.classes = false)
    (hp : w.peersHeard = false) (hb : w.boundary = false) (hd : w.drive = false) :
    w.settle = w := by
  simp [Work.settle, Work.overfillTests_same hi, Work.faultStage_none hr, Work.coverStage_off hc,
    Work.guardStage_off hg, Work.arbiterStage_off hb hi, Work.refillStage_off hl hp,
    Work.driveStage_off hd]

/-- An event that calls for the FHOLD drive alone. -/
theorem Work.settle_drive {w : Work} (hi : w.ink = w.pre.ink) (hr : w.raised = [])
    (hc : w.cover = false) (hg : w.guardDue = false) (hl : w.classes = false)
    (hp : w.peersHeard = false) (hb : w.boundary = false) : w.settle = w.driveStage := by
  simp [Work.settle, Work.overfillTests_same hi, Work.faultStage_none hr, Work.coverStage_off hc,
    Work.guardStage_off hg, Work.arbiterStage_off hb hi, Work.refillStage_off hl hp]

/-- Nothing early is asked for between states that agree on the guard line, the refill channels and the
move. -/
theorem earlyChange_eq {a b : State} (hg : a.bands.guard = b.bands.guard) (hr : a.refill = b.refill)
    (hm : a.feed.move = b.feed.move) : earlyChange a b = false := by
  simp [earlyChange, hg, State.valveOpen, hr, State.moveState, hm]

theorem Work.earlyStage_off {w : Work} (h : earlyChange w.pre w.toState = false) :
    w.earlyStage = w := by simp [Work.earlyStage, h]

/-- An event that calls for nothing at its end and leaves the guard line, the refill channels and the move
as they were ends in the state its body left. -/
theorem Work.finish_quiet {w : Work} (hi : w.ink = w.pre.ink) (hr : w.raised = [])
    (hc : w.cover = false) (hg : w.guardDue = false) (hl : w.classes = false)
    (hp : w.peersHeard = false) (hb : w.boundary = false) (hd : w.drive = false)
    (eg : w.pre.bands.guard = w.bands.guard) (er : w.pre.refill = w.refill)
    (em : w.pre.feed.move = w.feed.move) : w.finish = w.toState := by
  simp [Work.finish, Work.settle_quiet hi hr hc hg hl hp hb hd,
    Work.earlyStage_off (earlyChange_eq eg er em)]

/-- The early request changes the early mark and the due mark of the STATUS slot alone. -/
@[simp] theorem Link.requestEarly_frame (l : Link) :
    l.requestEarly.errors = l.errors ∧ l.requestEarly.errorWindow = l.errorWindow
      ∧ l.requestEarly.faultSlot = l.faultSlot ∧ l.requestEarly.nozzleSlot = l.nozzleSlot
      ∧ l.requestEarly.reportSlot = l.reportSlot ∧ l.requestEarly.periodCount = l.periodCount
      ∧ l.requestEarly.spacingCount = l.spacingCount ∧ l.requestEarly.peers = l.peers
      ∧ l.requestEarly.controller = l.controller ∧ l.requestEarly.outcome = l.outcome
      ∧ l.requestEarly.tx = l.tx := ⟨rfl, rfl, rfl, rfl, rfl, rfl, rfl, rfl, rfl, rfl, rfl⟩

/-! ### The arbiter's choice -/

/-- The ends of an action that hand nothing to ink metering or nozzle health. -/
def Action.plain : Action → Bool
  | .home | .uncap | .cap | .wipe => true
  | .gapSpit | .sheetSpit | .check _ | .purge _ _ => false

/-- What the arbiter's choice reads of the other blocks and never changes. -/
def Work.others (w : Work) :=
  (w.ink, w.bands, w.tally, w.link, w.raised, w.cover, w.guardDue)

theorem Work.complete_others {w : Work}
    (h : ∀ a, w.service.current = some a → a.action.plain = true) :
    w.complete.others = w.others := by
  simp only [Work.complete]
  split
  · rfl
  · rename_i a ha
    have := h a ha
    revert this
    cases a.action <;> simp [Action.plain, Work.others]

@[simp] theorem Work.commandSled_current (w : Work) (p : SledPlace) :
    (w.commandSled p).service.current = w.service.current := by
  simp only [Work.commandSled]; split <;> rfl

@[simp] theorem Work.setStage_current (w : Work) (g : Stage) :
    (w.setStage g).service.current = w.service.current.map fun a => { a with stage := g } := rfl

theorem Work.goPark_others {w : Work}
    (h : ∀ a, w.service.current = some a → a.action.plain = true) : w.goPark.others = w.others := by
  simp only [Work.goPark]
  split
  · rw [Work.complete_others]
    · simp [Work.others]
    · intro a ha
      simp only [Work.commandSled_current, Work.setStage_current, Option.map_eq_some_iff] at ha
      obtain ⟨b, hb, rfl⟩ := ha
      exact h b hb
  · simp [Work.others]

theorem Work.reached_others {w : Work}
    (h : ∀ a, w.service.current = some a → a.stage = .outbound) : w.reached.others = w.others := by
  simp only [Work.reached]
  split
  · rfl
  · rename_i a ha
    have hs := h a ha
    rw [hs]
    dsimp only
    split
    all_goals first
      | (rw [Work.complete_others]
         intro b hb
         rw [ha] at hb
         cases hb
         simp_all [Action.plain])
      | (rw [Work.goPark_others]
         · rfl
         · intro b hb
           simp only [ha] at hb
           cases hb
           simp_all [Action.plain])
      | simp [Work.others]

theorem Work.firstLeg_others {w : Work} (p : SledPlace)
    (h : ∀ a, w.service.current = some a → a.stage = .outbound) :
    (w.firstLeg p).others = w.others := by
  simp only [Work.firstLeg]
  split
  · rw [Work.reached_others (by simpa using h)]
    simp [Work.others]
  · simp [Work.others]

theorem Work.startAction_others (w : Work) (a : Action) : (w.startAction a).others = w.others := by
  cases a <;> simp only [Work.startAction]
  case sheetSpit => simp [Work.others]
  all_goals
    rw [Work.firstLeg_others]
    · simp [Work.others]
    · intro b hb
      cases (show some _ = some b from hb)
      rfl

theorem Work.beginSource_others (w : Work) (src : Source) :
    (w.beginSource src).others = w.others := by
  simp only [Work.beginSource]
  split
  · rfl
  · split
    · exact Work.startAction_others _ _
    · rw [Work.startAction_others]
      simp [Work.others]

theorem Work.arbitrate_others (n : Nat) (w : Work) : (Work.arbitrate n w).others = w.others := by
  induction n generalizing w with
  | zero => rfl
  | succ n ih =>
    simp only [Work.arbitrate]
    have hb : ∀ v : Work, ∀ a, (v.beginTop a).others = v.others := by
      intro v a
      simp only [Work.beginTop]
      split <;> exact Work.startAction_others _ _
    have hq : ∀ v : Work, ∀ s, (v.request s).others = v.others := fun _ _ => rfl
    have hs : ∀ v : Work, v.screenRecovery.others = v.others := fun v => by simp [Work.others]
    (repeat' split) <;> simp only [ih, hb, Work.beginSource_others, hq, hs]

/-- The arbiter's choice leaves ink metering, the band queue, the tallies, the link and the faults raised as
they were: nothing that starts at a boundary has a completion that reaches them. -/
@[simp] theorem Work.arbiterStage_others (w : Work) :
    w.arbiterStage.ink = w.ink ∧ w.arbiterStage.bands = w.bands ∧ w.arbiterStage.tally = w.tally
      ∧ w.arbiterStage.link = w.link ∧ w.arbiterStage.raised = w.raised
      ∧ w.arbiterStage.cover = w.cover ∧ w.arbiterStage.guardDue = w.guardDue := by
  have h : w.arbiterStage.others = w.others := by
    simp only [Work.arbiterStage]
    have ha := Work.arbitrate_others 16 w
    split
    · split
      · exact ha
      · rw [← ha]; rfl
    · rfl
  simpa [Work.others] using h

/-- What the end of an event leaves as its body left it, whatever it calls for. -/
@[simp] theorem Work.settle_others (w : Work) : w.settle.ink = w.ink ∧ w.settle.tally = w.tally := by
  simp [Work.settle]

end Sys2Proof.Machine
end

