-- ==== Sys2Proof/Laws/Events.lean ====
section
/-! SUPPORT. An event as a whole: how a command's meaning answers, and what the end of an event leaves of
each block as its body left it. -/

namespace Sys2Proof.Machine

/-! ### How an event answers -/

theorem event_live {s : State} (h : s.mode.resetPin = false) (b : Work → Work) :
    event s b = .next (b (Work.begin s)).finish := by simp [event, h]

theorem event_held {s : State} (h : s.mode.resetPin = true) (b : Work → Work) :
    event s b = .next s := by simp [event, h]

/-- An event's outcome: the state itself under the RESET pin, else what its body and its end make. -/
theorem event_next {s t : State} {b : Work → Work} (h : event s b = .next t) :
    s.mode.resetPin = true ∧ t = s
      ∨ s.mode.resetPin = false ∧ t = (b (Work.begin s)).finish := by
  cases hp : s.mode.resetPin
  · rw [event_live hp] at h; exact .inr ⟨rfl, (Host.Outcome.next.inj h).symm⟩
  · rw [event_held hp] at h; exact .inl ⟨rfl, (Host.Outcome.next.inj h).symm⟩

@[simp] theorem Work.begin_state (s : State) : (Work.begin s).toState = s := rfl
@[simp] theorem Work.begin_pre (s : State) : (Work.begin s).pre = s := rfl
@[simp] theorem Work.begin_marks (s : State) :
    (Work.begin s).raised = [] ∧ (Work.begin s).cover = false ∧ (Work.begin s).guardDue = false
      ∧ (Work.begin s).classes = false ∧ (Work.begin s).peersHeard = false
      ∧ (Work.begin s).boundary = false ∧ (Work.begin s).drive = false :=
  ⟨rfl, rfl, rfl, rfl, rfl, rfl, rfl⟩

/-! ### Level marks and their lines (R3) -/

@[simp] theorem InkChannel.mark_putMark_same (x : InkChannel) (m : MarkName) (k : Mark) :
    (x.putMark m k).mark m = k := by cases m <;> rfl

@[simp] theorem InkChannel.putMark_fields (x : InkChannel) (m : MarkName) (k : Mark) :
    (x.putMark m k).estimate = x.estimate ∧ (x.putMark m k).residue = x.residue
      ∧ (x.putMark m k).state = x.state := by cases m <;> exact ⟨rfl, rfl, rfl⟩

@[simp] theorem InkChannel.settleMark_fields (x : InkChannel) (m : MarkName) (wet : Bool) :
    (x.settleMark m wet).estimate = x.estimate ∧ (x.settleMark m wet).residue = x.residue
      ∧ (x.settleMark m wet).state = x.state := by simp [InkChannel.settleMark]

@[simp] theorem InkChannel.settleMark_state (x : InkChannel) (m : MarkName) (wet : Bool) :
    ((x.settleMark m wet).mark m).state = markReading wet := by simp [InkChannel.settleMark]

/-- A level line moves its own raw reading alone. -/
theorem State.markLine_raw (s : State) (c : Channel) (m : MarkName) (wet : Bool) :
    ((s.markLine c m wet).ink.get c).mark m = { (s.ink.get c).mark m with raw := wet } := by
  simp [State.markLine]

/-- What a level line leaves as it was. -/
@[simp] theorem State.markLine_frame (s : State) (c : Channel) (m : MarkName) (wet : Bool) :
    (s.markLine c m wet).refill = s.refill ∧ (s.markLine c m wet).bands = s.bands
      ∧ (s.markLine c m wet).feed = s.feed ∧ (s.markLine c m wet).service = s.service
      ∧ (s.markLine c m wet).keepWet = s.keepWet ∧ (s.markLine c m wet).nozzle = s.nozzle
      ∧ (s.markLine c m wet).tally = s.tally ∧ (s.markLine c m wet).link = s.link
      ∧ (s.markLine c m wet).mode = s.mode ∧ (s.markLine c m wet).faults = s.faults
      ∧ (s.markLine c m wet).pending = s.pending :=
  ⟨rfl, rfl, rfl, rfl, rfl, rfl, rfl, rfl, rfl, rfl, rfl⟩

/-! ### What the end of an event leaves -/

theorem Work.finish_eq (w : Work) :
    w.finish = { w.settle.toState with
      link := if earlyChange w.settle.pre w.settle.toState then w.settle.link.requestEarly
        else w.settle.link } := rfl

/-- The early request is all that follows the settling of an event. -/
theorem Work.finish_settled (w : Work) :
    w.finish.ink = w.settle.ink ∧ w.finish.refill = w.settle.refill
      ∧ w.finish.bands = w.settle.bands ∧ w.finish.feed = w.settle.feed
      ∧ w.finish.service = w.settle.service ∧ w.finish.keepWet = w.settle.keepWet
      ∧ w.finish.nozzle = w.settle.nozzle ∧ w.finish.tally = w.settle.tally
      ∧ w.finish.mode = w.settle.mode ∧ w.finish.faults = w.settle.faults
      ∧ w.finish.pending = w.settle.pending := by
  simp only [Work.finish, Work.earlyStage_frame, and_self]

/-- The blocks that no stage of the end of an event touches. -/
@[simp] theorem Work.finish_frame (w : Work) :
    w.finish.ink = w.ink ∧ w.finish.tally = w.tally ∧ w.finish.mode = w.mode
      ∧ w.finish.pending = w.pending := by simp [Work.finish_eq]

/-- What the fault unit's stage leaves of the link. -/
theorem Work.faultStage_link (w : Work) :
    w.faultStage.link.errors = w.link.errors ∧ w.faultStage.link.errorWindow = w.link.errorWindow
      ∧ w.faultStage.link.nozzleSlot = w.link.nozzleSlot
      ∧ w.faultStage.link.reportSlot = w.link.reportSlot
      ∧ w.faultStage.link.statusDue = w.link.statusDue
      ∧ w.faultStage.link.early = w.link.early
      ∧ w.faultStage.link.periodCount = w.link.periodCount
      ∧ w.faultStage.link.spacingCount = w.link.spacingCount
      ∧ w.faultStage.link.peers = w.link.peers ∧ w.faultStage.link.controller = w.link.controller
      ∧ w.faultStage.link.outcome = w.link.outcome
      ∧ w.faultStage.link.tx.isSome = w.link.tx.isSome
      ∧ (w.link.faultSlot = true → w.faultStage.link.faultSlot = true) := by
  simp only [Work.faultStage]
  split
  · simp
  · simp [Work.loadFault]

/-- What the end of an event leaves of the link: the early request and the FAULT NOTICE slot are all that it
may add. -/
theorem Work.finish_link (w : Work) :
    w.finish.link.errors = w.link.errors ∧ w.finish.link.errorWindow = w.link.errorWindow
      ∧ w.finish.link.nozzleSlot = w.link.nozzleSlot
      ∧ w.finish.link.reportSlot = w.link.reportSlot
      ∧ (w.link.statusDue = true → w.finish.link.statusDue = true)
      ∧ (w.link.early = true → w.finish.link.early = true)
      ∧ w.finish.link.periodCount = w.link.periodCount
      ∧ w.finish.link.spacingCount = w.link.spacingCount
      ∧ w.finish.link.peers = w.link.peers ∧ w.finish.link.controller = w.link.controller
      ∧ w.finish.link.outcome = w.link.outcome
      ∧ w.finish.link.tx.isSome = w.link.tx.isSome
      ∧ (w.link.faultSlot = true → w.finish.link.faultSlot = true) := by
  have h := Work.faultStage_link w.overfillTests
  have hs : w.settle.link = w.overfillTests.faultStage.link := by simp [Work.settle]
  rw [Work.finish_eq]
  dsimp only
  rw [hs]
  split <;> simp_all [Link.requestEarly]

/-- Feed control but for the FHOLD drive and the readiness hold that it rests on. -/
def Feed.rest (f : Feed) : Feed := { f with fholdDrive := false, readinessHold := false }

theorem State.drivenFeed_rest (s : State) : s.drivenFeed.rest = s.feed.rest := rfl

theorem Work.driveStage_rest (w : Work) : w.driveStage.feed.rest = w.feed.rest := by
  simp only [Work.driveStage]
  cases w.drive
  · exact congrArg Feed.rest (if_neg (by simp))
  · exact (congrArg Feed.rest (if_pos rfl)).trans (State.drivenFeed_rest _)

/-- Of feed control the end of an event works out the FHOLD drive and the readiness hold alone. -/
theorem Work.finish_feed (w : Work) : w.finish.feed.rest = w.feed.rest := by
  have h : w.settle.feed.rest = w.feed.rest := by
    simp only [Work.settle]
    rw [Work.driveStage_rest]
    simp
  rw [(Work.finish_settled w).2.2.2.1, h]

/-- The fields of feed control that the end of an event leaves. -/
@[simp] theorem Work.finish_feed_fields (w : Work) :
    w.finish.feed.sheet = w.feed.sheet ∧ w.finish.feed.phase = w.feed.phase
      ∧ w.finish.feed.position = w.feed.position ∧ w.finish.feed.commanded = w.feed.commanded
      ∧ w.finish.feed.capture = w.feed.capture
      ∧ w.finish.feed.stepsAtCapture = w.feed.stepsAtCapture
      ∧ w.finish.feed.trailing = w.feed.trailing ∧ w.finish.feed.skew = w.feed.skew
      ∧ w.finish.feed.skewWindow = w.feed.skewWindow ∧ w.finish.feed.trim = w.feed.trim
      ∧ w.finish.feed.move = w.feed.move ∧ w.finish.feed.fedPending = w.feed.fedPending
      ∧ w.finish.feed.vacuum = w.feed.vacuum
      ∧ w.finish.feed.underSegment = w.feed.underSegment
      ∧ w.finish.feed.fholdLine = w.feed.fholdLine
      ∧ w.finish.feed.extraOwed = w.feed.extraOwed
      ∧ w.finish.feed.edgeLateRaised = w.feed.edgeLateRaised
      ∧ w.finish.feed.slipRaised = w.feed.slipRaised := by
  have h := Work.finish_feed w
  simp only [Feed.rest, Feed.mk.injEq] at h
  simp [h]

/-- An event completes, and keeps the queue where its body does. -/
theorem event_completes (s : State) (b : Work → Work) (hb : ∀ w, (b w).pending = w.pending) :
    ∃ t, event s b = .next t ∧ t.pending = s.pending := by
  cases hp : s.mode.resetPin
  · exact ⟨_, event_live hp b, by simp [hb]⟩
  · exact ⟨s, event_held hp b, rfl⟩

/-- The faults after the end of an event are those its raises left. -/
theorem Work.finish_faults (w : Work) : w.finish.faults = w.overfillTests.faultStage.faults := by
  rw [(Work.finish_settled w).2.2.2.2.2.2.2.2.2.1]
  simp [Work.settle]

end Sys2Proof.Machine
end

