-- ==== Sys2Proof/Laws/Bodies.lean ====
section
/-! SUPPORT. The body of every command that is an event: what it does before the end-of-event work. One
equation gives every meaning in this form, so that a property of all commands is proved of the bodies. -/

namespace Sys2Proof.Machine

/-- What a command does before the end of its event; power-on, the RESET pin and RESTART are no such event. -/
def body : Instr → Work → Work
  | .powerOn _ _, w => w
  | .resetPinAsserted, w => w
  | .restart _ _, w => w
  | .feed moveId distance speed eject, w =>
    if !w.inRun then w
    else if w.moveInProgress then w.outcome .feed moveId .refusedBusy
    else if distance = 0 ∨ 1048575 < distance then w.outcome .feed moveId .refusedRange
    else (w.takeFeed moveId distance speed eject).outcome .feed moveId .accepted
  | .sheet ref sheetId active printLength spitAllowed degraded leadLimit, w =>
    if w.inRun then
      match w.sheetRefusal active printLength leadLimit with
      | some code => w.outcome .sheet ref code
      | none =>
        (w.takeSheet
          { sheet := sheetId, active := active, printLength := printLength,
            spitAllowed := spitAllowed, degraded := degraded, leadLimit := leadLimit }).outcome
          .sheet ref .accepted
    else w.outcome .sheet ref .refusedMode
  | .abortSheet sheetId, w =>
    if w.inRun then
      if w.abortFits sheetId then w.takeAbort.outcome .abortSheet sheetId .accepted
      else w.outcome .abortSheet sheetId .refusedSequence
    else w.outcome .abortSheet sheetId .refusedMode
  | .band ref tag sheetId start length issue drops, w =>
    if w.inRun then
      w.takeBand ref tag sheetId start length issue drops
    else w.outcome .band ref .refusedMode
  | .serviceCap ref, w =>
    if w.inRun then
      w.takeService ref .cap true
    else w.outcome .service ref .refusedMode
  | .serviceUncap ref, w =>
    if w.inRun then
      w.takeService ref .uncap true
    else w.outcome .service ref .refusedMode
  | .serviceWipe ref, w =>
    if w.inRun then
      w.takeService ref .wipe true
    else w.outcome .service ref .refusedMode
  | .serviceGapSpit ref, w =>
    if w.inRun then
      w.takeService ref .gapSpit true
    else w.outcome .service ref .refusedMode
  | .serviceCheck ref groups, w =>
    if w.inRun then
      w.takeService ref (.check (sortNums groups)) (w.checkListFits groups)
    else w.outcome .service ref .refusedMode
  | .servicePurgeLight ref channels, w =>
    if w.inRun then
      w.takeService ref (.purge false channels) (w.purgeSetFits channels)
    else w.outcome .service ref .refusedMode
  | .servicePurgeHeavy ref channels, w =>
    if w.inRun then
      w.takeService ref (.purge true channels) (w.purgeSetFits channels)
    else w.outcome .service ref .refusedMode
  | .setMask ref level, w =>
    if w.inRun then
      if 7 < level then w.outcome .service ref .refusedRange
      else
        ({ w with service := { w.service with mask := level }, boundary := true } : Work).outcome
          .service ref .accepted
    else w.outcome .service ref .refusedMode
  | .settings ref values, w =>
    if w.inRun then
      if !refillMarksFit values w.mode.inForce.sec0 then w.outcome .settings ref .refusedRange
      else
        ({ w with tally := { w.tally with pendingCopy := clampAllSettings values } } : Work).outcome
          .settings ref (takenCode (decide (clampAllSettings values ≠ values)))
    else w.outcome .settings ref .refusedMode
  | .tallyClose ref, w =>
    if w.inRun then
      if w.tally.outstanding then w.outcome .tally ref .refusedBusy
      else w.fullClose.outcome .tally ref .accepted
    else w.outcome .tally ref .refusedMode
  | .tallyPeek ref, w =>
    if w.inRun then
      if w.tally.outstanding then w.outcome .tally ref .refusedBusy
      else (w.peekPeriod false).outcome .tally ref .accepted
    else w.outcome .tally ref .refusedMode
  | .clearFaults ref, w =>
    if w.inRun then
      w.takeClear ref true (PerChannel.fill false) (PerChannel.fill false)
    else w.outcome .clear ref .refusedMode
  | .clearLadder ref channels, w =>
    if w.inRun then
      w.takeClear ref false channels (PerChannel.fill false)
    else w.outcome .clear ref .refusedMode
  | .clearLineStarved ref channels, w =>
    if w.inRun then
      w.takeClear ref false (PerChannel.fill false) channels
    else w.outcome .clear ref .refusedMode
  | .configSection0 ref content, w =>
    if w.mode.mode = .config then
      let x := clampSection0 content
      if !marksFit x then w.outcome .config ref .refusedRange
      else
        w.takeSection ref { w.mode with held := { w.mode.held with sec0 := x }, received0 := true }
          (decide (x ≠ content))
    else w.outcome .config ref .refusedMode
  | .configSection1 ref content, w =>
    if w.mode.mode = .config then
      let x := clampSection1 content
      w.takeSection ref { w.mode with held := { w.mode.held with sec1 := x }, received1 := true }
        (decide (x ≠ content))
    else w.outcome .config ref .refusedMode
  | .configSection2 ref content, w =>
    if w.mode.mode = .config then
      let x := clampSection2 content
      w.takeSection ref { w.mode with held := { w.mode.held with sec2 := x }, received2 := true }
        (decide (x ≠ content))
    else w.outcome .config ref .refusedMode
  | .configSection3FirstPart ref content, w =>
    if w.mode.mode = .config then
      { w with mode := { w.mode with firstPart := some { ref := ref, content := content } } }
    else w.outcome .config ref .refusedMode
  | .configSection3SecondPart ref initial, w =>
    if w.mode.mode = .config then
      match w.mode.firstPart with
      | none => w.outcome .config ref .refusedSequence
      | some f =>
        if f.ref = ref then
          let content : Section3 := { first := f.content, initial := initial }
          let x := clampSection3 content
          w.takeSection ref
            { w.mode with
              held := { w.mode.held with sec3 := x }, received3 := true, firstPart := none }
            (decide (x ≠ content))
        else w.outcome .config ref .refusedSequence
    else w.outcome .config ref .refusedMode
  | .start ref, w =>
    match w.startRefusal with
    | some code => w.outcome .start ref code
    | none => w.takeStart.outcome .start ref .accepted
  | .peerStatusHeard source status, w =>
    if source = w.mode.station then w.hearOwnNumber else w.hearPeer source status
  | .beaconHeard stopping _, w =>
    w.hearBeacon stopping
  | .frameDiscarded, w =>
    Work.linkError w
  | .duplicateStationHeard, w =>
    Work.hearOwnNumber w
  | .frameIgnored, w =>
    w
  | .frameBegin, w =>
    match w.link.tx, w.offeredSlot with
    | none, some t => w.beginFrame t
    | _, _ => w
  | .arbitrationLost, w =>
    if w.link.tx.isSome then { w with link := w.link.txLost } else w
  | .transmitMismatch, w =>
    if w.link.tx.isSome then ({ w with link := w.link.txLost } : Work).linkError else w
  | .frameSent, w =>
    match w.link.tx with
    | some t => w.endFrame t
    | none => w
  | .statusPeriodExpiry, w =>
    if w.sec1.statusPeriod ≤ w.link.periodCount then w.statusDueNow else w
  | .spacingCountExpiry, w =>
    if 2 ≤ w.link.spacingCount ∧ w.link.early then w.statusDueNow else w
  | .peerEntryLost stations, w =>
    w.losePeers stations
  | .controllerTimeout, w =>
    if w.controllerDue then w.loseController else w
  | .errorWindowEnd, w =>
    match w.link.errorWindow with
    | some x => if x.left = 0 then { w with link := { w.link with errorWindow := none } } else w
    | none => w
  | .markChange channel mark wet, w =>
    let x := w.ink.get channel
    if !(x.mark mark).filtered wet ∨ (x.mark mark).state = .settling
        ∨ (x.mark mark).state = markReading wet then w
    else
      ((w.putInk channel (x.settleMark mark wet)).markRefill channel mark wet).markReconcile
        channel mark wet
  | .markSettled channel mark wet, w =>
    let x := w.ink.get channel
    if (x.mark mark).filtered wet ∧ (x.mark mark).state = .settling then
      { w with ink := w.ink.set channel (x.settleMark mark wet) }
    else w
  | .flowPulse channel, w =>
    (w.credit channel).countPulse channel
  | .flowWindowEnd channel, w =>
    match (w.refill.get channel).state, (w.refill.get channel).window with
    | .opened, some f => if 99 ≤ f.elapsed then w.windowEnd channel f else w
    | _, _ => w
  | .backoffEnd channel, w =>
    if (w.refill.get channel).state = .backoff ∧ (w.refill.get channel).backoff = some 0 then
      w.backoffOver channel
    else w
  | .leakWindowEnd channel, w =>
    if (w.refill.get channel).leakWindow = some 0 then
      w.putRefill channel { w.refill.get channel with leakCount := 0, leakWindow := none }
    else w
  | .waitingLimitReached channel, w =>
    if (w.refill.get channel).waiting ∧ Config.waitingLimit ≤ (w.refill.get channel).waited then
      { w with classes := true }
    else w
  | .stepDue, w =>
    match w.feed.move with
    | some m => if m.state = .running ∧ w.stepAllowed m then w.takeStep m else w
    | none => w
  | .encoderCount, w =>
    Work.positionEvent w
  | .leadingEdge, w =>
    if w.feed.phase = .pending then w.takeLeading else w
  | .trailingEdge, w =>
    if w.feed.phase = .active then w.takeTrailing else w
  | .skewWindowEnd, w =>
    if w.feed.skewWindow = some 0 then w.estimateSkew else w
  | .fholdAsserted, w =>
    ({ w with feed := { w.feed with fholdLine := true } } : Work).turnMove .running .held
  | .fholdReleased, w =>
    if w.feed.fholdDrive then w
    else ({ w with feed := { w.feed with fholdLine := false } } : Work).turnMove .held .running
  | .sledArrival place, w =>
    if w.service.motion = some place then w.arriveAt place
    else { w with service := { w.service with closed := some place } }
  | .headResult number group missed, w =>
    w.takeResult number group missed
  | .headDone number, w =>
    match w.service.head with
    | some h => if h.number = number then w.headAnswered else w
    | none => w
  | .actionTimeout, w =>
    if w.service.current.isSome ∧ w.service.timeLeft = some 0 then w.fail else w
  | .capIdleExpiry, w =>
    if w.idleUncapped ∧ w.sec3.capIdleTime ≤ w.service.capIdle then
      ({ w with service := { w.service with capIdle := 0 } } : Work).request .capIdle
    else w
  | .keepWetExpiry, w =>
    if w.inRun ∧ w.keepWet.counter = some 1 then w.expiry else w
  | .sledDeparture, w =>
    { w with
      service := { w.service with sled := w.service.departed, closed := none }
      boundary := true, drive := true }
  | .clearOrder ref faults ladders starved, w =>
    if w.inRun then
      w.takeClear ref faults ladders starved
    else w.outcome .clear ref .refusedMode
  | .tallyUnknownOperation ref _, w =>
    if w.inRun then
      w.outcome .tally ref .refusedRange
    else w.outcome .tally ref .refusedMode
  | .serviceUnknownRequest ref, w =>
    if w.inRun then
      w.outcome .service ref .refusedRange
    else w.outcome .service ref .refusedMode
  | .configUnknownSection ref, w =>
    if w.mode.mode = .config then
      w.outcome .config ref .refusedRange
    else w.outcome .config ref .refusedMode

/-- Power-on, the RESET pin and a RESTART order: the commands whose meaning is no plain event. -/
def special : Instr → Bool
  | .powerOn _ _ | .resetPinAsserted | .restart _ _ => true
  | _ => false

/-! ### Each meaning as an event of its body -/

theorem body_feed {moveId distance speed eject} (s : State) : execFeed moveId distance speed eject s = event s (body (.feed moveId distance speed eject)) := by
  simp only [execFeed]
  rfl

theorem body_sheet {ref sheetId active printLength spitAllowed degraded leadLimit} (s : State) : execSheet ref sheetId active printLength spitAllowed degraded leadLimit s = event s (body (.sheet ref sheetId active printLength spitAllowed degraded leadLimit)) := by
  simp only [execSheet, orderInRun]
  rfl

theorem body_abortSheet {sheetId} (s : State) : execAbortSheet sheetId s = event s (body (.abortSheet sheetId)) := by
  simp only [execAbortSheet, orderInRun]
  rfl

theorem body_band {ref tag sheetId start length issue drops} (s : State) : execBand ref tag sheetId start length issue drops s = event s (body (.band ref tag sheetId start length issue drops)) := by
  simp only [execBand, orderInRun]
  rfl

theorem body_serviceCap {ref} (s : State) : execServiceCap ref s = event s (body (.serviceCap ref)) := by
  simp only [execServiceCap, orderInRun]
  rfl

theorem body_serviceUncap {ref} (s : State) : execServiceUncap ref s = event s (body (.serviceUncap ref)) := by
  simp only [execServiceUncap, orderInRun]
  rfl

theorem body_serviceWipe {ref} (s : State) : execServiceWipe ref s = event s (body (.serviceWipe ref)) := by
  simp only [execServiceWipe, orderInRun]
  rfl

theorem body_serviceGapSpit {ref} (s : State) : execServiceGapSpit ref s = event s (body (.serviceGapSpit ref)) := by
  simp only [execServiceGapSpit, orderInRun]
  rfl

theorem body_serviceCheck {ref groups} (s : State) : execServiceCheck ref groups s = event s (body (.serviceCheck ref groups)) := by
  simp only [execServiceCheck, orderInRun]
  rfl

theorem body_servicePurgeLight {ref channels} (s : State) : execServicePurgeLight ref channels s = event s (body (.servicePurgeLight ref channels)) := by
  simp only [execServicePurgeLight, orderInRun]
  rfl

theorem body_servicePurgeHeavy {ref channels} (s : State) : execServicePurgeHeavy ref channels s = event s (body (.servicePurgeHeavy ref channels)) := by
  simp only [execServicePurgeHeavy, orderInRun]
  rfl

theorem body_setMask {ref level} (s : State) : execSetMask ref level s = event s (body (.setMask ref level)) := by
  simp only [execSetMask, orderInRun]
  rfl

theorem body_settings {ref values} (s : State) : execSettings ref values s = event s (body (.settings ref values)) := by
  simp only [execSettings, orderInRun]
  rfl

theorem body_tallyClose {ref} (s : State) : execTallyClose ref s = event s (body (.tallyClose ref)) := by
  simp only [execTallyClose, orderInRun]
  rfl

theorem body_tallyPeek {ref} (s : State) : execTallyPeek ref s = event s (body (.tallyPeek ref)) := by
  simp only [execTallyPeek, orderInRun]
  rfl

theorem body_clearFaults {ref} (s : State) : execClearFaults ref s = event s (body (.clearFaults ref)) := by
  simp only [execClearFaults, orderInRun]
  rfl

theorem body_clearLadder {ref channels} (s : State) : execClearLadder ref channels s = event s (body (.clearLadder ref channels)) := by
  simp only [execClearLadder, orderInRun]
  rfl

theorem body_clearLineStarved {ref channels} (s : State) : execClearLineStarved ref channels s = event s (body (.clearLineStarved ref channels)) := by
  simp only [execClearLineStarved, orderInRun]
  rfl

theorem body_configSection0 {ref content} (s : State) : execConfigSection0 ref content s = event s (body (.configSection0 ref content)) := by
  simp only [execConfigSection0, orderInConfig]
  rfl

theorem body_configSection1 {ref content} (s : State) : execConfigSection1 ref content s = event s (body (.configSection1 ref content)) := by
  simp only [execConfigSection1, orderInConfig]
  rfl

theorem body_configSection2 {ref content} (s : State) : execConfigSection2 ref content s = event s (body (.configSection2 ref content)) := by
  simp only [execConfigSection2, orderInConfig]
  rfl

theorem body_configSection3FirstPart {ref content} (s : State) : execConfigSection3FirstPart ref content s = event s (body (.configSection3FirstPart ref content)) := by
  simp only [execConfigSection3FirstPart, orderInConfig]
  rfl

theorem body_configSection3SecondPart {ref initial} (s : State) : execConfigSection3SecondPart ref initial s = event s (body (.configSection3SecondPart ref initial)) := by
  simp only [execConfigSection3SecondPart, orderInConfig]
  rfl

theorem body_start {ref} (s : State) : execStart ref s = event s (body (.start ref)) := by
  simp only [execStart]
  rfl

theorem body_peerStatusHeard {source status} (s : State) : execPeerStatusHeard source status s = event s (body (.peerStatusHeard source status)) := by
  simp only [execPeerStatusHeard]
  rfl

theorem body_beaconHeard {stopping sheetId} (s : State) : execBeaconHeard stopping sheetId s = event s (body (.beaconHeard stopping sheetId)) := by
  simp only [execBeaconHeard]
  rfl

theorem body_frameDiscarded  (s : State) : execFrameDiscarded s = event s (body (.frameDiscarded)) := by
  simp only [execFrameDiscarded]
  rfl

theorem body_duplicateStationHeard  (s : State) : execDuplicateStationHeard s = event s (body (.duplicateStationHeard)) := by
  simp only [execDuplicateStationHeard]
  rfl

theorem body_frameIgnored  (s : State) : execFrameIgnored s = event s (body (.frameIgnored)) := by
  simp only [execFrameIgnored]
  rfl

theorem body_frameBegin  (s : State) : execFrameBegin s = event s (body (.frameBegin)) := by
  simp only [execFrameBegin]
  rfl

theorem body_arbitrationLost  (s : State) : execArbitrationLost s = event s (body (.arbitrationLost)) := by
  simp only [execArbitrationLost]
  rfl

theorem body_transmitMismatch  (s : State) : execTransmitMismatch s = event s (body (.transmitMismatch)) := by
  simp only [execTransmitMismatch]
  rfl

theorem body_frameSent  (s : State) : execFrameSent s = event s (body (.frameSent)) := by
  simp only [execFrameSent]
  rfl

theorem body_statusPeriodExpiry  (s : State) : execStatusPeriodExpiry s = event s (body (.statusPeriodExpiry)) := by
  simp only [execStatusPeriodExpiry]
  rfl

theorem body_spacingCountExpiry  (s : State) : execSpacingCountExpiry s = event s (body (.spacingCountExpiry)) := by
  simp only [execSpacingCountExpiry]
  rfl

theorem body_peerEntryLost {stations} (s : State) : execPeerEntryLost stations s = event s (body (.peerEntryLost stations)) := by
  simp only [execPeerEntryLost]
  rfl

theorem body_controllerTimeout  (s : State) : execControllerTimeout s = event s (body (.controllerTimeout)) := by
  simp only [execControllerTimeout]
  rfl

theorem body_errorWindowEnd  (s : State) : execErrorWindowEnd s = event s (body (.errorWindowEnd)) := by
  simp only [execErrorWindowEnd]
  rfl

theorem body_markChange {channel mark wet} (s : State) : execMarkChange channel mark wet s = event s (body (.markChange channel mark wet)) := by
  simp only [execMarkChange]
  rfl

theorem body_markSettled {channel mark wet} (s : State) : execMarkSettled channel mark wet s = event s (body (.markSettled channel mark wet)) := by
  simp only [execMarkSettled]
  rfl

theorem body_flowPulse {channel} (s : State) : execFlowPulse channel s = event s (body (.flowPulse channel)) := by
  simp only [execFlowPulse]
  rfl

theorem body_flowWindowEnd {channel} (s : State) : execFlowWindowEnd channel s = event s (body (.flowWindowEnd channel)) := by
  simp only [execFlowWindowEnd]
  rfl

theorem body_backoffEnd {channel} (s : State) : execBackoffEnd channel s = event s (body (.backoffEnd channel)) := by
  simp only [execBackoffEnd]
  rfl

theorem body_leakWindowEnd {channel} (s : State) : execLeakWindowEnd channel s = event s (body (.leakWindowEnd channel)) := by
  simp only [execLeakWindowEnd]
  rfl

theorem body_waitingLimitReached {channel} (s : State) : execWaitingLimitReached channel s = event s (body (.waitingLimitReached channel)) := by
  simp only [execWaitingLimitReached]
  rfl

theorem body_stepDue  (s : State) : execStepDue s = event s (body (.stepDue)) := by
  simp only [execStepDue]
  rfl

theorem body_encoderCount  (s : State) : execEncoderCount s = event s (body (.encoderCount)) := by
  simp only [execEncoderCount]
  rfl

theorem body_leadingEdge  (s : State) : execLeadingEdge s = event s (body (.leadingEdge)) := by
  simp only [execLeadingEdge]
  rfl

theorem body_trailingEdge  (s : State) : execTrailingEdge s = event s (body (.trailingEdge)) := by
  simp only [execTrailingEdge]
  rfl

theorem body_skewWindowEnd  (s : State) : execSkewWindowEnd s = event s (body (.skewWindowEnd)) := by
  simp only [execSkewWindowEnd]
  rfl

theorem body_fholdAsserted  (s : State) : execFholdAsserted s = event s (body (.fholdAsserted)) := by
  simp only [execFholdAsserted]
  rfl

theorem body_fholdReleased  (s : State) : execFholdReleased s = event s (body (.fholdReleased)) := by
  simp only [execFholdReleased]
  rfl

theorem body_sledArrival {place} (s : State) : execSledArrival place s = event s (body (.sledArrival place)) := by
  simp only [execSledArrival]
  rfl

theorem body_headResult {number group missed} (s : State) : execHeadResult number group missed s = event s (body (.headResult number group missed)) := by
  simp only [execHeadResult]
  rfl

theorem body_headDone {number} (s : State) : execHeadDone number s = event s (body (.headDone number)) := by
  simp only [execHeadDone]
  rfl

theorem body_actionTimeout  (s : State) : execActionTimeout s = event s (body (.actionTimeout)) := by
  simp only [execActionTimeout]
  rfl

theorem body_capIdleExpiry  (s : State) : execCapIdleExpiry s = event s (body (.capIdleExpiry)) := by
  simp only [execCapIdleExpiry]
  rfl

theorem body_keepWetExpiry  (s : State) : execKeepWetExpiry s = event s (body (.keepWetExpiry)) := by
  simp only [execKeepWetExpiry]
  rfl

theorem body_sledDeparture  (s : State) : execSledDeparture s = event s (body (.sledDeparture)) := by
  simp only [execSledDeparture]
  rfl

theorem body_clearOrder {ref faults ladders starved} (s : State) : execClearOrder ref faults ladders starved s = event s (body (.clearOrder ref faults ladders starved)) := by
  simp only [execClearOrder, orderInRun]
  rfl

theorem body_tallyUnknownOperation {ref operation} (s : State) : execTallyUnknownOperation ref operation s = event s (body (.tallyUnknownOperation ref operation)) := by
  simp only [execTallyUnknownOperation, orderInRun]
  rfl

theorem body_serviceUnknownRequest {ref} (s : State) : execServiceUnknownRequest ref s = event s (body (.serviceUnknownRequest ref)) := by
  simp only [execServiceUnknownRequest, orderInRun]
  rfl

theorem body_configUnknownSection {ref} (s : State) : execConfigUnknownSection ref s = event s (body (.configUnknownSection ref)) := by
  simp only [execConfigUnknownSection, orderInConfig]
  rfl

/-- Every other command is one event of its body. -/
theorem exec_body (i : Instr) (s : State) (h : special i = false) : exec i s = event s (body i) := by
  cases i
  case powerOn => exact absurd h (by simp [special])
  case resetPinAsserted => exact absurd h (by simp [special])
  case restart => exact absurd h (by simp [special])
  case feed => exact body_feed s
  case sheet => exact body_sheet s
  case abortSheet => exact body_abortSheet s
  case band => exact body_band s
  case serviceCap => exact body_serviceCap s
  case serviceUncap => exact body_serviceUncap s
  case serviceWipe => exact body_serviceWipe s
  case serviceGapSpit => exact body_serviceGapSpit s
  case serviceCheck => exact body_serviceCheck s
  case servicePurgeLight => exact body_servicePurgeLight s
  case servicePurgeHeavy => exact body_servicePurgeHeavy s
  case setMask => exact body_setMask s
  case settings => exact body_settings s
  case tallyClose => exact body_tallyClose s
  case tallyPeek => exact body_tallyPeek s
  case clearFaults => exact body_clearFaults s
  case clearLadder => exact body_clearLadder s
  case clearLineStarved => exact body_clearLineStarved s
  case configSection0 => exact body_configSection0 s
  case configSection1 => exact body_configSection1 s
  case configSection2 => exact body_configSection2 s
  case configSection3FirstPart => exact body_configSection3FirstPart s
  case configSection3SecondPart => exact body_configSection3SecondPart s
  case start => exact body_start s
  case peerStatusHeard => exact body_peerStatusHeard s
  case beaconHeard => exact body_beaconHeard s
  case frameDiscarded => exact body_frameDiscarded s
  case duplicateStationHeard => exact body_duplicateStationHeard s
  case frameIgnored => exact body_frameIgnored s
  case frameBegin => exact body_frameBegin s
  case arbitrationLost => exact body_arbitrationLost s
  case transmitMismatch => exact body_transmitMismatch s
  case frameSent => exact body_frameSent s
  case statusPeriodExpiry => exact body_statusPeriodExpiry s
  case spacingCountExpiry => exact body_spacingCountExpiry s
  case peerEntryLost => exact body_peerEntryLost s
  case controllerTimeout => exact body_controllerTimeout s
  case errorWindowEnd => exact body_errorWindowEnd s
  case markChange => exact body_markChange s
  case markSettled => exact body_markSettled s
  case flowPulse => exact body_flowPulse s
  case flowWindowEnd => exact body_flowWindowEnd s
  case backoffEnd => exact body_backoffEnd s
  case leakWindowEnd => exact body_leakWindowEnd s
  case waitingLimitReached => exact body_waitingLimitReached s
  case stepDue => exact body_stepDue s
  case encoderCount => exact body_encoderCount s
  case leadingEdge => exact body_leadingEdge s
  case trailingEdge => exact body_trailingEdge s
  case skewWindowEnd => exact body_skewWindowEnd s
  case fholdAsserted => exact body_fholdAsserted s
  case fholdReleased => exact body_fholdReleased s
  case sledArrival => exact body_sledArrival s
  case headResult => exact body_headResult s
  case headDone => exact body_headDone s
  case actionTimeout => exact body_actionTimeout s
  case capIdleExpiry => exact body_capIdleExpiry s
  case keepWetExpiry => exact body_keepWetExpiry s
  case sledDeparture => exact body_sledDeparture s
  case clearOrder => exact body_clearOrder s
  case tallyUnknownOperation => exact body_tallyUnknownOperation s
  case serviceUnknownRequest => exact body_serviceUnknownRequest s
  case configUnknownSection => exact body_configUnknownSection s

/-- A live station completes a command in its body and the end of the event. -/
theorem completes_body {i : Instr} {s : State} (h : special i = false) (hr : s.mode.resetPin = false) :
    Completes i s (body i (Work.begin s)).finish := (exec_body i s h).trans (event_live hr _)

/-- What a completed command has made of the state: nothing under the RESET pin, else its body's event. -/
theorem completes_cases {i : Instr} {s t : State} (h : special i = false) (hc : Completes i s t) :
    s.mode.resetPin = true ∧ t = s
      ∨ s.mode.resetPin = false ∧ t = (body i (Work.begin s)).finish :=
  event_next ((exec_body i s h).symm.trans hc)

/-- No body touches the queue. -/
@[simp] theorem body_pending (i : Instr) (w : Work) : (body i w).pending = w.pending := by
  cases i <;> simp only [body]
  all_goals try (repeat' split)
  all_goals try simp

end Sys2Proof.Machine
end

