-- ==== Sys2Proof/Tests/Slice0.lean ====
section
/-! SUPPORT. The tests of the model: ill-formed operands refused, frames read and refused, the meanings on
small states against numbers worked out by hand from the rules, and for every statement with hypotheses a
state and operands that meet them. -/

namespace Sys2Proof.Tests

open Sys2Proof Sys2Proof.Machine

/-! ### Small states -/

/-- The state after a command. -/
def after (c : Instr) (s : State) : State :=
  match exec c s with
  | .next t => t
  | .fault _ => s
  | .refused _ => s

/-- Whether a command has a next state. -/
def completesIn (c : Instr) (s : State) : Bool :=
  match exec c s with
  | .next _ => true
  | .fault _ => false
  | .refused _ => false

/-- A command that has a next state completes in it. -/
theorem completes_after {c : Instr} {s : State} (h : completesIn c s = true) :
    Completes c s (after c s) := by
  unfold completesIn at h
  unfold Completes after
  split at h
  · rename_i t e
    simp only [e]
  · cases h
  · cases h

/-- Metering settings of every channel. -/
def metering : Settings :=
  { v0 := 1000, v1 := 1200, v2 := 1500, v3 := 2000, spitDrops := 4, lightPurge := 100000,
    heavyPurge := 500000, refillMark := 4000000, reserve := 1000000 }

/-- A configuration with every channel enabled and a sensor distance of 1000 counts. -/
def configured : Sections :=
  { sec0 :=
      { enabled := PerChannel.fill true
        reservoir := PerChannel.fill
          { capacity := 10000000, lowLevel := 2000000, fullLevel := 8000000, tolerance := 100000,
            credit := 1000 } }
    sec1 :=
      { budget := PerChannel.fill 2, starveThreshold := 10, leakLimit := 3, statusPeriod := 10,
        controllerTimeout := 100, errorLimit := 2 }
    sec2 :=
      { sensorDistance := 1000, stopMargin := 10, skewLimit := 20, slipLimit := 50, vacuumTail := 100,
        highMark := 3, lowMark := 8 }
    sec3 :=
      { first :=
          { keepWetInterval := 1000, capIdleTime := 5000, levels := defaultLevels,
            limits := { move := 500, spit := 500, wipe := 500, check := 500, lightPurge := 500,
                        heavyPurge := 500 },
            autoRecovery := false, leadingClose := true, leadingPeek := false,
            trailingClose := false, trailingPeek := true }
        initial := PerChannel.fill metering } }

/-- A station in CONFIG with every section received. -/
def loaded : State :=
  { State.reset with
    mode := { ModeControl.reset with
      held := configured, received0 := true, received1 := true, received2 := true,
      received3 := true } }

/-- A station in RUN, uncapped with the sled at PARK, every channel KNOWN at 5 000 000 nL and above its refill
mark. -/
def running : State :=
  { loaded with
    mode := { loaded.mode with mode := .run, inForce := configured, started := true }
    tally := { Tally.reset with
      channels := PerChannel.fill (TallyChannel.openedAt 5000000)
      pendingCopy := PerChannel.fill metering
      inForce := { issue := 1, values := PerChannel.fill metering }
      prior := { issue := 1, values := PerChannel.fill metering }, startInPeriod := true }
    ink := PerChannel.fill
      { estimate := 5000000, residue := 0, state := .known
        low := { state := .wet, raw := true, sample := true, count := 0 }
        full := { state := .dry, raw := false, sample := false, count := 0 } }
    refill := PerChannel.fill { RefillChannel.reset with state := .idle }
    feed := { Feed.reset with fholdDrive := false }
    service := { Service.reset with sled := .standing .park, closed := some .park, capped := false }
    keepWet := { KeepWet.reset with counter := some 1000 } }

/-- A station whose mark of a channel has read `wet` at its last `n` samples. -/
def sampledMark (s : State) (c : Channel) (m : MarkName) (wet : Bool) (n : Nat) : State :=
  { s with ink := s.ink.set c ((s.ink.get c).putMark m
      { (s.ink.get c).mark m with raw := wet, sample := wet, count := n }) }

/-- Stations 0 and 1. -/
def pair : StationSet := PerStation.gen fun n => decide (n.val ≤ 1)

/-- The record of sheet 7, for stations 0 and 1. -/
def sheet7 : SheetRecord :=
  { sheet := 7, active := pair, printLength := 1000, spitAllowed := true, degraded := false,
    leadLimit := 5000 }

/-- Station 0 with sheet 7 taken and its edge not yet seen. -/
def waiting : State :=
  { running with
    feed := { running.feed with sheet := some sheet7, phase := .pending }
    bands := { BandQueue.reset with sheetRef := some 7 } }

/-- Station 0 with sheet 7 ACTIVE: captured at 100, so its base is 1100; the neighbour, station 1, has it
captured at 110 with its guard line OPEN. -/
def active : State :=
  { waiting with
    feed := { waiting.feed with
      phase := .active, position := 1000, commanded := 1000, capture := some 100,
      stepsAtCapture := some 100, vacuum := true }
    bands := { waiting.bands with guard := .allClear }
    link := { waiting.link with
      peers := waiting.link.peers.set 1
        { presence := .present, age := 0
          fields := some
            { mode := .run, sheet := some 7, guard := .allClear, capture := some 110
              channels := PerChannel.fill
                { state := .idle, effective := 0, starved := false } } } } }

/-- A RUNNING move of 100 steps. -/
def move100 : Move :=
  { id := 1, distance := 100, speed := 0, eject := false, stepsDone := 0, state := .running }

/-- Sheet 7 with the move running. -/
def moving : State := { active with feed := { active.feed with move := some move100 } }

/-- Drop counts of one class-0 drop set in every channel: 1000 drops of 10 pL, 10 nL. -/
def drops1000 : PerChannel Drops := PerChannel.fill { count := 1000, volumeClass := 0 }

/-- Drop counts above the range of R5 in every channel. -/
def dropsOver : PerChannel Drops := PerChannel.fill { count := 3145729, volumeClass := 0 }

/-- A band of sheet 7 at lines 0 to 9 in a state. -/
def band3 (st : BandState) : BandRecord :=
  { tag := 3, sheet := 7, start := 0, length := 10, issue := 0, drops := drops1000
    volume := PerChannel.fill 1000000, state := st }

/-- Sheet 7 with the band in the queue. -/
def banded (st : BandState) : State :=
  { active with bands := { active.bands with records := [band3 st], guard := .line 10 } }

/-- An action in progress, at a stage of its route. -/
def acting (a : Action) (g : Stage) : CurrentAction :=
  { action := a, stage := g, block := 5, drops := PerChannel.fill 2,
    volumes := PerChannel.fill 400000, results := [] }

/-- An action that an order began, with the sled commanded to a place. -/
def serving (a : Action) (g : Stage) (target : Option SledPlace) (h : Option HeadRequest) : State :=
  { running with
    service := { running.service with
      sled := if target.isSome then .moving else running.service.sled
      closed := if target.isSome then none else running.service.closed
      motion := target, current := some (acting a g), timeLeft := some 100, head := h,
      requestNumber := 9, stack := [{ source := .order, level := 2, actions := [a], channel := none }] } }

/-! ### Ill-formed operands (12.3) -/

/-- One operand of each kind just within and just beyond what its frame carries. -/
theorem test_wellFormed_refuses_feed_move :
    (Instr.feed 255 16777215 3 true).wellFormed = true
      ∧ (Instr.feed 256 1 0 true).wellFormed = false := by decide

theorem test_wellFormed_refuses_feed_distance :
    (Instr.feed 0 16777216 0 true).wellFormed = false := by decide

theorem test_wellFormed_refuses_feed_speed : (Instr.feed 0 1 4 true).wellFormed = false := by decide

theorem test_wellFormed_refuses_sheet :
    (Instr.sheet 255 65535 pair 16777215 true true 16777215).wellFormed = true
      ∧ (Instr.sheet 256 0 pair 1 true true 1).wellFormed = false
      ∧ (Instr.sheet 0 65536 pair 1 true true 1).wellFormed = false
      ∧ (Instr.sheet 0 0 pair 16777216 true true 1).wellFormed = false
      ∧ (Instr.sheet 0 0 pair 1 true true 16777216).wellFormed = false := by decide

theorem test_wellFormed_refuses_abortSheet : (Instr.abortSheet 65536).wellFormed = false := by decide

theorem test_wellFormed_refuses_band :
    (Instr.band 0 15 65535 4194303 65535 255 drops1000).wellFormed = true
      ∧ (Instr.band 256 0 0 0 1 0 drops1000).wellFormed = false
      ∧ (Instr.band 0 16 0 0 1 0 drops1000).wellFormed = false
      ∧ (Instr.band 0 0 65536 0 1 0 drops1000).wellFormed = false
      ∧ (Instr.band 0 0 0 4194304 1 0 drops1000).wellFormed = false
      ∧ (Instr.band 0 0 0 0 65536 0 drops1000).wellFormed = false
      ∧ (Instr.band 0 0 0 0 1 256 drops1000).wellFormed = false
      ∧ (Instr.band 0 0 0 0 1 0
          (PerChannel.fill { count := 4194304, volumeClass := 0 })).wellFormed = false := by decide

theorem test_wellFormed_refuses_service :
    (Instr.serviceCheck 0 [65535]).wellFormed = true
      ∧ (Instr.serviceCheck 0 [65536]).wellFormed = false
      ∧ (Instr.serviceCheck 0 (List.replicate 60 1)).wellFormed = false
      ∧ (Instr.serviceWipe 256).wellFormed = false
      ∧ (Instr.setMask 0 256).wellFormed = false := by decide

theorem test_wellFormed_refuses_settings :
    (Instr.settings 0 (PerChannel.fill metering)).wellFormed = true
      ∧ (Instr.settings 0 (PerChannel.fill { metering with v0 := 2048 })).wellFormed = false
      ∧ (Instr.settings 0 (PerChannel.fill { metering with spitDrops := 64 })).wellFormed = false
      ∧ (Instr.settings 0 (PerChannel.fill { metering with lightPurge := 2097152 })).wellFormed
          = false
      ∧ (Instr.settings 0 (PerChannel.fill { metering with heavyPurge := 8388608 })).wellFormed
          = false
      ∧ (Instr.settings 0 (PerChannel.fill { metering with reserve := 67108864 })).wellFormed
          = false := by decide

theorem test_wellFormed_refuses_tally :
    (Instr.tallyUnknownOperation 0 1).wellFormed = false
      ∧ (Instr.tallyUnknownOperation 0 256).wellFormed = false
      ∧ (Instr.tallyUnknownOperation 0 2).wellFormed = true := by decide

theorem test_wellFormed_refuses_configSection0 :
    (Instr.configSection0 0 configured.sec0).wellFormed = true
      ∧ (Instr.configSection0 0
          { configured.sec0 with
            reservoir := PerChannel.fill
              { capacity := 4294967296, lowLevel := 0, fullLevel := 1, tolerance := 0,
                credit := 1 } }).wellFormed = false
      ∧ (Instr.configSection0 0
          { configured.sec0 with
            reservoir := PerChannel.fill
              { capacity := 1, lowLevel := 0, fullLevel := 1, tolerance := 16777216,
                credit := 1 } }).wellFormed = false := by decide

theorem test_wellFormed_refuses_configSection1 :
    (Instr.configSection1 0 { configured.sec1 with starveThreshold := 256 }).wellFormed = false
      ∧ (Instr.configSection1 0 { configured.sec1 with controllerTimeout := 65536 }).wellFormed
          = false
      ∧ (Instr.configSection1 0 { configured.sec1 with budget := PerChannel.fill 256 }).wellFormed
          = false := by decide

theorem test_wellFormed_refuses_configSection2 :
    (Instr.configSection2 0 { configured.sec2 with sensorDistance := 16777216 }).wellFormed = false
      ∧ (Instr.configSection2 0 { configured.sec2 with stopMargin := 65536 }).wellFormed = false
      ∧ (Instr.configSection2 0 { configured.sec2 with highMark := 256 }).wellFormed = false := by
  decide

theorem test_wellFormed_refuses_configSection3 :
    (Instr.configSection3FirstPart 0 { configured.sec3.first with capIdleTime := 16777216 }).wellFormed
        = false
      ∧ (Instr.configSection3FirstPart 0
          { configured.sec3.first with levels := PerSource.fill 256 }).wellFormed = false
      ∧ (Instr.configSection3SecondPart 0
          (PerChannel.fill { metering with refillMark := 67108864 })).wellFormed = false := by decide

theorem test_wellFormed_refuses_events :
    (Instr.beaconHeard false (some 65536)).wellFormed = false
      ∧ (Instr.headDone 256).wellFormed = false
      ∧ (Instr.headResult 0 576 []).wellFormed = false
      ∧ (Instr.headResult 0 97 [63]).wellFormed = false
      ∧ (Instr.headResult 0 97 [64, 127]).wellFormed = true
      ∧ (Instr.peerStatusHeard 1
          { mode := .run, sheet := some 65536, guard := .line 0, capture := none
            channels := PerChannel.fill
              { state := .idle, effective := 0, starved := false } }).wellFormed = false
      ∧ (Instr.peerStatusHeard 1
          { mode := .run, sheet := none, guard := .line 4194303, capture := none
            channels := PerChannel.fill
              { state := .idle, effective := 0, starved := false } }).wellFormed = false
      ∧ (Instr.peerStatusHeard 1
          { mode := .run, sheet := none, guard := .allClear, capture := none
            channels := PerChannel.fill
              { state := .idle, effective := 4, starved := false } }).wellFormed = false := by decide

/-! ### Bytes (R169, chapter 12) -/

/-- The CRC of the nine digits in ASCII, worked out from the rule: all ones to start, generator
x^16 + x^12 + x^5 + 1, no inversion. -/
theorem test_crc :
    crcOf [0x31#8, 0x32#8, 0x33#8, 0x34#8, 0x35#8, 0x36#8, 0x37#8, 0x38#8, 0x39#8] = 0x29B1#16 := by
  decide +kernel

/-- A FEED payload: move 9, distance 0x012345, flags 0b110, so speed class 2 with eject. -/
theorem test_readOrder_feed :
    readOrder 0 0 [0x09#8, 0x01#8, 0x23#8, 0x45#8, 0x06#8] = some (.feed 9 0x012345 2 true) := by
  decide

/-- A SHEET payload: reference 1, sheet 0x0007, stations 0 and 1, 1000 lines, spit without degraded, limit
5000. -/
theorem test_readOrder_sheet :
    readOrder 0 6 [0x01#8, 0x00#8, 0x07#8, 0x03#8, 0x00#8, 0x03#8, 0xE8#8, 0x01#8, 0x00#8, 0x13#8, 0x88#8]
      = some (.sheet 1 7 pair 1000 true false 5000) := by decide

/-- A drop word holds the class in bits 23 and 22 and the count in the rest. -/
theorem test_dropWord : dropWord { count := 0x2FFFFF, volumeClass := 3 } = [0xEF#8, 0xFF#8, 0xFF#8] := by
  decide

/-- Spare bits of a CLEAR payload are read past, and the row is that of the one part it names. -/
theorem test_readOrder_clear :
    readOrder 0 12 [0x05#8, 0xFF#8, 0xC0#8, 0x00#8] = some (.clearFaults 5)
      ∧ readOrder 0 12 [0x05#8, 0xFE#8, 0x01#8, 0x00#8]
          = some (.clearLadder 5 ((PerChannel.fill false).set .matteBlack true)) := by decide

/-- A SERVICE request code above 7, and a known one at a length that does not fit, both name nothing known. -/
theorem test_readOrder_service :
    readOrder 0 8 [0x05#8, 0x08#8] = some (.serviceUnknownRequest 5)
      ∧ readOrder 0 8 [0x05#8, 0x02#8, 0x00#8] = some (.serviceUnknownRequest 5)
      ∧ readOrder 0 8 [0x05#8, 0x04#8, 0x00#8, 0x61#8, 0x00#8, 0x00#8]
          = some (.serviceCheck 5 [97, 0]) := by decide

/-- A whole START frame of the controller to station 0, and the same with a wrong stop bit, a wrong CRC or to
another station. -/
theorem test_receive :
    let f : RxFrame := { bytes := frameOf 14 15 0 [0x2A#8], stopError := false, extraStart := false }
    State.reset.receive 0 f = .start 42
      ∧ State.reset.receive 0 { f with stopError := true } = .frameDiscarded
      ∧ State.reset.receive 0 { f with bytes := f.bytes.dropLast ++ [0x00#8] } = .frameDiscarded
      ∧ State.reset.receive 0 { f with bytes := frameOf 14 15 3 [0x2A#8] } = .frameIgnored := by decide +kernel

/-- A FAULT NOTICE with the station's own number is the duplicate of R174, whatever the mode that its turn will
find, and is of another station behind a RESTART that latches 3. -/
theorem test_receive_own_number :
    let f : RxFrame :=
      { bytes := frameOf 2 0 15 (List.replicate 16 0x00#8), stopError := false, extraStart := false }
    State.reset.receive 0 f = .duplicateStationHeard
      ∧ ({ loaded with mode := { loaded.mode with mode := .halted } } : State).receive 0 f
          = .duplicateStationHeard
      ∧ ({ loaded with pending := [.restart 1 3] } : State).receive 3 f = .frameIgnored := by
  decide +kernel

/-- The STATUS right after power-on: CONFIG, FHOLD driven and capped, guard line 0, every channel HELD, and
bands not wanted outside RUN. -/
theorem test_status_after_reset :
    State.reset.statusPayload
      = [0x00#8, 0x50#8] ++ List.replicate 14 0x00#8 ++ List.replicate 6 0x04#8
        ++ List.replicate 10 0x00#8 := by decide

/-! ### Meanings against numbers worked out by hand -/

/-- A pulse credits 1000 nL and tallies it (R14). -/
theorem test_flowPulse :
    ((after (.flowPulse .cyan) running).ink.get .cyan).estimate = 5001000
      ∧ ((after (.flowPulse .cyan) running).tally.channels.get .cyan).refilled = 1000
      ∧ ((after (.flowPulse .cyan) running).refill.get .cyan).leakCount = 1 := by decide

/-- The LOW mark turning DRY sets E to L_low and books the difference, beyond the tolerance (R16). -/
theorem test_markChange :
    let t := after (.markChange .grey .low false) (sampledMark running .grey .low false 20)
    (t.ink.get .grey).estimate = 2000000 ∧ (t.tally.channels.get .grey).adjusted = -3000000
      ∧ t.faults.active = [.driftExcess] ∧ (t.refill.get .grey).state = .opened := by
  decide

/-- A line that turns DRY is sampled at the tick: at the twentieth sample the change falls due, one earlier it
does not (R3). -/
theorem test_markLine :
    let s n := (sampledMark running .grey .low true n).markLine .grey .low false
    (s 19).tick.pending = [.markChange .grey .low false] ∧ (s 18).tick.pending = []
      ∧ (((s 18).tick.ink.get .grey).mark .low).count = 19 := by decide +kernel

/-- A band of 10 lines of which every channel prints 10 nL retires at base + 40 (R50, R9). -/
theorem test_retirement :
    let s := { banded .printing with feed := { active.feed with position := 1139, commanded := 1139 } }
    (after .encoderCount s).bands.records = []
      ∧ (after .encoderCount s).bands.lastRetired = 10
      ∧ ((after .encoderCount s).ink.get .yellow).estimate = 4999990
      ∧ ((after .encoderCount s).tally.channels.get .yellow).printed = 10 := by decide

/-- A COVERED band enters PRINTING one count past its start (R49); an ANNOUNCED one is overrun (R51). -/
theorem test_start_of_band :
    let s := { banded .covered with feed := { active.feed with position := 1100, commanded := 1100 } }
    let t := { banded .announced with feed := { active.feed with position := 1100, commanded := 1100 } }
    (after .encoderCount s).bands.records = [band3 .printing]
      ∧ (after .encoderCount t).bands.records = [] := by decide

/-- A gap spit of 4 drops per nozzle deducts 4 · 128 · 1000 units of 0.01 pL, 5.12 nL, when the sled is back
at PARK: here the volumes fixed at its start were 400 000 units, 4 nL (R9, R13, R97). -/
theorem test_gapSpit_done :
    let s := serving .gapSpit .inbound (some .park) none
    ((after (.sledArrival .park) s).ink.get .cyan).estimate = 4999996
      ∧ (after (.sledArrival .park) s).keepWet.pointer = 6
      ∧ (after (.sledArrival .park) s).service.stack = [] := by decide

/-- START puts the sections in force, frees refill and loads the settings under issue 1 (R196, R166). -/
theorem test_start :
    (after (.start 1) loaded).mode.mode = .run
      ∧ (after (.start 1) loaded).tally.inForce.issue = 1
      ∧ ((after (.start 1) loaded).refill.get .cyan).state = .idle
      ∧ ((after (.start 1) loaded).refill.get .cyan).effective = 3 := by decide +kernel

/-- The slip test at its limit and one beyond (R85). -/
theorem test_slip :
    let s := { moving with feed := { moving.feed with commanded := 1049 } }
    let t := { moving with feed := { moving.feed with commanded := 1050 } }
    (after .stepDue s).faults.active = [] ∧ (after .stepDue t).faults.active = [.slip] := by decide

/-- A peer's SHEET and a lost arbitration change no ledger; a STATUS begins with its slot due (R176). -/
theorem test_frameBegin :
    (after .frameBegin running).link.tx.map TxFrame.slot = some .status
      ∧ (after .arbitrationLost (after .frameBegin running)).link.tx = none := by decide

/-- A pending RECOVERY lists cyan's purge and then grey's: a CLEAR ladder of cyan ends the raise of the one and
begins that of the other in its event (R25, R107, R149). -/
theorem test_clearLadder_raise :
    let due : Ladder := { level := 3, exhausted := false, affected := [197], inService := false }
    let s : State := { running with
      ink := PerChannel.gen fun c => { running.ink.get c with estimate := 1050000 }
      service := { running.service with
        stopped := true, pending := running.service.pending.set .recovery true }
      nozzle := { running.nozzle with
        failed := [{ channel := .cyan, nozzle := 330 }]
        ladders := (running.nozzle.ladders.set .cyan due).set .grey due } }
    let t := after (.clearLadder 1 ((PerChannel.fill false).set .cyan true)) s
    s.purgeRaise .cyan = true ∧ (t.refill.get .cyan).effective = 2
      ∧ (t.refill.get .grey).effective = 3 := by decide +kernel

/-- A switch that the sled passes is not taken and reads closed; HOME finds it there after a failure (R92). -/
theorem test_passed_switch :
    let t := after (.sledArrival .park) (serving .cap .outbound (some .cap) none)
    t.service.sled = .moving ∧ t.service.motion = some .cap ∧ t.service.closed = some .park
      ∧ t.sledThere .park = true := by decide

/-! ### Witnesses: states and operands that meet the hypotheses of the statements -/

/-- A state with commands waiting. -/
def queued (l : List Instr) (s : State) : State := { s with pending := l }

/-- A station with the RESET pin asserted. -/
def pinned : State := { running with mode := { running.mode with resetPin := true } }

/-- The step of a waiting command. -/
theorem step_queued {c : Instr} {s : State} (h : completesIn c { s with pending := [] } = true) :
    step (queued [c] s) = .next (after c { s with pending := [] }) := completes_after h

/-- AnEmptyQueueTicks: the pin released and asserted, entries ABSENT and not, a time limit running. -/
theorem witness_AnEmptyQueueTicks :
    (active.pending = [] ∧ active.mode.resetPin = false
        ∧ (active.link.peers.get 2).presence = .absent ∧ (active.link.peers.get 1).presence ≠ .absent)
      ∧ (pinned.pending = [] ∧ pinned.mode.resetPin = true)
      ∧ (serving .cap .outbound (some .cap) none).pending = []
      ∧ (serving .cap .outbound (some .cap) none).service.timeLeft = some 100 := by decide

/-- A station in RUN, capped or not, with a keep-wet count and ticks at the one-in-eight rate. -/
def wetCount (capped : Bool) (ticks n : Nat) : State :=
  { running with
    service := { running.service with capped := capped }
    keepWet := { KeepWet.reset with counter := some n, cappedTicks := ticks } }

/-- AnEmptyQueueTicks, the keep-wet clauses: uncapped, the eighth tick under the cap and the seventh, the last
count, and a station outside RUN. -/
theorem witness_AnEmptyQueueTicks_keepWet :
    (∀ s ∈ [wetCount false 0 1000, wetCount true 7 1000, wetCount true 6 1000, wetCount true 7 1],
        s.pending = [] ∧ s.mode.resetPin = false ∧ s.mode.mode = .run ∧ s.keepWet.counter.isSome = true)
      ∧ (wetCount false 0 1000).service.capped = false
      ∧ (wetCount true 6 1000).service.capped = true ∧ (wetCount true 6 1000).keepWet.cappedTicks < 7
      ∧ (wetCount true 7 1).keepWet.counter = some 1
      ∧ (loaded.pending = [] ∧ loaded.mode.mode ≠ .run) := by decide

theorem witness_PowerOnAndResetPinLeavePowerOnValues :
    pinned.mode.resetPin = true ∧ (∀ straps closed, Instr.encoderCount ≠ .powerOn straps closed)
      ∧ Instr.encoderCount ≠ .resetPinAsserted :=
  ⟨rfl, fun _ _ h => (nomatch h), by decide⟩

/-- A station in the middle of a PURGE LIGHT that an order began, with refill held and an interrupted
keep-wet spit below it. -/
def purging : State :=
  let s := serving (.purge false (PerChannel.fill true)) .atHead none
    (some { number := 9, kind := .purge false (PerChannel.fill true) })
  { s with
    refill := PerChannel.fill { RefillChannel.reset with state := .held }
    service := { s.service with
      stack := [{ source := .order, level := 2, actions := [.purge false (PerChannel.fill true)],
                  channel := none },
                { source := .keepWet, level := 3, actions := [.gapSpit], channel := none }] } }

/-- The premises of every StepKeeps statement, on a station in RUN. -/
theorem witness_safe_running : running.safe := by
  refine ⟨fun c => .inr ?_, ⟨fun _ c => ?_, fun _ _ c => ?_, fun c _ => ?_, fun c h => ?_,
    fun c h => ?_, fun c => ?_⟩, fun h => ?_, fun h => ?_, ?_, ?_, ?_, ?_, fun c => ?_, ?_, fun h => ?_⟩
  · cases c <;> decide
  · cases c <;> decide
  · cases c <;> decide
  · cases c <;> decide
  · cases c <;> exact absurd h (by decide)
  · cases c <;> exact absurd h (by decide)
  · cases c <;> decide
  · exact absurd h (by decide)
  · exact absurd h (by decide)
  · exact List.Pairwise.nil
  · show (0 : Nat) < 48; decide
  · show (0 : Nat) ≤ 16; decide
  · rfl
  · cases c <;> decide
  · unfold State.blockFollows
    decide
  · exact absurd h (by decide)

/-- The same while a purge runs, with two sequences on the stack. -/
theorem witness_safe_purging : purging.safe := by
  refine ⟨fun c => .inr ?_, ⟨fun _ c => ?_, fun _ _ c => ?_, fun c _ => ?_, fun c h => ?_,
    fun c h => ?_, fun c => ?_⟩, fun _ c => ?_, fun h => ?_, ?_, ?_, ?_, ?_, fun c => ?_, ?_, fun h => ?_⟩
  · cases c <;> decide
  · cases c <;> decide
  · cases c <;> decide
  · cases c <;> decide
  · cases c <;> exact absurd h (by decide)
  · cases c <;> exact absurd h (by decide)
  · cases c <;> decide
  · cases c <;> decide
  · exact absurd h (by decide)
  · show List.Pairwise _ _
    decide
  · show (0 : Nat) < 48; decide
  · show (0 : Nat) ≤ 16; decide
  · rfl
  · cases c <;> decide
  · unfold State.blockFollows
    decide
  · exact absurd h (by decide)

/-- Steps from both: a pulse, and the DONE of the purge, which releases refill. -/
theorem witness_StepKeeps :
    step (queued [.flowPulse .cyan] running) = .next (after (.flowPulse .cyan) running)
      ∧ step (queued [.headDone 9] purging) = .next (after (.headDone 9) purging)
      ∧ ((after (.headDone 9) purging).ink.get .grey).estimate = 4600000
      ∧ ((after (.headDone 9) purging).refill.get .grey).state = .idle :=
  ⟨step_queued (by decide +kernel), step_queued (by decide +kernel), by decide +kernel, by decide +kernel⟩

theorem witness_OnlyTheseEventsChangeTheMode :
    (Completes (.start 1) loaded (after (.start 1) loaded)
        ∧ (after (.start 1) loaded).mode.mode ≠ loaded.mode.mode)
      ∧ (Completes .duplicateStationHeard running (after .duplicateStationHeard running)
        ∧ (after .duplicateStationHeard running).mode.mode ≠ running.mode.mode)
      ∧ (Completes (.restart 1 3) running (after (.restart 1 3) running)
        ∧ (after (.restart 1 3) running).mode.mode ≠ running.mode.mode
        ∧ (after (.restart 1 3) running).mode.station ≠ running.mode.station)
      ∧ (Completes (.powerOn 5 none) running (after (.powerOn 5 none) running)
        ∧ (after (.powerOn 5 none) running).mode.mode ≠ running.mode.mode
        ∧ (after (.powerOn 5 none) running).mode.station ≠ running.mode.station) :=
  ⟨⟨completes_after (by decide +kernel), by decide +kernel⟩, ⟨completes_after (by decide +kernel), by decide +kernel⟩,
    ⟨completes_after (by decide), by decide⟩, ⟨completes_after (by decide), by decide⟩⟩

theorem witness_OnlyTheseEventsMoveInk :
    Completes (.markChange .grey .low false) (sampledMark running .grey .low false 20)
        (after (.markChange .grey .low false) (sampledMark running .grey .low false 20))
      ∧ Instr.movesInk .cyan (.markChange .grey .low false) = false
      ∧ (Instr.markChange .grey .low false).mayClose = false :=
  ⟨completes_after (by decide), by decide, by decide⟩

theorem witness_OnlyTheseEventsChangeTheConfiguration :
    Completes .encoderCount moving (after .encoderCount moving)
      ∧ Instr.encoderCount.powersOn = false ∧ (∀ ref, Instr.encoderCount ≠ .start ref)
      ∧ configOrder .encoderCount = none ∧ (∀ ref, Instr.encoderCount ≠ .tallyClose ref)
      ∧ ∀ ref v, Instr.encoderCount ≠ .settings ref v :=
  ⟨completes_after (by decide), rfl, fun _ h => (nomatch h), rfl, fun _ h => (nomatch h),
    fun _ _ h => (nomatch h)⟩

/-- The entries of every other station while station 2 becomes LOST. -/
theorem witness_OnlyTheseEventsChangeTheLinkTables :
    let a : StationSet := (PerStation.fill false).set 2 true
    Completes (.peerEntryLost a) active (after (.peerEntryLost a) active)
      ∧ (Instr.peerEntryLost a).powersOn = false ∧ (Instr.peerEntryLost a).restarts = false
      ∧ (∀ f, Instr.peerEntryLost a ≠ .peerStatusHeard 1 f)
      ∧ (∀ b, Instr.peerEntryLost a = .peerEntryLost b → b.get 1 = false)
      ∧ (∀ ref, Instr.peerEntryLost a ≠ .start ref)
      ∧ (∀ b n, Instr.peerEntryLost a ≠ .beaconHeard b n)
      ∧ Instr.peerEntryLost a ≠ .controllerTimeout ∧ isOrder (.peerEntryLost a) = false
      ∧ Instr.peerEntryLost a ≠ .frameDiscarded ∧ Instr.peerEntryLost a ≠ .transmitMismatch :=
  ⟨completes_after (by decide), rfl, rfl, fun _ h => (nomatch h),
    fun b h => (Instr.peerEntryLost.inj h) ▸ by decide, fun _ h => (nomatch h),
    fun _ _ h => (nomatch h), fun h => (nomatch h), rfl, fun h => (nomatch h), fun h => (nomatch h)⟩

theorem witness_OnlyTheseEventsChangeFeedServiceAndNozzles :
    Completes (.flowPulse .cyan) moving (after (.flowPulse .cyan) moving)
      ∧ (Instr.flowPulse .cyan).powersOn = false ∧ (Instr.flowPulse .cyan).restarts = false
      ∧ (Instr.flowPulse .cyan).movesSheet = false
      ∧ (∀ ref level, Instr.flowPulse .cyan ≠ .setMask ref level)
      ∧ (Instr.flowPulse .cyan).spitsOrChecks = false
      ∧ (Instr.flowPulse .cyan).touchesGroups = false
      ∧ (∀ ref, Instr.flowPulse .cyan ≠ .start ref)
      ∧ Instr.flowPulse .cyan ≠ .flowWindowEnd .cyan ∧ clearRequest (.flowPulse .cyan) = none :=
  ⟨completes_after (by decide), rfl, rfl, rfl, fun _ _ h => (nomatch h), rfl, rfl,
    fun _ h => (nomatch h), fun h => (nomatch h), rfl⟩

/-- A CHECK of group 5 of cyan, back at PARK: nozzle 330, a suspect, and nozzle 340 were not seen; nozzle 320,
which had failed, was. -/
def checking : State :=
  let s := serving (.check [197]) .inbound (some .park) none
  { s with
    service := { s.service with
      current := some { acting (.check [197]) .inbound with results := [(197, [330, 340])] } }
    nozzle := { Nozzle.reset with
      failed := [{ channel := .cyan, nozzle := 320 }, { channel := .grey, nozzle := 6143 }]
      groups := Nozzle.reset.groups.set .cyan
        ((List.replicate 96 Group.reset).set 5
          { Group.reset with suspects := [330], bands := 3, state := .weak }) } }

/-- The CHECK's results: 330 fails, 320 leaves the list, 340 becomes a suspect, the map issue rises. -/
theorem test_check :
    (after (.sledArrival .park) checking).nozzle.failed
        = [{ channel := .cyan, nozzle := 330 }, { channel := .grey, nozzle := 6143 }]
      ∧ (after (.sledArrival .park) checking).nozzle.issue = 1
      ∧ ((after (.sledArrival .park) checking).nozzle.groups.get .cyan)[5]?.map Group.suspects
          = some [340]
      ∧ (after (.sledArrival .park) checking).link.nozzleSlot.map Notice.added = some [330] := by
  decide +kernel

theorem witness_TheMapIssueFollowsTheFailedList :
    Completes (.sledArrival .park) checking (after (.sledArrival .park) checking)
      ∧ (Instr.sledArrival .park).powersOn = false := ⟨completes_after (by decide), rfl⟩

/-- A station whose first-fault record is filled. -/
def faulted : State :=
  { running with
    faults :=
      { active := [.overfill]
        record := some
          { raise := { code := .overfill, detail := .channel .cyan }, sheet := none, tag := none,
            position := 0 }
        count := 1, notice := none } }

theorem witness_FirstFaultRecordStands :
    (Completes .encoderCount faulted (after .encoderCount faulted)
        ∧ faulted.faults.record = some
          { raise := { code := .overfill, detail := .channel .cyan }, sheet := none, tag := none,
            position := 0 })
      ∧ Completes (.clearFaults 1) faulted (after (.clearFaults 1) faulted)
      ∧ (after (.clearFaults 1) faulted).faults.record = none :=
  ⟨⟨completes_after (by decide), rfl⟩, completes_after (by decide), by decide⟩

/-- FirstFaultRecordStands, the order of the faults of one event: a leak pulse beyond the limit that saturates
refilled raises VALVE LEAK (7) and TALLY OVERFLOW (14), and the first fills the record and the notice (R202). -/
theorem witness_FirstFaultRecordStands_order :
    let s : State := { running with
      refill := running.refill.set .cyan
        { running.refill.get .cyan with leakCount := 3, leakWindow := some 10 }
      tally :=
        { running.tally with
          channels := running.tally.channels.set .cyan
            { running.tally.channels.get .cyan with refilled := 4294967295 } } }
    Completes (.flowPulse .cyan) s (after (.flowPulse .cyan) s) ∧ s.faults.record = none
      ∧ (after (.flowPulse .cyan) s).faults.active = [.valveLeak, .tallyOverflow]
      ∧ (after (.flowPulse .cyan) s).faults.count = 2
      ∧ (after (.flowPulse .cyan) s).faults.record.map FirstFault.raise
          = some { code := .valveLeak, detail := .channel .cyan }
      ∧ (after (.flowPulse .cyan) s).faults.notice
          = some { code := .valveLeak, detail := .channel .cyan } :=
  ⟨completes_after (by decide), by decide, by decide, by decide, by decide, by decide⟩

/-- Sheet 7 with stations 0 to 2, of which the two others have aged to their LOST age. -/
def deserted : State :=
  { active with
    feed := { active.feed with
      sheet := some { sheet7 with active := pair.set 2 true } }
    link := { active.link with
      peers := (active.link.peers.set 1 { active.link.peers.get 1 with age := 30 }).set 2
        { active.link.peers.get 1 with age := 30 } } }

/-- The raising events of FirstFaultRecordStands: one fault each, and two PEER LOST in one event. -/
theorem witness_FirstFaultRecordStands_raises :
    (let s := serving .wipe .outbound (some .spit) none;
        let t : State := { s with service := { s.service with timeLeft := some 0 } };
        t.mode.resetPin = false ∧ t.service.current ≠ none ∧ t.service.timeLeft = some 0
        ∧ t.faults.record = none)
      ∧ running.mode.mode ≠ .halted
      ∧ (let s : State := { active with link := { active.link with
            controller := { presence := .present, age := 100 } } };
          s.controllerDue = true ∧ s.sheetInProgress = true)
      ∧ (deserted.feed.sheet.map SheetRecord.active = some (pair.set 2 true)
        ∧ deserted.sheetInProgress = true ∧ (1 : StationNo) < 2
        ∧ ∀ k, ((PerStation.fill true).get k = true ∧ deserted.peerDue k = true
            ∧ (pair.set 2 true).get k = true) ↔ k = 1 ∨ k = 2)
      ∧ (after (.peerEntryLost (PerStation.fill true)) deserted).faults.count = 2
      ∧ (after (.peerEntryLost (PerStation.fill true)) deserted).faults.record.map FirstFault.raise
          = some { code := .peerLost, detail := .station 1 } := by decide +kernel

/-- Sheet 7 with a band in a state, at a feed position. -/
def bandedAt (st : BandState) (p : Nat) : State :=
  { banded st with feed := { active.feed with position := p, commanded := p } }

theorem witness_PrintingComesFromCovered :
    (Completes .encoderCount (bandedAt .covered 1100) (after .encoderCount (bandedAt .covered 1100))
        ∧ band3 .printing ∈ (after .encoderCount (bandedAt .covered 1100)).bands.records)
      ∧ (Completes .encoderCount (bandedAt .printing 1110)
          (after .encoderCount (bandedAt .printing 1110))
        ∧ band3 .printing ∈ (after .encoderCount (bandedAt .printing 1110)).bands.records)
      ∧ (band3 .printing).state = .printing :=
  ⟨⟨completes_after (by decide), by decide⟩, ⟨completes_after (by decide), by decide⟩, rfl⟩

theorem witness_StatusIsHeardAsSent : active.statusFits := by
  refine ⟨by decide, ?_⟩
  show (0 : Nat) ≤ 16
  decide

theorem witness_OrdersAreReadAsWritten :
    ((Instr.feed 9 0x012345 2 true).wellFormed = true
        ∧ orderPayload (.feed 9 0x012345 2 true)
          = some (0, [0x09#8, 0x01#8, 0x23#8, 0x45#8, 0x06#8]) ∧ 0 ≠ 12
        ∧ ∀ ref n, Instr.feed 9 0x012345 2 true = .restart ref n → n = 0)
      ∧ (Instr.restart 1 3).wellFormed = true ∧ orderPayload (.restart 1 3) = some (15, [0x01#8])
      ∧ 15 ≠ 12 ∧ ∀ ref n, Instr.restart 1 3 = .restart ref n → n = 3 := by
  refine ⟨⟨by decide, by decide, by decide, fun _ _ h => (nomatch h)⟩, by decide, by decide, by decide,
    fun ref n h => ?_⟩
  cases h
  rfl

theorem witness_OrdersAreRefusedByModeOrName :
    (runOrder (.tallyPeek 1) = some (.tally, 1) ∧ loaded.mode.resetPin = false
        ∧ loaded.mode.mode ≠ .run)
      ∧ (configOrder (.configUnknownSection 1) = some 1 ∧ running.mode.resetPin = false
        ∧ running.mode.mode ≠ .config)
      ∧ running.mode.mode = .run ∧ loaded.mode.mode = .config := by decide

/-- The head request of a CHECK of group 197. -/
def checkRequest : HeadRequest := { number := 9, kind := .check [197] }

theorem witness_EventsNotTakenChangeNothing :
    (after .duplicateStationHeard running).mode.mode = .halted
      ∧ running.feed.phase ≠ .pending ∧ running.feed.phase ≠ .active
      ∧ (moving.feed.move = some move100
        ∧ ¬ ({ moving with feed := { moving.feed with fholdLine := true } } : State).mayStep move100)
      ∧ running.feed.move = none
      ∧ ((serving .wipe .outbound (some .spit) none).service.motion ≠ some .detect
        ∧ running.service.motion ≠ some .cap)
      ∧ (∀ h, (serving (.check [197]) .atHead none (some checkRequest)).service.head = some h →
          h.number ≠ 8)
      ∧ running.service.current = none := by
  refine ⟨by decide, by decide, by decide, ⟨by decide, fun h => absurd h.2.1 (by decide)⟩, by decide,
    ⟨by decide, by decide⟩, fun h e => ?_, by decide⟩
  cases e
  decide

theorem witness_FeedOrderStartsAMoveOrIsRefused :
    (running.running ∧ running.moveInProgress = false ∧ 1 ≤ 1 ∧ 1048575 ≤ 1048575)
      ∧ (loaded.mode.resetPin = false ∧ loaded.mode.mode ≠ .run)
      ∧ (moving.running ∧ moving.moveInProgress = true)
      ∧ ((0 : Nat) = 0 ∨ 1048575 < 0) ∧ ((1048576 : Nat) = 0 ∨ 1048575 < 1048576) := by
  unfold State.running
  decide

/-- Sheet 7 with the move running at a position, and a guard line of 200 heard from station 1. -/
def guarded (n : Nat) : State :=
  { moving with
    feed := { moving.feed with position := n, commanded := n }
    link := { moving.link with
      peers := moving.link.peers.set 1
        { presence := .present, age := 0
          fields := some { active.shown with sheet := some 7, guard := .line 200 } } } }

/-- The FHOLD drive of R76, condition by condition: a move that starts unready; the commanded count within the
margin of 10 of the limit of line 200, which is 1900, and one step short of that; the sled out one step within the
margin of the base of 1100 and one step short of that. -/
theorem test_fhold_drive :
    (let s : State := { waiting with service := { waiting.service with capped := true } };
        (after (.feed 1 50 0 false) s).feed.fholdDrive = true
        ∧ (after (.feed 1 50 0 false) s).feed.readinessHold = true
        ∧ (after (.feed 1 50 0 true) s).feed.fholdDrive = false
        ∧ (after (.feed 1 50 0 false) waiting).feed.fholdDrive = false)
      ∧ (after .stepDue (guarded 1889)).feed.fholdDrive = true
      ∧ (after .stepDue (guarded 1888)).feed.fholdDrive = false
      ∧ (let s (n : Nat) : State :=
            { moving with
              feed := { moving.feed with position := n, commanded := n }
              service := { moving.service with sled := .moving, closed := none } };
          (after .encoderCount (s 1089)).feed.fholdDrive = true
          ∧ (after .encoderCount (s 1088)).feed.fholdDrive = false) := by decide

/-- SheetOrderIsTested: each test failing in turn, and the longest travel that passes. -/
theorem witness_SheetOrderIsTested :
    loaded.mode.mode ≠ .run ∧ active.running ∧ active.betweenSheets = false
      ∧ ({ running with feed := { running.feed with move := some move100 } } : State).moveInProgress
          = true
      ∧ (running.running ∧ running.betweenSheets = true ∧ running.moveInProgress = false)
      ∧ ¬ ((∃ m, pair.get m = true) ∧ 1 ≤ 0 ∧ 0 ≤ 4194303)
      ∧ 16776212 + running.sec2.sensorDistance + 4 * 1 > 16777215
      ∧ ((∃ m, pair.get m = true) ∧ 1 ≤ 1 ∧ 1 ≤ 4194303 ∧ 1 ≤ 16776211 ∧ 16776211 ≤ 16777215
        ∧ 16776211 + running.sec2.sensorDistance + 4 * 1 ≤ 16777215) := by
  unfold State.running
  decide

theorem witness_SheetOrderTakesTheSheet :
    running.running ∧ running.sheetRefusal pair 1000 5000 = none
      ∧ (let s := { running with bands := { BandQueue.reset with sheetRef := some 7 } };
          s.running ∧ s.sheetRefusal pair 1000 5000 = none ∧ s.bands.sheetRef = some 7) := by
  unfold State.running
  decide

/-- A station between sheets with band 3 of sheet 7 PRINTING and two bands of sheet 8 held for the next. -/
def between : State :=
  { bandedAt .printing 1139 with
    feed := { running.feed with phase := .ended, sheet := some sheet7 }
    bands := { (banded .printing).bands with records :=
      [band3 .printing, { band3 .covered with tag := 4, sheet := 8 },
        { band3 .covered with tag := 5, sheet := 8, start := 10 }] } }

/-- SheetOrderTakesTheSheet: sheet 8 of 15 lines keeps the first of its records, drops the one that ends at line
20, and the PRINTING record of sheet 7 retires with its 10 nL; AbortSheetEndsTheSheet: both records of sheet 8
stay. -/
theorem witness_SheetOrderTakesTheSheet_records :
    (between.running ∧ between.sheetRefusal pair 15 5000 = none
        ∧ between.printing = some (band3 .printing) ∧ between.bands.sheetRef ≠ some 8
        ∧ between.bands.records.map BandRecord.endLine = [10, 10, 20])
      ∧ (let t := after (.sheet 1 8 pair 15 true false 5000) between;
          t.bands.records.map BandRecord.tag = [4] ∧ (t.ink.get .cyan).estimate = 4999990
          ∧ (t.tally.channels.get .cyan).bands = 1)
      ∧ (between.feed.phase ≠ .none ∧ between.bands.sheetRef = some (band3 .printing).sheet)
      ∧ (let t := after (.abortSheet 7) between;
          t.bands.records.map BandRecord.tag = [4, 5] ∧ (t.ink.get .cyan).estimate = 4999990)
      ∧ running.printing = none := by
  unfold State.running
  decide +kernel

theorem witness_AbortSheetEndsTheSheet :
    active.running ∧ ¬ (active.feed.phase = .none ∨ active.feed.sheet.map SheetRecord.sheet = some 8)
      ∧ (active.feed.phase = .none ∨ active.feed.sheet.map SheetRecord.sheet = some 7)
      ∧ (running.running ∧ (running.feed.phase = .none
        ∨ running.feed.sheet.map SheetRecord.sheet = some 8)) := by
  unfold State.running
  decide

/-- A station with sheet 7 current and none in progress, which takes bands of sheet 8. -/
def ended7 : State := { running with bands := { BandQueue.reset with sheetRef := some 7 } }

/-- BandOrderIsAccepted: a band that meets every test, as COVERED and as STALE, and one with clamped drops; the
last band of the sheet, and one of the next sheet. -/
theorem witness_BandOrderIsAccepted :
    (active.running ∧ (∀ r ∈ active.bands.records, r.tag ≠ 3) ∧ dropsClamped dropsOver = true)
      ∧ active.bands.records = []
      ∧ Passes (active.bandTests 7 0 256) ∧ Passes (active.bandTests 7 744 256)
      ∧ Passes (ended7.bandTests 8 0 10)
      ∧ (active.feed.phase ≠ .none ∧ active.feed.sheet = some sheet7
        ∧ active.bands.sheetRef = some 7)
      ∧ (after (.band 1 3 7 0 10 0 drops1000) active).bands.guard = .line 10
      ∧ (after (.band 1 3 7 744 256 0 drops1000) active).bands.guard = .allClear
      ∧ (after (.band 1 3 7 0 10 1 drops1000) active).bands.guard = .line 0
      ∧ (after (.band 1 3 7 0 10 0 drops1000) active).bands.records = [band3 .covered]
      ∧ (after (.band 1 3 7 0 10 1 drops1000) active).bands.records.map BandRecord.state
          = [.stale] := by
  refine ⟨?_, by decide, ?_, ?_, ?_, by decide, by decide, by decide, by decide, by decide, by decide⟩
  · unfold State.running
    decide
  all_goals
    simp only [Passes, State.bandTests]
    decide

/-- BandOrderIsAccepted with a record ahead: with the reserve of 1 000 000 nL and 10 nL a band, cyan covers both
bands at 1 000 020 nL, the first alone a nanolitre below, neither below 1 000 010; behind a PRINTING record the band
is judged, and behind a STALE one it stays ANNOUNCED (R19, R20). -/
theorem witness_BandOrderIsAccepted_walk :
    let s (st : BandState) (n : Nat) : State :=
      { banded st with
        ink := running.ink.set .cyan { running.ink.get .cyan with estimate := n } }
    let states (st : BandState) (n : Nat) :=
      (after (.band 1 4 7 10 10 0 drops1000) (s st n)).bands.records.map BandRecord.state
    ((s .covered 1000020).running ∧ (∀ r ∈ (s .covered 1000020).bands.records, r.tag ≠ 4)
        ∧ Passes ((s .covered 1000020).bandTests 7 10 10))
      ∧ states .announced 1000020 = [.covered, .covered]
      ∧ states .announced 1000019 = [.covered, .announced]
      ∧ states .covered 1000009 = [.announced, .announced]
      ∧ states .printing 1000020 = [.printing, .covered]
      ∧ states .stale 1000020 = [.stale, .announced] := by
  refine ⟨⟨?_, by decide, ?_⟩, by decide, by decide, by decide, by decide, by decide⟩
  · unfold State.running
    decide
  · simp only [Passes, State.bandTests]
    decide

/-- BandOrderIsRefusedOrReplaces: a tag held; each step of R44 and of R46 the first to fail. -/
theorem witness_BandOrderIsRefusedOrReplaces :
    ((banded .announced).running
        ∧ (banded .announced).bands.records.find? (fun r => r.tag = 3) = some (band3 .announced)
        ∧ ¬ ((band3 .announced).state = .stale ∧ (band3 .announced).sheet = 7
          ∧ (band3 .announced).start = 0))
      ∧ (running.running ∧ ∀ r ∈ running.bands.records, r.tag ≠ 3)
      ∧ FailsWith (running.bandTests 7 0 10) .refusedSequence
      ∧ FailsWith (active.bandTests 7 0 257) .refusedRange
      ∧ FailsWith ((banded .announced).bandTests 7 9 1) .refusedSequence
      ∧ FailsWith ((bandedAt .printing 1181).bandTests 7 20 1) .refusedSequence
      ∧ FailsWith (active.bandTests 7 745 256) .refusedRange
      ∧ ((banded .stale).running
        ∧ (banded .stale).bands.records.find? (fun r => r.tag = 3) = some (band3 .stale)
        ∧ (band3 .stale).state = .stale ∧ (band3 .stale).start = 0)
      ∧ FailsWith ((banded .stale).replaceTests (band3 .stale) 0) .refusedRange
      ∧ Passes ((banded .stale).replaceTests (band3 .stale) 256) := by
  refine ⟨?_, ?_, ⟨[_], _, _, rfl, ?_, ?_⟩, ⟨[_, _], _, _, rfl, ?_, ?_⟩, ⟨[_, _, _], _, _, rfl, ?_, ?_⟩,
    ⟨[_, _, _, _], _, _, rfl, ?_, ?_⟩, ⟨[_, _, _, _, _], _, _, rfl, ?_, ?_⟩, ?_,
    ⟨[], _, _, rfl, ?_, ?_⟩, ?_⟩
  all_goals
    first
      | decide
      | (unfold State.running; decide)
      | (simp only [Passes]; done)
      | (simp only [Passes, State.replaceTests]; decide)

theorem witness_ServiceOrderIsTakenOrRefused :
    (serviceRequest (.serviceWipe 1) = some (1, .wipe) ∧ running.running
        ∧ running.orderInHand = false ∧ running.serviceFits (.serviceWipe 1) = true)
      ∧ ((serving .gapSpit .outbound (some .spit) none).orderInHand = true
        ∧ (serving .gapSpit .outbound (some .spit) none).mayStart = false)
      ∧ (let s := { running with service := { running.service with stopped := true } };
          s.running ∧ s.orderInHand = false ∧ s.mayStart = false)
      ∧ (serviceRequest (.serviceCheck 1 []) = some (1, .check [])
        ∧ running.serviceFits (.serviceCheck 1 []) = false
        ∧ running.serviceFits (.serviceCheck 1 [576]) = false
        ∧ running.serviceFits (.serviceCheck 1 [575]) = true)
      ∧ (7 : Nat) ≤ 7 ∧ (7 : Nat) < 8 := by
  unfold State.running
  decide

theorem witness_ServiceWipeStartsAtOnce :
    running.running ∧ running.mayStart = true ∧ running.service.stack = []
      ∧ running.service.pending = PerSource.fill false ∧ running.service.capped = false
      ∧ running.service.sled = .standing .park ∧ running.service.motion = none
      ∧ running.service.closed = some .park ∧ running.sheetClear = true
      ∧ running.sourceLevel .order ≤ running.service.mask := by
  unfold State.running
  decide

/-- A station in RUN with a WIPE ordered and CAP-IDLE pending, its sled at a place. -/
def asking (p : SledPosition) (c : Option SledPlace) : State :=
  { running with service := { running.service with
      sled := p, closed := c, order := some .wipe
      pending := ((PerSource.fill false).set .order true).set .capIdle true } }

/-- ServiceWipeStartsAtOnce, the choice: of ORDER and CAP-IDLE, both eligible, ORDER of the lower level is chosen;
with the sled UNKNOWN, HOME starts first; a mask of 0 leaves neither eligible. -/
theorem witness_ServiceWipeStartsAtOnce_choice :
    (∀ s ∈ [asking (.standing .park) (some .park), asking .unknown none],
        s.running ∧ s.service.current = none ∧ s.service.stopped = false ∧ s.recoveryUnblocked
        ∧ (s.atMask 7).mayChoose .order ∧ (s.atMask 7).mayChoose .capIdle
        ∧ (∀ o, (s.atMask 7).mayChoose o → s.choosesBefore .order o)
        ∧ s.sequenceOf .order = ([.wipe], none)
        ∧ (∀ o, ¬ (s.atMask 0).mayChoose o) ∧ s.service.stack = [])
      ∧ (let t := after (.setMask 1 7) (asking (.standing .park) (some .park));
          t.service.stack.map Sequence.source = [.order] ∧ t.service.pending.capIdle = true)
      ∧ (let t := after (.setMask 1 7) (asking .unknown none);
          t.service.current.map CurrentAction.action = some .home ∧ t.service.stack = [])
      ∧ (after (.setMask 1 0) (asking .unknown none)).service.current = none := by
  refine ⟨fun s h => ?_, by decide, by decide, by decide⟩
  rcases List.mem_cons.1 h with rfl | h
  · exact ⟨⟨rfl, rfl⟩, rfl, rfl, fun _ => rfl, ⟨rfl, by decide, fun q h => (nomatch h), _, rfl, rfl, by decide, trivial⟩,
      ⟨rfl, by decide, fun q h => (nomatch h), _, rfl, rfl, by decide, trivial⟩,
      fun o h => by cases o <;> first | exact absurd h.1 (by decide) | (unfold State.choosesBefore; decide),
      rfl, fun o h => by cases o <;> first | exact absurd h.1 (by decide) | exact absurd h.2.1 (by decide), rfl⟩
  · rcases List.mem_singleton.1 h with rfl
    exact ⟨⟨rfl, rfl⟩, rfl, rfl, fun _ => rfl, ⟨rfl, by decide, fun q h => (nomatch h), _, rfl, rfl, by decide, trivial⟩,
      ⟨rfl, by decide, fun q h => (nomatch h), _, rfl, rfl, by decide, trivial⟩,
      fun o h => by cases o <;> first | exact absurd h.1 (by decide) | (unfold State.choosesBefore; decide),
      rfl, fun o h => by cases o <;> first | exact absurd h.1 (by decide) | exact absurd h.2.1 (by decide), rfl⟩

/-- ServiceWipeStartsAtOnce, the other boundaries: the top of the stack goes on, or waits for the sheet; a stopped
arbiter; UNCAP-NEED for a station capped under its own sheet (R109). -/
theorem witness_ServiceWipeStartsAtOnce_boundaries :
    let top : Sequence := { source := .recovery, level := 4, actions := [.wipe, .gapSpit], channel := none }
    let s : State := { running with service := { running.service with stack := [top] } }
    let under : State := { s with feed := { active.feed with underSegment := true } }
    let capped (b : Bool) : State :=
      { waiting with service := { waiting.service with
          capped := true, stopped := b, sled := .standing .cap, closed := some .cap } }
    (s.running ∧ s.service.current = none ∧ s.service.stopped = false ∧ s.recoveryUnblocked
        ∧ (∀ o, ¬ (s.atMask 7).mayChoose o) ∧ s.service.stack = [top] ∧ s.mayBegin .wipe
        ∧ s.service.sled = .standing .park ∧ s.service.closed = some .park)
      ∧ ((∀ o, ¬ (under.atMask 7).mayChoose o) ∧ ¬ under.mayBegin .wipe)
      ∧ ((capped false).wantsUncap ∧ ((capped true).atMask 7).service.pending.uncapNeed = true)
      ∧ (after (.setMask 1 7) s).service.current.map CurrentAction.action = some .wipe
      ∧ (after (.setMask 1 7) under).service.current = none
      ∧ (after (.setMask 1 7) (capped false)).service.current.map CurrentAction.action = some .uncap
      ∧ (after (.setMask 1 7) (capped true)).service.pending.uncapNeed = true := by
  refine ⟨⟨⟨rfl, rfl⟩, rfl, rfl, fun _ => rfl, fun o h => ?_, rfl, ⟨rfl, by decide, trivial⟩, rfl, rfl⟩,
    ⟨fun o h => ?_, fun h => absurd h.1 (by decide)⟩, by decide, by decide, by decide, by decide, by decide⟩
  all_goals cases o <;> exact absurd h.1 (by decide)

theorem witness_SettingsOrderReplacesThePendingCopy :
    loaded.mode.mode ≠ .run
      ∧ (running.mode.resetPin = false ∧ running.mode.mode = .run
        ∧ (running.reservoir .cyan).fullLevel
          ≤ ((PerChannel.fill { metering with refillMark := 8000000 }).get .cyan).refillMark
        ∧ ∀ c, ((PerChannel.fill { metering with refillMark := 7999999 }).get c).refillMark
            < (running.reservoir c).fullLevel) :=
  ⟨by decide, by decide, by decide, by decide, fun c => by cases c <;> decide⟩

/-- TallyCloseOpensANewPeriod and TallyPeekReportsThePeriodSoFar, with a report outstanding and without. -/
theorem witness_Tally :
    running.running ∧ running.tally.outstanding = false
      ∧ (let s := { running with tally := { running.tally with outstanding := true } };
          s.running ∧ s.tally.outstanding = true) := by
  unfold State.running
  decide

/-- The empty set of channels. -/
def noChannels : ChannelSet := PerChannel.fill false

/-- Cyan alone. -/
def onlyCyan : ChannelSet := (PerChannel.fill false).set .cyan true

theorem witness_ClearOrderDoesItsParts :
    faulted.running
      ∧ (clearRequest (.clearOrder 1 false noChannels noChannels) = some (1, false, noChannels, noChannels)
        ∧ noChannels.anySet = false)
      ∧ clearRequest (.clearFaults 1) = some (1, true, noChannels, noChannels)
      ∧ (clearRequest (.clearLadder 1 onlyCyan) = some (1, false, onlyCyan, noChannels) ∧ onlyCyan.anySet = true)
      ∧ clearRequest (.clearLineStarved 1 onlyCyan) = some (1, false, noChannels, onlyCyan) := by
  unfold State.running
  exact ⟨by decide, by decide, by decide, by decide, by decide⟩

/-- Cyan in a refill state with its marks as given, FULL DRY, at an estimate. -/
def marked (st : RefillState) (starved locked : Bool) (n : Nat) : State :=
  { running with
    ink := running.ink.set .cyan { running.ink.get .cyan with estimate := n }
    refill := running.refill.set .cyan
      { running.refill.get .cyan with
        state := st, starvedMark := starved, lockedMark := locked, leakCount := 2,
        leakWindow := some 500 } }

/-- CLEAR line-starved takes a STARVED channel to LOCKED by its mark, to IDLE, or on to OPEN where it needs ink;
CLEAR faults takes a LOCKED one to STARVED by its mark or to IDLE, with its leak count and window gone (R38,
R39). -/
theorem test_clear_refill :
    ((after (.clearLineStarved 1 onlyCyan) (marked .starved true true 5000000)).refill.get .cyan).state
        = .locked
      ∧ ((after (.clearLineStarved 1 onlyCyan) (marked .starved true false 5000000)).refill.get
          .cyan).state = .idle
      ∧ ((after (.clearLineStarved 1 onlyCyan) (marked .starved true false 3999999)).refill.get
          .cyan).state = .opened
      ∧ ((after (.clearFaults 1) (marked .locked true true 5000000)).refill.get .cyan).state = .starved
      ∧ (let x := (after (.clearFaults 1) (marked .locked false true 5000000)).refill.get .cyan;
          x.state = .idle ∧ x.leakCount = 0 ∧ x.leakWindow = none)
      ∧ ((after (.clearFaults 1) (marked .held false true 5000000)).refill.get .cyan).state = .held
      ∧ (after (.clearFaults 1) (marked .locked true true 5000000)).purgeRunning = false := by decide

/-- A section 0 whose FULL mark is at a level below a capacity of 10 000 000 nL. -/
def fullAt (low full : Nat) : Section0 :=
  { enabled := PerChannel.fill true
    reservoir := PerChannel.fill
      { capacity := 10000000, lowLevel := low, fullLevel := full, tolerance := 0, credit := 100 } }

/-- ConfigSectionsAreHeldAsClamped: marks at and beyond their tests, a first part held and none. -/
theorem witness_ConfigSectionsAreHeldAsClamped :
    (loaded.mode.resetPin = false ∧ loaded.mode.mode = .config)
      ∧ (Section0Clamped (fullAt 5 5) (fullAt 5 5) ∧ ¬ marksWithin (fullAt 5 5)
        ∧ ¬ marksWithin (fullAt 5 10000001))
      ∧ marksWithin (fullAt 9999999 10000000)
      ∧ (∀ y, loaded.mode.firstPart ≠ some { ref := 1, content := y })
      ∧ (let s := { loaded with mode := { loaded.mode with
            firstPart := some { ref := 1, content := configured.sec3.first } } };
          s.mode.resetPin = false ∧ s.mode.mode = .config
          ∧ s.mode.firstPart = some { ref := 1, content := configured.sec3.first }) := by
  refine ⟨by decide, ⟨⟨rfl, fun c => ?_⟩, fun h => absurd (h .cyan) (by decide),
    fun h => absurd (h .cyan) (by decide)⟩, fun c => by cases c <;> decide, fun y h => (nomatch h),
    by decide⟩
  unfold Clamped
  cases c <;> decide

theorem witness_StartOrderIsTested :
    running.mode.mode ≠ .config
      ∧ (State.reset.mode.mode = .config ∧ State.reset.mode.received0 = false)
      ∧ (let s := { loaded with mode := { loaded.mode with
            held := { configured with sec3 := { configured.sec3 with
              initial := PerChannel.fill { metering with refillMark := 8000000 } } } } };
          s.mode.mode = .config ∧ s.mode.received0 = true ∧ s.mode.received1 = true
          ∧ s.mode.received2 = true ∧ s.mode.received3 = true
          ∧ (s.mode.held.sec0.reservoir.get .grey).fullLevel
            ≤ (s.mode.held.sec3.initial.get .grey).refillMark)
      ∧ (loaded.mode.resetPin = false ∧ loaded.mode.mode = .config ∧ loaded.mode.received0 = true
        ∧ loaded.mode.received1 = true ∧ loaded.mode.received2 = true ∧ loaded.mode.received3 = true
        ∧ ∀ c, (loaded.mode.held.sec3.initial.get c).refillMark
            < (loaded.mode.held.sec0.reservoir.get c).fullLevel) :=
  ⟨by decide, by decide, by decide, by decide, by decide, by decide, by decide, by decide, by decide,
    fun c => by cases c <;> decide⟩

/-- StartPutsTheConfigurationInForce and RestartGivesEveryBlockItsRestartValues. -/
theorem witness_StartAndRestart :
    (loaded.mode.resetPin = false ∧ loaded.startRefusal = none) ∧ running.mode.resetPin = false := by
  decide

/-- A link at the ends of its counts: the neighbour's age at three status periods, the controller's at its
timeout, the error window over. -/
def overdue : State :=
  { active with link := { active.link with
      periodCount := 10, spacingCount := 2, early := true
      errorWindow := some { left := 0, base := 0, raised := false }
      peers := active.link.peers.set 1 { active.link.peers.get 1 with age := 30 }
      controller := { presence := .present, age := 100 } } }

/-- StartPutsTheConfigurationInForce, block by block: the channels are enabled anew, HELD, with the FULL mark
WET and not; the drive is free to go; an entry and the controller are at their ages, and the status is due. -/
theorem witness_StartPutsTheConfigurationInForce_blocks :
    let wetMark : Mark := { state := .wet, raw := true, sample := true, count := 0 }
    let wetFull : State :=
      { loaded with ink := loaded.ink.set .cyan { loaded.ink.get .cyan with full := wetMark } }
    let aged : State := { loaded with link := { overdue.link with statusDue := false } }
    let t := after (.start 1) wetFull
    (wetFull.mode.resetPin = false ∧ wetFull.startRefusal = none ∧ wetFull.enabled .cyan = false
        ∧ (wetFull.ink.get .cyan).estimate = 0 ∧ (wetFull.ink.get .cyan).residue = 0
        ∧ (wetFull.ink.get .grey).full.state ≠ .wet)
      ∧ (wetFull.purgeRunning = false ∧ (wetFull.refill.get .cyan).state = .held
        ∧ wetFull.sheetInProgress = false ∧ wetFull.moveInProgress = false
        ∧ wetFull.sheetStopped = false)
      ∧ (aged.startRefusal = none ∧ aged.mode.held.sec1.statusPeriod ≤ aged.link.periodCount
        ∧ (aged.link.peers.get 1).presence = .present
        ∧ 3 * aged.mode.held.sec1.statusPeriod ≤ (aged.link.peers.get 1).age
        ∧ aged.mode.held.sec1.controllerTimeout ≤ aged.link.controller.age)
      ∧ t.purgeRunning = false ∧ (t.ink.get .cyan).estimate = 8000000
      ∧ (t.ink.get .cyan).state = .known ∧ (t.tally.channels.get .cyan).adjusted = 8000000
      ∧ (t.ink.get .grey).state = .unknown ∧ (t.refill.get .cyan).state = .idle
      ∧ t.feed.fholdDrive = false
      ∧ (after (.start 1) aged).link.controller.presence = .lost := by decide +kernel

/-- StartPutsTheConfigurationInForce, the estimates: a KNOWN channel above its new capacity, and one that the
new configuration disables. -/
theorem test_start_clamps_and_disables :
    let small : Reservoir :=
      { capacity := 4500000, lowLevel := 1000000, fullLevel := 4400000, tolerance := 0, credit := 1000 }
    let sec0 : Section0 :=
      { enabled := (PerChannel.fill true).set .grey false
        reservoir := configured.sec0.reservoir.set .cyan small }
    let s : State :=
      { running with mode :=
          { loaded.mode with inForce := configured, held := { configured with sec0 := sec0 } } }
    let t := after (.start 1) s
    (s.mode.resetPin = false ∧ s.startRefusal = none)
      ∧ (t.ink.get .cyan).estimate = 4500000 ∧ (t.tally.channels.get .cyan).adjusted = -500000
      ∧ (t.ink.get .grey).estimate = 0 ∧ (t.ink.get .grey).state = .unknown
      ∧ (t.tally.channels.get .grey).adjusted = -5000000
      ∧ (t.ink.get .yellow).estimate = 5000000 := by decide +kernel

/-- A RESTART that closes a valve asks for an early STATUS, due at once with the spacing count at 2; one that
changes nothing to report keeps the mark (R40, R179, R187). -/
theorem test_restart_early :
    (let s : State := { marked .opened false false 5000000 with
        link := { running.link with statusDue := false, early := false, spacingCount := 2 } };
      (after (.restart 1 0) s).link.early = true ∧ (after (.restart 1 0) s).link.statusDue = true)
    ∧ (let s : State := { running with
        link := { running.link with statusDue := false, early := false, spacingCount := 2 } };
      running.bands.guard = .line 0
      ∧ (after (.restart 1 0) s).link.early = false ∧ (after (.restart 1 0) s).link.statusDue = false) := by
  decide

/-- DuplicateStationHalts in CONFIG and in RUN. -/
theorem witness_DuplicateStationHalts :
    (loaded.mode.resetPin = false ∧ loaded.mode.mode ≠ .halted)
      ∧ (running.mode.resetPin = false ∧ running.mode.mode ≠ .halted)
      ∧ (∃ f, Instr.peerStatusHeard running.mode.station running.shown
          = .peerStatusHeard running.mode.station f) := ⟨by decide, by decide, running.shown, rfl⟩

/-- A station with sheet 7 in progress that has heard the controller. -/
def beaconed : State :=
  { active with link := { active.link with controller := { presence := .present, age := 100 } } }

theorem witness_HeardFramesFillTheirEntries :
    (active.mode.resetPin = false ∧ (1 : StationNo) ≠ active.mode.station)
      ∧ (beaconed.mode.resetPin = false ∧ beaconed.link.controller.presence ≠ .lost
        ∧ beaconed.sheetInProgress = true) := by decide

/-- The neighbour's STATUS with cyan OPEN at a deficit class. -/
def opensCyan (n : Nat) : PeerStatus :=
  { active.shown with
    channels :=
      (PerChannel.fill { state := .idle, effective := 0, starved := false }).set .cyan
        { state := .opened, effective := n, starved := false } }

/-- A station in RUN with cyan OPEN at class 1, which shows station 1 OPEN at class 2, under a budget of 2. -/
def opening : State :=
  { running with
    ink := running.ink.set .cyan { running.ink.get .cyan with estimate := 3999999 }
    refill := running.refill.set .cyan
      { running.refill.get .cyan with
        state := .opened, effective := 1, window := some { elapsed := 5, pulses := 3 } }
    link := { running.link with
      peers := running.link.peers.set 1
        { presence := .present, age := 0, fields := some (opensCyan 2) } } }

/-- HeardFramesFillTheirEntries, the back-off: a second OPEN peer at a higher class or at the same class reaches
the budget or not. -/
theorem witness_HeardFramesFillTheirEntries_backoff :
    opening.blockFollows ∧ opening.mode.resetPin = false ∧ (opening.refill.get .cyan).state = .opened
      ∧ opening.sec1.budget.get .cyan = 2
      ∧ (after (.peerStatusHeard 2 (opensCyan 2)) opening).openAhead .cyan = 2
      ∧ (after (.peerStatusHeard 2 (opensCyan 1)) opening).openAhead .cyan = 1 := by
  unfold State.blockFollows
  decide

/-- A station with link errors counted in a window. -/
def errored (n : Nat) (raised : Bool) : State :=
  { running with link := { running.link with
      errors := n, errorWindow := some { left := 500, base := 0, raised := raised } } }

theorem witness_LinkErrorsAreCounted :
    (running.mode.resetPin = false ∧ running.link.errorWindow = none ∧ 1 ≤ running.sec1.errorLimit)
      ∧ ((errored 1 false).link.errorWindow = some { left := 500, base := 0, raised := false }
        ∧ Nat.min 65535 ((errored 1 false).link.errors + 1) ≤ 0 + (errored 1 false).sec1.errorLimit)
      ∧ ((after .frameBegin running).mode.resetPin = false
        ∧ (after .frameBegin running).link.tx.isSome = true)
      ∧ (loaded.mode.resetPin = false ∧ loaded.mode.started = false)
      ∧ ((errored 2 false).link.errorWindow = some { left := 500, base := 0, raised := false }
        ∧ (errored 2 false).mode.started = true
        ∧ 0 + (errored 2 false).sec1.errorLimit
          < Nat.min 65535 ((errored 2 false).link.errors + 1))
      ∧ (errored 2 true).link.errorWindow = some { left := 500, base := 0, raised := true } := by
  decide

/-- OwnFrameBeginsAndIsLost: the STATUS alone due, the FAULT NOTICE before it, a NOZZLE NOTICE that CONFIG does not
offer, and nothing to send. -/
theorem witness_OwnFrameBeginsAndIsLost :
    (running.mode.resetPin = false ∧ running.sends .status ∧ running.link.tx = none)
      ∧ (after .frameBegin running).link.tx.isSome = true
      ∧ ({ running with link := { running.link with faultSlot := true } } : State).sends .faultNotice
      ∧ ({ loaded with link := { loaded.link with
          nozzleSlot := some
            { issue := 1, group := 197, added := [], removed := [], span := 0, spanOver := false } } } :
          State).sends .status
      ∧ (∀ x, ¬ ({ running with link := { running.link with statusDue := false } } : State).sends x)
      ∧ (after .frameBegin running).mode.resetPin = false := by
  refine ⟨⟨rfl, ⟨rfl, fun _ => ⟨rfl, rfl⟩, rfl⟩, rfl⟩, by decide, rfl,
    ⟨rfl, fun h => absurd h (by decide), rfl⟩, fun x => ?_, by decide⟩
  cases x <;> simp only [State.sends] <;> decide

/-- A station with a frame of a slot on the line. -/
def sending (x : Slot) (replaced : Bool) (parts : Nat) (notices : List Notice) : State :=
  { running with
    nozzle := { Nozzle.reset with notices := notices }
    link := { running.link with
      faultSlot := true
      nozzleSlot := some
        { issue := 1, group := 197, added := [330], removed := [], span := 3, spanOver := false }
      reportSlot := some { report := running.snapshot false false, partsSent := parts }
      tx := some { slot := x, bytes := [], replaced := replaced, age := 4, earlyBefore := false } } }

theorem witness_SentFrameAdvancesItsSlot :
    let n : Notice :=
      { issue := 2, group := 198, added := [], removed := [400], span := 0, spanOver := false }
    (sending .faultNotice false 0 []).link.tx = some
          { slot := .faultNotice, bytes := [], replaced := false, age := 4, earlyBefore := false }
      ∧ (sending .faultNotice true 0 []).link.tx.map TxFrame.replaced = some true
      ∧ (sending .nozzleNotice false 0 []).nozzle.notices = []
      ∧ (sending .nozzleNotice false 0 [n]).nozzle.notices = [n]
      ∧ ((sending .tallyReport false 1 []).link.reportSlot.map ReportSlot.partsSent = some 1)
      ∧ ((sending .tallyReport false 2 []).link.reportSlot.map ReportSlot.partsSent = some 2)
      ∧ ((sending .status false 0 []).link.early = false
        ∧ 4 < (sending .status false 0 []).sec1.statusPeriod)
      ∧ (sending .status false 0 []).mode.resetPin = false := by decide

theorem witness_LinkTimersAct :
    overdue.mode.resetPin = false ∧ overdue.sec1.statusPeriod ≤ overdue.link.periodCount
      ∧ 2 ≤ overdue.link.spacingCount ∧ overdue.link.early = true
      ∧ overdue.link.errorWindow = some { left := 0, base := 0, raised := false }
      ∧ (overdue.peerDue 1 = true ∧ pair.get 1 = true)
      ∧ ((overdue.peerDue 2 = false ∧ active.peerDue 1 = false))
      ∧ (overdue.feed.sheet = some sheet7 ∧ overdue.sheetInProgress = true
        ∧ sheet7.active.get 1 = true)
      ∧ overdue.controllerDue = true := by decide

/-- A station in RUN whose cyan channel stands at other values. -/
def withInk (f : InkChannel → InkChannel) : State :=
  { running with ink := running.ink.set .cyan (f (running.ink.get .cyan)) }

/-- MarksReconcileAndSettle: the tick's sample of a settled and of a SETTLING mark, on both readings, 20 samples
behind a change of either mark and behind a settling, and 19. -/
theorem witness_MarksReconcileAndSettle :
    (let s := sampledMark running .cyan .low false 20;
        s.mode.resetPin = false ∧ s.pending = [] ∧ s.enabled .cyan = true
        ∧ 20 ≤ ((s.ink.get .cyan).mark .low).count ∧ ((s.ink.get .cyan).mark .low).sample = false
        ∧ ((s.ink.get .cyan).mark .low).state ≠ .settling
        ∧ ((s.ink.get .cyan).mark .low).state ≠ markReading false
        ∧ (s.ink.get .cyan).state = .known)
      ∧ (let s := sampledMark (withInk fun x => { x with state := .unknown, estimate := 0 }) .cyan
            .full true 20;
          s.enabled .cyan = true ∧ (s.ink.get .cyan).state = .unknown
          ∧ 20 ≤ ((s.ink.get .cyan).mark .full).count ∧ ((s.ink.get .cyan).mark .full).sample = true
          ∧ ((s.ink.get .cyan).mark .full).state ≠ .settling
          ∧ ((s.ink.get .cyan).mark .full).state ≠ markReading true)
      ∧ (let s := sampledMark loaded .cyan .full false 20;
          s.mode.resetPin = false ∧ ((s.ink.get .cyan).mark .full).state = .settling
          ∧ 20 ≤ ((s.ink.get .cyan).mark .full).count
          ∧ ((s.ink.get .cyan).mark .full).sample = false
          ∧ ((s.ink.get .cyan).mark .full).raw = ((s.ink.get .cyan).mark .full).sample)
      ∧ ((sampledMark running .cyan .low false 19).ink.get .cyan).low.count < 20
      ∧ markReading ((running.ink.get .cyan).mark .low).raw = ((running.ink.get .cyan).mark .low).state
      ∧ (let s := loaded.markLine .cyan .full true;
          ((s.ink.get .cyan).mark .full).raw ≠ ((s.ink.get .cyan).mark .full).sample) := by decide

/-- MarksReconcileAndSettle: a LOW mark turns DRY 100 000 nL above its level, which is the tolerance, and a
nanolitre farther; and an UNKNOWN channel's LOW mark turns DRY (R4, R16). -/
theorem witness_MarksReconcileAndSettle_tolerance :
    let s (n : Nat) (known : Bool) := sampledMark
      (withInk fun x => { x with estimate := n, state := if known then .known else .unknown })
      .cyan .low false 20
    let t (n : Nat) (known : Bool) := after (.markChange .cyan .low false) (s n known)
    ((s 2100000 true).enabled .cyan = true ∧ (((s 2100000 true).ink.get .cyan).mark .low).state = .wet
        ∧ ((s 0 false).ink.get .cyan).state = .unknown)
      ∧ (t 2100000 true).faults.active = [] ∧ ((t 2100000 true).ink.get .cyan).estimate = 2000000
      ∧ (t 2100001 true).faults.active = [.driftExcess]
      ∧ ((t 0 false).ink.get .cyan).estimate = 0 ∧ (t 0 false).tally = (s 0 false).tally := by decide

/-- MarksReconcileAndSettle: a mark change of a disabled channel. -/
theorem witness_MarksReconcileAndSettle_disabled :
    let s := sampledMark { loaded with ink := running.ink } .cyan .low false 20
    s.mode.resetPin = false ∧ s.enabled .cyan = false ∧ 20 ≤ ((s.ink.get .cyan).mark .low).count
      ∧ ((s.ink.get .cyan).mark .low).sample = false
      ∧ ((s.ink.get .cyan).mark .low).state ≠ .settling
      ∧ ((s.ink.get .cyan).mark .low).state ≠ markReading false := by decide

/-- A station in RUN whose cyan refill channel stands at other values. -/
def withRefill (f : RefillChannel → RefillChannel) : State :=
  { running with refill := running.refill.set .cyan (f (running.refill.get .cyan)) }

theorem witness_FlowPulseCreditsAndLocks :
    (running.enabled .cyan = true ∧ (running.ink.get .cyan).state = .known)
      ∧ ((withInk fun x => { x with state := .unknown, estimate := 0 }).ink.get .cyan).state = .unknown
      ∧ loaded.enabled .cyan = false
      ∧ (let s := withRefill fun x => { x with leakCount := 3, leakWindow := some 10 };
          s.mode.resetPin = false ∧ s.mode.started = true ∧ (s.refill.get .cyan).state ≠ .opened
          ∧ s.sec1.leakLimit ≤ (s.refill.get .cyan).leakCount ∧ s.sec1.leakLimit ≤ 255
          ∧ (s.refill.get .cyan).leakWindow.isSome = true) := by decide

/-- FlowPulseCreditsAndLocks: the first leak pulse and the one that brings the count to the limit of 3, with the
valve closed, and one before the first START (R35, R194). -/
theorem witness_FlowPulseCreditsAndLocks_leak :
    let s (n : Nat) (w : Option Nat) := withRefill fun x => { x with leakCount := n, leakWindow := w }
    let t (n : Nat) (w : Option Nat) := after (.flowPulse .cyan) (s n w)
    (((s 2 (some 10)).refill.get .cyan).state = .idle ∧ 2 + 1 ≤ (s 2 (some 10)).sec1.leakLimit)
      ∧ loaded.mode.started = false ∧ (loaded.refill.get .cyan).state = .held
      ∧ ((t 0 none).refill.get .cyan).leakCount = 1
      ∧ ((t 0 none).refill.get .cyan).leakWindow = some 1000
      ∧ ((t 2 (some 10)).refill.get .cyan).leakCount = 3
      ∧ ((t 2 (some 10)).refill.get .cyan).leakWindow = some 10
      ∧ (t 2 (some 10)).faults.active = []
      ∧ (t 3 (some 10)).faults.active = [.valveLeak] := by decide

/-- FlowPulseCreditsAndLocks: a leak pulse to cyan in WANT that brings its class from 2 to 1 opens the valve in its
event, which clears count and window (R28). -/
theorem test_leak_in_want :
    let s : State :=
      { withInk fun x => { x with estimate := 1999000 } with
        refill := running.refill.set .cyan
          { running.refill.get .cyan with
            state := .want, deficit := 2, effective := 2, leakCount := 1, leakWindow := some 10 } }
    let t := after (.flowPulse .cyan) s
    (t.refill.get .cyan).effective = 1 ∧ (t.refill.get .cyan).state = .opened
      ∧ (t.refill.get .cyan).leakCount = 0 ∧ (t.refill.get .cyan).leakWindow = none := by decide

/-- Cyan OPEN in RUN at an estimate, with the overfill level at 8 100 000 nL and pulses of 1000 nL. -/
def overfilling (n : Nat) : State :=
  { withInk fun x => { x with estimate := n } with
    refill := running.refill.set .cyan
      { running.refill.get .cyan with
        state := .opened, window := some { elapsed := 5, pulses := 3 } } }

/-- FlowPulseCreditsAndLocks with the valve open: a pulse that reaches the overfill level, one that stays a
nanolitre below it, and one with the FULL mark WET. -/
theorem witness_FlowPulseCreditsAndLocks_overfill :
    ((overfilling 8099000).mode.resetPin = false
        ∧ ((overfilling 8099000).refill.get .cyan).state = .opened
        ∧ ((overfilling 8099000).ink.get .cyan).full.state ≠ .wet
        ∧ ((after (.flowPulse .cyan) (overfilling 8099000)).ink.get .cyan).estimate = 8100000
        ∧ Nat.min (((overfilling 8099000).reservoir .cyan).fullLevel
            + ((overfilling 8099000).reservoir .cyan).tolerance)
            ((overfilling 8099000).reservoir .cyan).capacity = 8100000)
      ∧ ((after (.flowPulse .cyan) (overfilling 8098999)).ink.get .cyan).estimate = 8099999
      ∧ ((withInk fun x => { x with full := { x.full with state := .wet } }).ink.get
          .cyan).full.state = .wet
      ∧ (after (.flowPulse .cyan) (overfilling 8099000)).faults.active = [.overfill]
      ∧ (after (.flowPulse .cyan) (overfilling 8098999)).faults.active = [] := by decide

/-- Eight samples, seven of 9 pulses with one more to come: an average of 9 is below the threshold of 10. -/
theorem witness_FlowWindowEndSamples :
    let s := withRefill fun x =>
      { x with state := .opened, window := some { elapsed := 99, pulses := 16 },
               samples := List.replicate 7 9 }
    s.mode.resetPin = false ∧ (s.refill.get .cyan).state = .opened
      ∧ (s.refill.get .cyan).window = some { elapsed := 99, pulses := 16 } ∧ 99 ≤ 99
      ∧ (pushSample (s.refill.get .cyan).samples 16).length = 8
      ∧ rollingAverage (pushSample (s.refill.get .cyan).samples 16) < s.sec1.starveThreshold := by
  decide

/-- FlowWindowEndSamples: seven samples are too few, and eight that average the threshold of 10 starve nothing; the
next window begins. -/
theorem witness_FlowWindowEndSamples_flows :
    let s (n pulses : Nat) := withRefill fun x =>
      { x with state := .opened, window := some { elapsed := 99, pulses := pulses },
               samples := List.replicate n 10 }
    (pushSample ((s 6 0).refill.get .cyan).samples 0).length < 8
      ∧ (s 7 10).sec1.starveThreshold
        ≤ rollingAverage (pushSample ((s 7 10).refill.get .cyan).samples 10)
      ∧ ((after (.flowWindowEnd .cyan) (s 7 10)).refill.get .cyan).state = .opened
      ∧ ((after (.flowWindowEnd .cyan) (s 7 10)).refill.get .cyan).window
          = some { elapsed := 0, pulses := 0 }
      ∧ (after (.flowWindowEnd .cyan) (s 6 0)).faults.active = [] := by decide

/-- RefillTimersAct: a back-off at its end with the FULL mark DRY and not, a leak window at its end, 2000 ms
waited, and a channel that still needs ink. -/
theorem witness_RefillTimersAct :
    (let s := withRefill fun x => { x with state := .backoff, backoff := some 0 };
        (s.refill.get .cyan).state = .backoff ∧ (s.refill.get .cyan).backoff = some 0
        ∧ (s.ink.get .cyan).full.state = .dry)
      ∧ ((withInk fun x => { x with full := { x.full with state := .wet } }).ink.get
          .cyan).full.state ≠ .dry
      ∧ ((withRefill fun x => { x with leakWindow := some 0 }).refill.get .cyan).leakWindow = some 0
      ∧ (let s := withRefill fun x => { x with state := .want, waited := 2000 };
          (s.refill.get .cyan).waiting = true ∧ 2000 ≤ (s.refill.get .cyan).waited
          ∧ (s.ink.get .cyan).full.state ≠ .wet ∧ s.purgeRaise .cyan = false)
      ∧ (let s : State :=
            { withRefill (fun x => { x with state := .backoff, backoff := some 0, effective := 2 }) with
              ink := running.ink.set .cyan { running.ink.get .cyan with estimate := 1999999 } };
          s.mode.resetPin = false ∧ (s.refill.get .cyan).state = .backoff
          ∧ (s.refill.get .cyan).backoff = some 0 ∧ (s.ink.get .cyan).full.state = .dry
          ∧ 1 ≤ (s.refill.get .cyan).effective ∧ s.purgeRaise .cyan = false
          ∧ (s.refill.get .cyan).waited < 2000 ∧ 1 ≤ s.deficitClass .cyan) := by decide

/-- Sheet 7 with a move that has taken some steps, and a trim. -/
def stepped (n : Nat) (trim : Int) (owed : Bool) : State :=
  { active with feed := { active.feed with
      move := some { move100 with stepsDone := n }, trim := trim, extraOwed := owed } }

/-- Sheet 7 PENDING with the move running, one step below its lead limit or at it. -/
def leading (fed : Nat) : State :=
  { waiting with feed := { waiting.feed with move := some move100, fedPending := fed } }

/-- AllowedStepIsIssued: a step that the tests allow, counted, owed, at a multiple of 16, and in PENDING. -/
theorem witness_AllowedStepIsIssued_mayStep :
    moving.mayStep move100 ∧ (stepped 16 3 true).mayStep { move100 with stepsDone := 16 }
      ∧ (stepped 15 3 false).mayStep { move100 with stepsDone := 15 }
      ∧ (leading 5000).mayStep move100 := by
  refine ⟨⟨by decide, by decide, fun _ => ⟨by decide, by decide⟩, by decide⟩,
    ⟨by decide, by decide, fun _ => ⟨by decide, by decide⟩, by decide⟩,
    ⟨by decide, by decide, fun _ => ⟨by decide, by decide⟩, by decide⟩,
    ⟨by decide, by decide, fun _ => ⟨by decide, by decide⟩, by decide⟩⟩

/-- AllowedStepIsIssued: its other premises, with the slip test's capture held. -/
theorem witness_AllowedStepIsIssued :
    (moving.mode.resetPin = false ∧ moving.feed.move = some move100 ∧ move100.state = .running
        ∧ moving.feed.extraOwed = false ∧ (move100.stepsDone + 1) % 16 ≠ 0
        ∧ move100.eject = false ∧ moving.feed.capture = some 100
        ∧ moving.feed.stepsAtCapture = some 100 ∧ moving.feed.slipRaised = false)
      ∧ (stepped 16 3 true).feed.extraOwed = true
      ∧ ((15 + 1) % 16 = 0 ∧ 15 + 1 < move100.distance ∧ 0 < (stepped 15 3 false).feed.trim)
      ∧ (stepped 15 (-3) false).feed.trim < 0
      ∧ ((leading 5000).mode.resetPin = false ∧ (leading 5000).feed.move = some move100
        ∧ (leading 5000).feed.phase = .pending ∧ (leading 5000).feed.sheet = some sheet7
        ∧ (leading 5000).feed.edgeLateRaised = false)
      ∧ (after .stepDue (leading 4999)).faults.active = []
      ∧ (after .stepDue (leading 5000)).faults.active = [.edgeLate] := by decide

/-- With the base at 1100, the step beyond 1100 + 4 · 200 is not issued, and the one before it is (R69, R73,
R74). -/
theorem test_guard_withholds :
    (guarded 1899).belowLimit 1899 ∧ ¬ (guarded 1900).belowLimit 1900
      ∧ (guarded 1899).stepAllowed move100 = true
      ∧ (guarded 1900).stepAllowed move100 = false :=
  ⟨by decide, by decide, by decide, by decide⟩

/-- Sheet 7 TRAILING, its trailing edge captured at 5000. -/
def trailing (p : Nat) : State :=
  { active with feed := { active.feed with
      phase := .trailing, trailing := some 5000, underSegment := true, position := p,
      commanded := p } }

theorem witness_EncoderCountMovesThePosition :
    (trailing 5999).mode.resetPin = false ∧ (trailing 5999).feed.trailing = some 5000
      ∧ (trailing 5999).feed.phase = .trailing ∧ (trailing 5999).feed.position < 16777215
      ∧ (trailing 5999).feed.position + 1 = 5000 + (trailing 5999).sec2.sensorDistance
      ∧ (trailing 6099).feed.position + 1
          = 5000 + (trailing 6099).sec2.sensorDistance + (trailing 6099).sec2.vacuumTail
      ∧ ¬ (trailing 16777215).feed.position < 16777215 ∧ active.feed.phase ≠ .trailing := by decide

theorem witness_PrintingRecordRetires :
    (bandedAt .printing 1139).mode.resetPin = false
      ∧ (bandedAt .printing 1139).printing = some (band3 .printing)
      ∧ (∀ x ∈ (bandedAt .printing 1139).bands.records.erase (band3 .printing),
          x.state ≠ .printing ∧ x.tag ≠ (band3 .printing).tag)
      ∧ (bandedAt .printing 1139).sheetBase = some 1100
      ∧ (bandedAt .printing 1139).feed.position < 16777215
      ∧ 1100 + 4 * (band3 .printing).endLine ≤ (bandedAt .printing 1139).feed.position + 1
      ∧ (bandedAt .printing 1139).enabled .cyan = true
      ∧ ((bandedAt .printing 1139).tally.channels.get .cyan).bands < 65535 := by decide

/-- EncoderCountMovesThePosition: the count that reaches the sheet base, and the one beyond it with a record
COVERED, ANNOUNCED and STALE at its start. -/
theorem witness_EncoderCountMovesThePosition_records :
    (let s := bandedAt .covered 1099;
        s.feed.capture = some 100 ∧ s.feed.phase = .active
        ∧ s.feed.position + 1 = 100 + s.sec2.sensorDistance)
      ∧ (∀ st ∈ [BandState.covered, .announced, .stale],
          let s := bandedAt st 1100;
          s.mode.resetPin = false ∧ s.feed.capture = some 100 ∧ s.feed.phase ≠ .none
          ∧ s.bands.sheetRef = some (band3 st).sheet ∧ s.bands.records = [] ++ band3 st :: []
          ∧ (∀ x ∈ s.bands.records, x.state = .printing → x.sheet = (band3 st).sheet)
          ∧ (band3 st).issue = s.nozzle.issue
          ∧ 100 + s.sec2.sensorDistance + 4 * (band3 st).start ≤ s.feed.position)
      ∧ (after .encoderCount (bandedAt .covered 1099)).feed.underSegment = true
      ∧ (after .encoderCount (bandedAt .covered 1099)).bands.records = [band3 .covered]
      ∧ (after .encoderCount (bandedAt .announced 1100)).bands.records = [] := by decide

/-- PrintingRecordRetires: a band of 10 nL takes cyan, IDLE and FULL DRY, from 4 000 009 nL below its refill mark
of 4 000 000, and from 4 000 010 to it. -/
theorem test_band_asks_for_refill :
    let s (n : Nat) : State :=
      { bandedAt .printing 1139 with
        ink := running.ink.set .cyan { running.ink.get .cyan with estimate := n } }
    let t (n : Nat) := after .encoderCount (s n)
    ((s 4000009).refill.get .cyan).state = .idle ∧ ((s 4000009).refill.get .cyan).effective = 0
      ∧ ((s 4000009).ink.get .cyan).state = .known
      ∧ ((s 4000009).ink.get .cyan).full.state = .dry ∧ ((t 4000009).ink.get .cyan).estimate = 3999999
      ∧ ((t 4000009).refill.get .cyan).state = .opened
      ∧ ((t 4000010).ink.get .cyan).estimate = 4000000
      ∧ ((t 4000010).refill.get .cyan).state = .idle := by decide

/-- A retirement counts one band since clean in each group of an enabled channel, and a group at 15 marks its
overflow (R134). -/
theorem test_bands_since_clean :
    let cyan : List Group := [{ Group.reset with bands := 3 }, { Group.reset with bands := 15 }]
    let s : State := { bandedAt .printing 1139 with
      nozzle := { Nozzle.reset with groups := Nozzle.reset.groups.set .cyan cyan } }
    ((after .encoderCount s).nozzle.groups.get .cyan).map (fun g => (g.bands, g.bandsOver))
      = [(4, false), (15, true)] := by decide

/-- A band of 10 nL in every channel retires from a channel of 9 nL, one UNKNOWN and one of 10 nL: the first
is clamped with UNDERRUN, the second keeps 0, the third comes to 0 with no clamp (R10, R11). -/
theorem test_underrun :
    let s := bandedAt .printing 1139
    let ink1 := s.ink.set .cyan { s.ink.get .cyan with estimate := 9 }
    let ink2 := ink1.set .grey { s.ink.get .grey with estimate := 0, state := .unknown }
    let ink3 := ink2.set .yellow { s.ink.get .yellow with estimate := 10 }
    let t := after .encoderCount { s with ink := ink3 }
    (t.ink.get .cyan).estimate = 0 ∧ (t.tally.channels.get .cyan).adjusted = 1
      ∧ (t.ink.get .grey).estimate = 0 ∧ (t.tally.channels.get .grey).adjusted = 10
      ∧ (t.ink.get .yellow).estimate = 0 ∧ (t.tally.channels.get .yellow).adjusted = 0
      ∧ t.faults.active = [.underrun] ∧ t.faults.count = 1 := by decide

/-- Every channel can give up the band's volume, in PrintingRecordRetires. -/
theorem witness_PrintingRecordRetires_gives :
    ∀ c, (bandedAt .printing 1139).gives c ((band3 .printing).volume.get c) := by
  intro c
  cases c <;> exact fun _ _ => by decide

/-- A station with other edge enables in force. -/
def withEdges (s : State) (leadClose leadPeek trailClose trailPeek : Bool) : State :=
  { s with mode := { s.mode with inForce := { configured with sec3 := { configured.sec3 with
      first := { configured.sec3.first with
        leadingClose := leadClose, leadingPeek := leadPeek, trailingClose := trailClose
        trailingPeek := trailPeek } } } } }

theorem witness_SheetEdgesAreCaptured_enables :
    (let s := withEdges waiting false true false false;
        s.feed.phase = .pending ∧ s.mode.mode = .run ∧ s.tally.outstanding = false
        ∧ s.sec3.leadingClose = false ∧ s.sec3.leadingPeek = true)
      ∧ (let s := withEdges active false false true true;
          s.feed.phase = .active ∧ s.mode.mode = .run ∧ s.tally.outstanding = false
          ∧ s.sec3.trailingClose = true)
      ∧ (let s := withEdges active false false false false;
          s.sec3.trailingClose = false ∧ s.sec3.trailingPeek = false
          ∧ s.sec3.leadingClose = false ∧ s.sec3.leadingPeek = false) := by decide

/-- SheetEdgesAreCaptured: the edges with their limited close and peek, and with none. -/
theorem witness_SheetEdgesAreCaptured :
    (waiting.mode.resetPin = false ∧ waiting.feed.phase = .pending ∧ waiting.mode.mode = .run
        ∧ waiting.tally.outstanding = false ∧ waiting.sec3.leadingClose = true)
      ∧ ({ waiting with tally := { waiting.tally with outstanding := true } } :
          State).tally.outstanding = true
      ∧ (active.mode.resetPin = false ∧ active.feed.phase = .active ∧ active.mode.mode = .run
        ∧ active.tally.outstanding = false ∧ active.sec3.trailingClose = false
        ∧ active.sec3.trailingPeek = true) := by decide

/-- SkewWindowEndEstimates: the neighbour's capture at 110 gives a skew of -10, within the limit of 20, and a
capture of our own at 131 gives 21, beyond it. -/
theorem witness_SkewWindowEndEstimates :
    let s (a : Nat) : State :=
      { active with feed := { active.feed with skewWindow := some 0, capture := some a } }
    (s 100).mode.resetPin = false ∧ (s 100).feed.skewWindow = some 0
      ∧ (s 100).feed.capture = some 100 ∧ (after .skewWindowEnd (s 100)).feed.trim = 10
      ∧ (after .skewWindowEnd (s 130)).faults.active = []
      ∧ (after .skewWindowEnd (s 131)).faults.active = [.skew] := by decide

/-- SheetEdgesAreCaptured and SkewWindowEndEstimates: with the neighbour's capture at 110 heard, the leading edge
at 1000 works out 890 at once, beyond the limit of 20; with it not heard the window starts at 20 ms, and the
STATUS that brings it ends it. -/
theorem witness_SkewWindowEndEstimates_heard :
    let due : State := { active with feed := { waiting.feed with position := 1000 } }
    let alone : State := { waiting with feed := { waiting.feed with position := 100 } }
    let f : PeerStatus := { active.shown with sheet := some 7, capture := some 110 }
    let windowed := after .leadingEdge alone
    (due.feed.phase = .pending ∧ due.capturesHeard ∧ ¬ alone.capturesHeard)
      ∧ ((after .leadingEdge due).feed.skew = some 890
        ∧ (after .leadingEdge due).feed.skewWindow = none)
      ∧ (windowed.feed.skewWindow = some 20 ∧ windowed.feed.skew = none
        ∧ windowed.feed.capture = some 100)
      ∧ (after (.peerStatusHeard 1 f) windowed).capturesHeard
      ∧ (after (.peerStatusHeard 1 f) windowed).feed.trim = 10
      ∧ ¬ (after (.peerStatusHeard 3 f) windowed).capturesHeard := by decide

theorem witness_FholdHoldsAndReleasesTheMove :
    (moving.mode.resetPin = false ∧ moving.feed.move = some move100 ∧ move100.state = .running)
      ∧ ((after .fholdAsserted moving).mode.resetPin = false
        ∧ (after .fholdAsserted moving).feed.move = some { move100 with state := .held }
        ∧ (after .fholdAsserted moving).feed.fholdDrive = false) := by decide

theorem witness_SledMotionsAreFollowed :
    let purge : Action := .purge true (PerChannel.fill true)
    ((serving .gapSpit .outbound (some .spit) none).mode.resetPin = false
        ∧ (serving .gapSpit .outbound (some .spit) none).service.motion = some .spit
        ∧ (serving .gapSpit .outbound (some .spit) none).service.current
          = some (acting .gapSpit .outbound) ∧ (acting .gapSpit .outbound).stage = .outbound)
      ∧ ((serving (.check [197]) .outbound (some .detect) none).service.motion = some .detect
        ∧ (acting (.check [197]) .outbound).action = .check [197])
      ∧ ((serving purge .outbound (some .cap) none).service.motion = some .cap
        ∧ (acting purge .outbound).action = purge)
      ∧ ((serving .wipe .outbound (some .spit) none).service.motion = some .spit
        ∧ (acting .wipe .outbound).action = .wipe) := by decide

/-- The arrivals that complete an action, each the only one. -/
theorem witness_SledMotionsAreFollowed_completes :
    (∀ x ∈ [(Action.uncap, Stage.outbound), (.home, .outbound), (.wipe, .inbound),
        (.gapSpit, .inbound)],
        let s := serving x.1 x.2 (some .park) none
        s.mode.resetPin = false ∧ s.service.motion = some .park
          ∧ s.service.current = some (acting x.1 x.2)
          ∧ s.service.pending = PerSource.fill false ∧ s.service.stack.length = 1
          ∧ s.service.stack.all (fun q => decide (q.actions.length = 1)) = true)
      ∧ (let s := serving .cap .outbound (some .cap) none;
          s.service.motion = some .cap ∧ s.sheetInProgress = false
          ∧ s.service.current = some (acting .cap .outbound)
          ∧ (after (.sledArrival .cap) s).service.capped = true) := by decide

/-- The DONE of a sheet spit under a sheet, and of a purge that nothing waits behind, with the head at CAP. -/
theorem witness_HeadAnswersAreTaken_completes :
    (let s := serving .sheetSpit .atHead none
          (some { number := 9, kind := .fire 5 (PerChannel.fill true) (PerChannel.fill 1) });
        s.mode.resetPin = false ∧ s.service.current = some (acting .sheetSpit .atHead)
        ∧ s.service.capped = false ∧ s.service.sled = .standing .park
        ∧ s.service.closed ≠ some .cap
        ∧ ((after (.headDone 9) s).ink.get .cyan).estimate = 4999996
        ∧ ((after (.headDone 9) s).tally.channels.get .cyan).spit = 4)
      ∧ (let s : State := { purging with service := { purging.service with
            sled := .standing .cap, closed := some .cap
            stack := [{ source := .order, level := 2, channel := none
                        actions := [.purge false (PerChannel.fill true)] }] } };
          s.mode.mode = .run ∧ s.nozzle.blocked = false
          ∧ s.service.pending = PerSource.fill false ∧ s.service.sled = .standing .cap
          ∧ s.service.closed ≠ some .park ∧ s.enabled .cyan = true
          ∧ (after (.headDone 9) s).service.capped = true) := by decide +kernel

theorem witness_HeadAnswersAreTaken :
    let check := serving (.check [197]) .atHead none (some checkRequest)
    (check.mode.resetPin = false ∧ check.service.head = some checkRequest
        ∧ check.service.current = some (acting (.check [197]) .atHead)
        ∧ checkRequest.kind = .check [197] ∧ 197 ∈ [197])
      ∧ (let s := { check with service := { check.service with
            sled := .standing .detect, closed := some .detect } };
          s.service.sled ≠ .standing .park ∧ s.service.closed ≠ some .park)
      ∧ (acting .sheetSpit .atHead).action = .sheetSpit
      ∧ (purging.service.current = some
            (acting (.purge false (PerChannel.fill true)) .atHead)
        ∧ purging.enabled .cyan = true ∧ (purging.ink.get .cyan).state = .known) := by decide

theorem witness_ServiceTimersAct :
    (let s := serving .wipe .outbound (some .spit) none;
        let t := { s with service := { s.service with timeLeft := some 0 } };
        t.mode.resetPin = false ∧ t.service.current = some (acting .wipe .outbound)
        ∧ t.service.timeLeft = some 0)
      ∧ (let s := { running with service := { running.service with capIdle := 5000, stopped := true } };
          s.mode.resetPin = false ∧ s.idleUncapped = true ∧ s.sec3.capIdleTime ≤ s.service.capIdle
          ∧ s.service.stopped = true) := by decide

theorem witness_CheckReadsItsGroup :
    checking.mode.resetPin = false ∧ checking.service.motion = some .park
      ∧ checking.service.current
          = some { acting (.check [197]) .inbound with results := [(197, [330, 340])] }
      ∧ Channel.cyan.num * 96 + 5 = 197
      ∧ (checking.nozzle.groups.get .cyan)[5]?
          = some { Group.reset with suspects := [330], bands := 3, state := .weak }
      ∧ (∀ n ∈ [330, 340], n / 64 = 5) ∧ (∀ f ∈ checking.nozzle.failed, f.nozzle < 6144)
      ∧ checking.nozzle.failed.length + [330, 340].length ≤ 64 := by decide

/-- A station whose check of cyan's group 5 ends the RECOVERY sequence of cyan at a ladder level. -/
def recovering (level : Nat) : State :=
  { checking with
    service := { checking.service with
      stack := [{ source := .recovery, level := 4, actions := [.check [197]],
                  channel := some .cyan }] }
    nozzle := { checking.nozzle with
      ladders := checking.nozzle.ladders.set .cyan
        { level := level, exhausted := false, affected := [197], inService := true } } }

/-- The ladder clauses of CheckReadsItsGroup: a suspect missed with the channel enabled, armed at level 0, due
at level 2, exhausted, and a RECOVERY judged. -/
theorem witness_CheckReadsItsGroup_ladders :
    (checking.enabled .cyan = true ∧ 330 ∈ [330, 340] ∧ (330 : Nat) ∈ [330]
        ∧ checking.link.nozzleSlot = none ∧ checking.nozzle.notices = []
        ∧ (checking.nozzle.ladders.get .cyan).inService = false
        ∧ (checking.nozzle.ladders.get .cyan).level = 0 ∧ checking.nozzle.armed = false)
      ∧ (let s : State := { checking with nozzle := { checking.nozzle with armed := true } };
          ((after (.sledArrival .park) s).nozzle.ladders.get .cyan).level = 1
          ∧ ((after (.sledArrival .park) s).nozzle.ladders.get .cyan).affected = [197])
      ∧ ((recovering 1).service.stack.map Sequence.channel = [some .cyan]
        ∧ ((recovering 1).nozzle.ladders.get .cyan).inService = true
        ∧ ((after (.sledArrival .park) (recovering 1)).nozzle.ladders.get .cyan).level = 2)
      ∧ ((after (.sledArrival .park) (recovering 4)).nozzle.ladders.get .cyan).exhausted = true
      ∧ (let s : State := { recovering 3 with service := { (recovering 3).service with
            current := some { acting (.check [197]) .inbound with results := [(197, [])] } } };
          ((after (.sledArrival .park) s).nozzle.ladders.get .cyan).level = 0
          ∧ (after (.sledArrival .park) s).nozzle.failed
            = [{ channel := .grey, nozzle := 6143 }]) := by decide +kernel

/-- KeepWetExpiryAsksOrMisses: a spit outstanding and none, and the sheet under the segment. -/
theorem witness_KeepWetExpiryAsksOrMisses :
    let s : State := { running with
      keepWet := { running.keepWet with counter := some 1 }
      service := { running.service with stopped := true } }
    let owing : State := { s with service := { s.service with
      pending := s.service.pending.set .keepWet true } }
    let under : State := { s with feed := { active.feed with underSegment := true } }
    (s.running ∧ s.keepWet.counter = some 1 ∧ s.spitOutstanding = false ∧ s.service.stopped = true
        ∧ s.feed.underSegment = false)
      ∧ (owing.running ∧ owing.keepWet.counter = some 1 ∧ owing.spitOutstanding = true)
      ∧ (under.running ∧ under.feed.underSegment = true ∧ under.sheetSpitAllowed = true) := by
  unfold State.running
  decide

end Sys2Proof.Tests
end

section
/-! SUPPORT. The ledger of a channel: what the tally operations and the deductions make of one channel's ink and
tallies, as equations at every channel, and which faults they raise. -/

namespace Sys2Proof.Machine

/-! ### One channel's tallies (R153, R154) -/

/-- A tally channel with an amount handed to one of its growing tallies. -/
def TallyChannel.plus (t : TallyChannel) (k : Amount) (n : Nat) : TallyChannel :=
  TallyChannel.marked (t.add k n)

/-- A tally channel with a difference booked in adjusted. -/
def TallyChannel.booked (t : TallyChannel) (d : Int) : TallyChannel :=
  TallyChannel.marked ({ t with adjusted := (saturateAdjust t.adjusted d).1 },
    (saturateAdjust t.adjusted d).2)

/-- A tally channel with one band more. -/
def TallyChannel.counted (t : TallyChannel) : TallyChannel :=
  TallyChannel.marked ({ t with bands := (saturateAdd Config.maxBandCount t.bands 1).1 },
    (saturateAdd Config.maxBandCount t.bands 1).2)

theorem Work.addTally_get (w : Work) (c d : Channel) (k : Amount) (n : Nat) :
    (w.addTally c k n).tally.channels.get d
      = if d = c then (w.tally.channels.get c).plus k n else w.tally.channels.get d :=
  PerChannel.get_set ..

theorem Work.adjust_get (w : Work) (c d : Channel) (x : Int) :
    (w.adjust c x).tally.channels.get d
      = if d = c then (w.tally.channels.get c).booked x else w.tally.channels.get d :=
  PerChannel.get_set ..

theorem Work.countBand_get (w : Work) (c d : Channel) :
    (w.countBand c).tally.channels.get d
      = if d = c then (w.tally.channels.get c).counted else w.tally.channels.get d :=
  PerChannel.get_set ..

theorem saturateAdd_fst (top a b : Nat) : (saturateAdd top a b).1 = Nat.min top (a + b) := by
  unfold saturateAdd
  split <;> simp <;> omega

theorem saturateAdjust_fst (a d : Int) :
    (saturateAdjust a d).1 = max (-2147483648) (min 2147483647 (a + d)) := by
  unfold saturateAdjust
  (repeat' split) <;> simp only [Config.maxAdjusted, Config.minAdjusted] at * <;> omega

theorem TallyChannel.plus_amount_same (t : TallyChannel) (k : Amount) (n : Nat) :
    (t.plus k n).amount k = Nat.min 4294967295 (t.amount k + n) := by
  cases k <;> exact saturateAdd_fst ..

theorem TallyChannel.plus_amount_ne (t : TallyChannel) {j k : Amount} (n : Nat) (h : j ≠ k) :
    (t.plus k n).amount j = t.amount j := by
  cases k <;> cases j <;> first | rfl | exact absurd rfl h

@[simp] theorem TallyChannel.plus_fields (t : TallyChannel) (k : Amount) (n : Nat) :
    (t.plus k n).adjusted = t.adjusted ∧ (t.plus k n).bands = t.bands
      ∧ (t.plus k n).estimateOpen = t.estimateOpen := by cases k <;> exact ⟨rfl, rfl, rfl⟩

theorem TallyChannel.booked_adjusted (t : TallyChannel) (d : Int) :
    (t.booked d).adjusted = max (-2147483648) (min 2147483647 (t.adjusted + d)) :=
  saturateAdjust_fst ..

@[simp] theorem TallyChannel.booked_fields (t : TallyChannel) (d : Int) :
    (∀ k, (t.booked d).amount k = t.amount k) ∧ (t.booked d).bands = t.bands
      ∧ (t.booked d).estimateOpen = t.estimateOpen :=
  ⟨fun k => by cases k <;> rfl, rfl, rfl⟩

theorem TallyChannel.counted_bands (t : TallyChannel) :
    t.counted.bands = Nat.min 65535 (t.bands + 1) := saturateAdd_fst ..

@[simp] theorem TallyChannel.counted_fields (t : TallyChannel) :
    (∀ k, t.counted.amount k = t.amount k) ∧ t.counted.adjusted = t.adjusted
      ∧ t.counted.estimateOpen = t.estimateOpen :=
  ⟨fun k => by cases k <;> rfl, rfl, rfl⟩

/-! ### The balance of one channel (R18) -/

/-- The tallies of a channel stand for an estimate `e`, or one of them has stopped at its end. -/
def TallyChannel.Balances (t : TallyChannel) (e : Int) : Prop :=
  t.overflow = true ∨
    e = t.estimateOpen + t.refilled - t.printed - t.spit - t.purge + t.adjusted

/-- What an amount of a growing tally adds to the estimate. -/
def Amount.signed (k : Amount) (n : Nat) : Int :=
  match k with
  | .printed | .spit | .purge => -(n : Int)
  | .refilled => n

theorem State.balanced_iff (s : State) (c : Channel) :
    s.balanced c ↔ (s.tally.channels.get c).Balances (s.ink.get c).estimate := Iff.rfl

theorem TallyChannel.Balances.plus {t : TallyChannel} {e : Int} (h : t.Balances e) (k : Amount) (n : Nat) :
    (t.plus k n).Balances (e + k.signed n) := by
  obtain ho | he := h
  · exact .inl (by cases k <;> simp [TallyChannel.plus, TallyChannel.marked, TallyChannel.add, ho])
  · cases k <;>
      simp only [TallyChannel.Balances, TallyChannel.plus, TallyChannel.marked, TallyChannel.add,
        saturateAdd, Amount.signed] <;> split <;> simp <;> omega

theorem TallyChannel.Balances.booked {t : TallyChannel} {e : Int} (h : t.Balances e) (d : Int) :
    (t.booked d).Balances (e + d) := by
  obtain ho | he := h
  · exact .inl (by simp [TallyChannel.booked, TallyChannel.marked, ho])
  · simp only [TallyChannel.Balances, TallyChannel.booked, TallyChannel.marked, saturateAdjust]
    (repeat' split) <;> simp
    omega

theorem TallyChannel.Balances.counted {t : TallyChannel} {e : Int} (h : t.Balances e) :
    t.counted.Balances e := by
  obtain ho | he := h
  · exact .inl (by simp [TallyChannel.counted, TallyChannel.marked, ho])
  · exact .inr he

theorem TallyChannel.openedAt_balances (e : Nat) : (TallyChannel.openedAt e).Balances e :=
  .inr (by simp [TallyChannel.openedAt, TallyChannel.reset])

/-! ### Which faults an operation raises -/

/-- Between two points of one event every raise is kept, and each new one has a code of `P`. -/
def Work.RaisesOnly (P : FaultCode → Prop) (v w : Work) : Prop :=
  (∀ r ∈ v.raised, r ∈ w.raised) ∧ ∀ r ∈ w.raised, r ∈ v.raised ∨ P r.code

theorem Work.RaisesOnly.same {P : FaultCode → Prop} {v w : Work} (h : w.raised = v.raised) :
    Work.RaisesOnly P v w := ⟨fun _ hr => h ▸ hr, fun _ hr => .inl (h ▸ hr)⟩

theorem Work.RaisesOnly.trans {P : FaultCode → Prop} {u v w : Work} (h : Work.RaisesOnly P u v)
    (k : Work.RaisesOnly P v w) : Work.RaisesOnly P u w :=
  ⟨fun r hr => k.1 r (h.1 r hr), fun r hr => (k.2 r hr).elim (h.2 r) .inr⟩

theorem Work.RaisesOnly.mono {P Q : FaultCode → Prop} {v w : Work} (h : Work.RaisesOnly P v w)
    (hPQ : ∀ f, P f → Q f) : Work.RaisesOnly Q v w :=
  ⟨h.1, fun r hr => (h.2 r hr).imp_right (hPQ _)⟩

theorem Work.raise_raisesOnly {P : FaultCode → Prop} (w : Work) {f : FaultCode} (d : Detail) (h : P f) :
    Work.RaisesOnly P w (w.raise f d) := by
  refine ⟨fun r hr => List.mem_append_left _ hr, fun r hr => ?_⟩
  obtain hr | hr := List.mem_append.mp hr
  · exact .inl hr
  · obtain rfl := List.mem_singleton.mp hr
    exact .inr h

theorem Work.putTally_raisesOnly {P : FaultCode → Prop} (w : Work) (c : Channel) (t : TallyChannel)
    (h : P .tallyOverflow) : Work.RaisesOnly P w (w.putTally c t) := by
  simp only [Work.RaisesOnly, Work.putTally]
  split
  · refine ⟨fun r hr => List.mem_append_left _ hr, fun r hr => (List.mem_append.mp hr).imp_right fun hr => ?_⟩
    obtain rfl := List.mem_singleton.mp hr
    exact h
  · exact ⟨fun _ => id, fun _ => .inl⟩

theorem Work.addTally_raisesOnly {P : FaultCode → Prop} (w : Work) (c : Channel) (k : Amount) (n : Nat)
    (h : P .tallyOverflow) : Work.RaisesOnly P w (w.addTally c k n) := Work.putTally_raisesOnly _ _ _ h

theorem Work.adjust_raisesOnly {P : FaultCode → Prop} (w : Work) (c : Channel) (d : Int)
    (h : P .tallyOverflow) : Work.RaisesOnly P w (w.adjust c d) := Work.putTally_raisesOnly _ _ _ h

theorem Work.countBand_raisesOnly {P : FaultCode → Prop} (w : Work) (c : Channel)
    (h : P .tallyOverflow) : Work.RaisesOnly P w (w.countBand c) := Work.putTally_raisesOnly _ _ _ h

/-! ### Deductions (R9 to R11) -/

/-- What a channel does that is to give up ink, whichever way its volume was worked out: `whole` and `residue` for
a KNOWN one, `blind` for an UNKNOWN one (R9 to R11). -/
def Work.giveUp (w : Work) (k : Amount) (c : Channel) (whole residue blind : Nat) : Work :=
  if !w.enabled c then w
  else match (w.ink.get c).state with
    | .unknown => w.takeUnknown k c blind
    | .known => w.takeWhole k c whole residue

theorem Work.deduct_eq (w : Work) (k : Amount) (c : Channel) (v : Nat) :
    w.deduct k c v = w.giveUp k c (((w.ink.get c).residue + v) / 100000)
      (((w.ink.get c).residue + v) % 100000) (v / 100000) := by
  unfold Work.deduct Work.giveUp
  rfl

theorem Work.deductPurge_eq (w : Work) (c : Channel) (n : Nat) :
    w.deductPurge c n = w.giveUp .purge c n (w.ink.get c).residue n := by
  unfold Work.deductPurge Work.giveUp
  rfl

/-- A channel's ink after giving up. -/
def InkChannel.gave (x : InkChannel) (on : Bool) (whole residue : Nat) : InkChannel :=
  if on = true ∧ x.state = .known then { x with estimate := x.estimate - whole, residue := residue } else x

/-- A channel's tallies after giving up, its ink having stood as `x`. -/
def TallyChannel.gave (t : TallyChannel) (x : InkChannel) (on : Bool) (k : Amount) (whole blind : Nat) :
    TallyChannel :=
  if on = false then t
  else if x.state = .unknown then (t.plus k blind).booked blind
  else if whole ≤ x.estimate then t.plus k whole
  else (t.plus k whole).booked ((whole : Int) - x.estimate)

theorem Work.giveUp_mode (w : Work) (k : Amount) (c : Channel) (whole residue blind : Nat) :
    (w.giveUp k c whole residue blind).mode = w.mode := by
  simp only [Work.giveUp]
  (repeat' split) <;> simp

theorem Work.putInk_get (w : Work) (c d : Channel) (x : InkChannel) :
    (w.putInk c x).ink.get d = if d = c then x else w.ink.get d := PerChannel.get_set ..

theorem Work.giveUp_ink (w : Work) (k : Amount) (c d : Channel) (whole residue blind : Nat) :
    (w.giveUp k c whole residue blind).ink.get d
      = if d = c then (w.ink.get c).gave (w.enabled c) whole residue else w.ink.get d := by
  unfold Work.giveUp InkChannel.gave
  cases hon : w.enabled c
  · simp +contextual
  · cases hst : (w.ink.get c).state
    · simp +contextual [Work.takeUnknown]
    · simp only [Bool.not_true, Bool.false_eq_true, if_false, and_self, if_true, Work.takeWhole]
      split
      · simp [Work.putInk_get, hst]
      · rename_i hlt
        simp [Work.putInk_get, hst, Nat.sub_eq_zero_of_le (Nat.le_of_not_le hlt)]

theorem Work.giveUp_tally (w : Work) (k : Amount) (c d : Channel) (whole residue blind : Nat) :
    (w.giveUp k c whole residue blind).tally.channels.get d
      = if d = c then (w.tally.channels.get c).gave (w.ink.get c) (w.enabled c) k whole blind
        else w.tally.channels.get d := by
  unfold Work.giveUp TallyChannel.gave
  cases hon : w.enabled c
  · simp +contextual
  · cases hst : (w.ink.get c).state
    · by_cases hd : d = c <;> simp [Work.takeUnknown, Work.adjust_get, Work.addTally_get, hd]
    · by_cases hd : d = c <;>
        simp only [Bool.not_true, Bool.false_eq_true, Bool.true_eq_false, if_false, Work.takeWhole, hd] <;> split <;>
        simp [Work.adjust_get, Work.addTally_get, hd]

/-- A channel that can give what is asked of it: giving up raises no UNDERRUN. -/
def State.suffices (s : State) (c : Channel) (whole : Nat) : Prop :=
  s.enabled c = true → (s.ink.get c).state = .known → whole ≤ (s.ink.get c).estimate

/-- The faults that giving up may raise at a channel. -/
def State.givingFault (s : State) (c : Channel) (whole : Nat) (f : FaultCode) : Prop :=
  f = .tallyOverflow ∨ f = .underrun ∧ ¬ s.suffices c whole

theorem Work.giveUp_raisesOnly (w : Work) (k : Amount) (c : Channel) (whole residue blind : Nat) :
    Work.RaisesOnly (w.givingFault c whole) w (w.giveUp k c whole residue blind) := by
  have hov : w.givingFault c whole .tallyOverflow := .inl rfl
  unfold Work.giveUp
  split
  · exact .same rfl
  · rename_i hon
    split
    · exact (Work.addTally_raisesOnly _ _ _ _ hov).trans (Work.adjust_raisesOnly _ _ _ hov)
    · rename_i hst
      simp only [Work.takeWhole]
      split
      · exact .trans (.same rfl) (Work.addTally_raisesOnly _ _ _ _ hov)
      · rename_i hlt
        have short : w.givingFault c whole .underrun :=
          .inr ⟨rfl, fun h => hlt (h (by simpa using hon) hst)⟩
        exact .trans (.same rfl) (.trans (Work.addTally_raisesOnly _ _ _ _ hov)
          (.trans (Work.adjust_raisesOnly _ _ _ hov) (Work.raise_raisesOnly _ _ short)))

/-- A channel that cannot give what is asked of it raises UNDERRUN. -/
theorem Work.giveUp_underrun {w : Work} {k : Amount} {c : Channel} {whole residue blind : Nat}
    (h : ¬ w.suffices c whole) :
    ∃ r ∈ (w.giveUp k c whole residue blind).raised, r.code = .underrun := by
  simp only [State.suffices, Classical.not_imp] at h
  obtain ⟨hon, hst, hlt⟩ := h
  exact ⟨{ code := .underrun, detail := .channel c }, by simp [Work.giveUp, hon, hst, Work.takeWhole, hlt, Work.raise], rfl⟩

theorem TallyChannel.gave_balances {t : TallyChannel} {x : InkChannel} (h : t.Balances x.estimate) (on : Bool)
    {k : Amount} (hk : k ≠ .refilled) (whole residue blind : Nat) :
    (t.gave x on k whole blind).Balances (x.gave on whole residue).estimate := by
  have hs : ∀ n, k.signed n = -(n : Int) := by cases k <;> first | exact fun _ => rfl | exact absurd rfl hk
  unfold TallyChannel.gave InkChannel.gave
  cases on
  · simpa using h
  · cases hst : x.state
    · have := (h.plus k blind).booked blind
      simpa [hs] using this
    · simp only [Bool.true_eq_false, if_false, and_self, if_true, reduceCtorEq]
      split
      · have := h.plus k whole
        rw [hs] at this
        rwa [Nat.cast_sub ‹_›, sub_eq_add_neg]
      · have := (h.plus k whole).booked ((whole : Int) - x.estimate)
        rw [hs] at this
        rw [Nat.sub_eq_zero_of_le (by omega)]
        rwa [show (x.estimate : Int) + -whole + (whole - x.estimate) = (0 : Nat) by omega] at this

/-! ### Six channels, one after another -/

/-- An operation on one channel at a time: it reads and writes that channel's ink and tallies alone. -/
structure ByChannel (f : Work → Channel → Work) : Prop where
  mode : ∀ w c, (f w c).mode = w.mode
  other : ∀ w c d, d ≠ c →
    (f w c).ink.get d = w.ink.get d ∧ (f w c).tally.channels.get d = w.tally.channels.get d
  own : ∀ v w c, v.mode = w.mode → v.ink.get c = w.ink.get c →
    v.tally.channels.get c = w.tally.channels.get c →
    (f v c).ink.get c = (f w c).ink.get c ∧ (f v c).tally.channels.get c = (f w c).tally.channels.get c

theorem ByChannel.foldl_absent {f : Work → Channel → Work} (hf : ByChannel f) {d : Channel} :
    ∀ (l : List Channel) (w : Work), d ∉ l → (l.foldl f w).mode = w.mode
      ∧ (l.foldl f w).ink.get d = w.ink.get d
      ∧ (l.foldl f w).tally.channels.get d = w.tally.channels.get d
  | [], _, _ => ⟨rfl, rfl, rfl⟩
  | c :: l, w, h => by
    obtain ⟨hc, hl⟩ := not_or.mp (List.mem_cons.not.mp h)
    obtain ⟨hm, hi, ht⟩ := hf.foldl_absent l (f w c) hl
    obtain ⟨hi', ht'⟩ := hf.other w c d hc
    exact ⟨hm.trans (hf.mode w c), hi.trans hi', ht.trans ht'⟩

/-- A run over distinct channels makes of each of them what the operation alone would have made of it. -/
theorem ByChannel.foldl_get {f : Work → Channel → Work} (hf : ByChannel f) {d : Channel} :
    ∀ (l : List Channel) (w : Work), l.Nodup → d ∈ l →
      (l.foldl f w).ink.get d = (f w d).ink.get d
      ∧ (l.foldl f w).tally.channels.get d = (f w d).tally.channels.get d
  | [], _, _, h => absurd h (by simp)
  | c :: l, w, hn, h => by
    obtain ⟨hc, hl⟩ := List.nodup_cons.mp hn
    obtain rfl | hd := List.mem_cons.mp h
    · exact (hf.foldl_absent l (f w d) hc).2
    · have hne : d ≠ c := by rintro rfl; exact hc hd
      obtain ⟨hi, ht⟩ := hf.foldl_get l (f w c) hl hd
      obtain ⟨hi', ht'⟩ := hf.other w c d hne
      obtain ⟨hi'', ht''⟩ := hf.own (f w c) w d (hf.mode w c) hi' ht'
      exact ⟨hi.trans hi'', ht.trans ht''⟩

theorem Channel.all_nodup : Channel.all.Nodup := by decide

theorem Channel.mem_all (c : Channel) : c ∈ Channel.all := by cases c <;> decide

theorem ByChannel.all_get {f : Work → Channel → Work} (hf : ByChannel f) (w : Work) (c : Channel) :
    (Channel.all.foldl f w).ink.get c = (f w c).ink.get c
      ∧ (Channel.all.foldl f w).tally.channels.get c = (f w c).tally.channels.get c :=
  hf.foldl_get _ w Channel.all_nodup (Channel.mem_all c)

end Sys2Proof.Machine
end

section
/-! SUPPORT. The ledger of a channel under a pulse, a mark and a START, and the commands that move ink: each is
built of these few operations on one channel, so that what they keep is kept by the whole command. -/

namespace Sys2Proof.Machine

/-! ### Credit (R14, R15) -/

/-- A channel's ink after a pulse's credit. -/
def InkChannel.credited (x : InkChannel) (on : Bool) (f top : Nat) : InkChannel :=
  if on = true ∧ x.state = .known then { x with estimate := Nat.min (x.estimate + f) top } else x

/-- A channel's tallies after a pulse's credit, its ink having stood as `x`. -/
def TallyChannel.credited (t : TallyChannel) (x : InkChannel) (on : Bool) (f top : Nat) : TallyChannel :=
  if on = false then t
  else if x.state = .unknown then (t.plus .refilled f).booked (-(f : Int))
  else if x.estimate + f ≤ top then t.plus .refilled f
  else (t.plus .refilled f).booked ((top : Int) - (x.estimate + f : Nat))

theorem Work.credit_ink (w : Work) (c d : Channel) :
    (w.credit c).ink.get d
      = if d = c then (w.ink.get c).credited (w.enabled c) (w.reservoir c).credit (w.reservoir c).capacity
        else w.ink.get d := by
  unfold Work.credit InkChannel.credited
  cases hon : w.enabled c
  · simp +contextual
  · cases hst : (w.ink.get c).state
    · simp +contextual [hst]
    · simp only [Bool.not_true, Bool.false_eq_true, if_false, and_self, if_true, hst]
      split
      · rename_i h
        simp [Work.putInk_get, min_eq_left h]
      · rename_i h
        simp [Work.putInk_get, min_eq_right (Nat.le_of_not_le h)]

theorem Work.credit_tally (w : Work) (c d : Channel) :
    (w.credit c).tally.channels.get d
      = if d = c then (w.tally.channels.get c).credited (w.ink.get c) (w.enabled c)
          (w.reservoir c).credit (w.reservoir c).capacity
        else w.tally.channels.get d := by
  unfold Work.credit TallyChannel.credited
  cases hon : w.enabled c
  · simp +contextual
  · cases hst : (w.ink.get c).state
    · by_cases hd : d = c <;> simp [Work.adjust_get, Work.addTally_get, hd, hst]
    · by_cases hd : d = c <;>
        simp only [Bool.not_true, Bool.false_eq_true, Bool.true_eq_false, if_false, hd, hst] <;> split <;>
        simp [Work.adjust_get, Work.addTally_get, hd]

theorem Work.credit_raisesOnly {P : FaultCode → Prop} (w : Work) (c : Channel) (h : P .tallyOverflow) :
    Work.RaisesOnly P w (w.credit c) := by
  simp only [Work.credit]
  (repeat' split)
  · exact .same rfl
  · exact (Work.addTally_raisesOnly _ _ _ _ h).trans (Work.adjust_raisesOnly _ _ _ h)
  · exact .trans (.same rfl) (Work.addTally_raisesOnly _ _ _ _ h)
  · exact .trans (.same rfl) ((Work.addTally_raisesOnly _ _ _ _ h).trans (Work.adjust_raisesOnly _ _ _ h))

theorem TallyChannel.credited_balances {t : TallyChannel} {x : InkChannel} (h : t.Balances x.estimate)
    (on : Bool) (f top : Nat) :
    (t.credited x on f top).Balances (x.credited on f top).estimate := by
  unfold TallyChannel.credited InkChannel.credited
  cases on
  · simpa using h
  · cases hst : x.state
    · simpa [Amount.signed] using (h.plus .refilled f).booked (-(f : Int))
    · simp only [Bool.true_eq_false, if_false, and_self, if_true, reduceCtorEq]
      split
      · rename_i hle
        simpa [Amount.signed, min_eq_left hle] using h.plus .refilled f
      · rename_i hle
        have := (h.plus .refilled f).booked ((top : Int) - (x.estimate + f : Nat))
        rw [show Nat.min (x.estimate + f) top = top from min_eq_right (Nat.le_of_not_le hle)]
        rwa [show (x.estimate : Int) + Amount.refilled.signed f + (top - (x.estimate + f : Nat)) = top by
          simp only [Amount.signed]; omega] at this

/-! ### Setting the estimate (R4, R16) -/

theorem Work.reconcile_ink (w : Work) (c d : Channel) (level : Nat) :
    (w.reconcile c level).ink.get d
      = if d = c then { w.ink.get c with estimate := level } else w.ink.get d := by
  simp only [Work.reconcile]
  split <;> simp [Work.putInk_get]

theorem Work.reconcile_tally (w : Work) (c d : Channel) (level : Nat) :
    (w.reconcile c level).tally.channels.get d
      = if d = c then (w.tally.channels.get c).booked ((level : Int) - (w.ink.get c).estimate)
        else w.tally.channels.get d := by
  simp only [Work.reconcile]
  split <;> simp [Work.adjust_get]

theorem Work.anchor_ink (w : Work) (c d : Channel) :
    (w.anchor c).ink.get d
      = if d = c then { w.ink.get c with estimate := (w.reservoir c).fullLevel, state := .known }
        else w.ink.get d := by
  simp [Work.anchor, Work.putInk_get]

theorem Work.anchor_tally (w : Work) (c d : Channel) :
    (w.anchor c).tally.channels.get d
      = if d = c then
          (w.tally.channels.get c).booked (((w.reservoir c).fullLevel : Int) - (w.ink.get c).estimate)
        else w.tally.channels.get d := by
  simp [Work.anchor, Work.adjust_get]

theorem TallyChannel.Balances.moved {t : TallyChannel} {e : Int} (h : t.Balances e) (e' : Int) :
    (t.booked (e' - e)).Balances e' := by simpa using h.booked (e' - e)

/-! ### START (R22) -/

/-- A channel's ink as a START brings it to its new reservoir, before the FULL mark is looked at. -/
def InkChannel.refit (x : InkChannel) (was on : Bool) (top : Nat) : InkChannel :=
  if was = true ∧ on = true then { x with estimate := Nat.min x.estimate top }
  else if was = true ∨ on = true then { x with estimate := 0, residue := 0, state := .unknown }
  else x

/-- A channel's tallies over `refit`: only a channel that was enabled books its difference. -/
def TallyChannel.refit (t : TallyChannel) (x : InkChannel) (was on : Bool) (top : Nat) : TallyChannel :=
  if was = true ∧ (on = true → top < x.estimate) then
    t.booked (((x.refit was on top).estimate : Int) - x.estimate)
  else t

/-- Whether a START finds the channel's FULL mark WET with no estimate to go by. -/
def InkChannel.anchors (x : InkChannel) (on : Bool) : Bool :=
  on && decide (x.state = .unknown) && decide (x.full.state = .wet)

/-- `refit` as an operation of the event. -/
def Work.refitInk (w : Work) (was : Bool) (c : Channel) : Work :=
  if was && w.enabled c then
    if (w.reservoir c).capacity < (w.ink.get c).estimate then
      (w.putInk c { w.ink.get c with estimate := (w.reservoir c).capacity }).adjust c
        (((w.reservoir c).capacity : Int) - (w.ink.get c).estimate)
    else w
  else if was then
    (w.putInk c { w.ink.get c with estimate := 0, residue := 0, state := .unknown }).adjust c
      (-((w.ink.get c).estimate : Int))
  else if w.enabled c then
    w.putInk c { w.ink.get c with estimate := 0, residue := 0, state := .unknown }
  else w

theorem Work.startInk_eq (w : Work) (was : Bool) (c : Channel) :
    w.startInk was c
      = if ((w.refitInk was c).ink.get c).anchors ((w.refitInk was c).enabled c) then
          (w.refitInk was c).anchor c
        else w.refitInk was c := rfl

@[simp] theorem Work.refitInk_mode (w : Work) (was : Bool) (c : Channel) : (w.refitInk was c).mode = w.mode := by
  simp only [Work.refitInk]
  (repeat' split) <;> simp

theorem Work.refitInk_ink (w : Work) (was : Bool) (c d : Channel) :
    (w.refitInk was c).ink.get d
      = if d = c then (w.ink.get c).refit was (w.enabled c) (w.reservoir c).capacity else w.ink.get d := by
  unfold Work.refitInk InkChannel.refit
  cases was <;> cases w.enabled c
  · simp +contextual
  · simp [Work.putInk_get]
  · simp [Work.putInk_get]
  · simp only [Bool.and_self, if_true, and_self]
    split
    · rename_i h
      simp [Work.putInk_get, min_eq_right h.le]
    · rename_i h
      rw [show Nat.min (w.ink.get c).estimate (w.reservoir c).capacity = (w.ink.get c).estimate from
        min_eq_left (Nat.le_of_not_lt h)]
      simp +contextual

theorem Work.refitInk_tally (w : Work) (was : Bool) (c d : Channel) :
    (w.refitInk was c).tally.channels.get d
      = if d = c then (w.tally.channels.get c).refit (w.ink.get c) was (w.enabled c) (w.reservoir c).capacity
        else w.tally.channels.get d := by
  unfold Work.refitInk TallyChannel.refit InkChannel.refit
  cases was <;> cases w.enabled c
  · simp +contextual
  · simp +contextual
  · simp [Work.adjust_get]
  · simp only [Bool.and_self, if_true, and_self, true_and, true_implies]
    split
    · rename_i h
      simp [Work.adjust_get, min_eq_right h.le]
    · simp +contextual

theorem Work.startInk_ink (w : Work) (was : Bool) (c d : Channel) :
    (w.startInk was c).ink.get d
      = if d = c then
          let x := (w.ink.get c).refit was (w.enabled c) (w.reservoir c).capacity
          if x.anchors (w.enabled c) then { x with estimate := (w.reservoir c).fullLevel, state := .known }
          else x
        else w.ink.get d := by
  have hon : (w.refitInk was c).enabled c = w.enabled c := by simp [State.enabled]
  have hres : (w.refitInk was c).reservoir c = w.reservoir c := by simp [State.reservoir]
  rw [Work.startInk_eq, hon]
  by_cases hd : d = c
  · subst hd
    simp only [Work.refitInk_ink, if_true]
    split <;> simp [Work.anchor_ink, Work.refitInk_ink, hres]
  · split <;> simp [Work.anchor_ink, Work.refitInk_ink, hd]

theorem Work.startInk_tally (w : Work) (was : Bool) (c d : Channel) :
    (w.startInk was c).tally.channels.get d
      = if d = c then
          let x := (w.ink.get c).refit was (w.enabled c) (w.reservoir c).capacity
          let t := (w.tally.channels.get c).refit (w.ink.get c) was (w.enabled c) (w.reservoir c).capacity
          if x.anchors (w.enabled c) then t.booked (((w.reservoir c).fullLevel : Int) - x.estimate) else t
        else w.tally.channels.get d := by
  have hon : (w.refitInk was c).enabled c = w.enabled c := by simp [State.enabled]
  have hres : (w.refitInk was c).reservoir c = w.reservoir c := by simp [State.reservoir]
  rw [Work.startInk_eq, hon]
  by_cases hd : d = c
  · subst hd
    simp only [Work.refitInk_ink, if_true]
    split <;> simp [Work.anchor_tally, Work.refitInk_ink, Work.refitInk_tally, hres]
  · split <;> simp [Work.anchor_tally, Work.refitInk_tally, hd]

/-! ### The ink-moving operations as runs over the channels -/

theorem Work.giveUp_other {w : Work} {k : Amount} {c d : Channel} {whole residue blind : Nat} (h : d ≠ c) :
    (w.giveUp k c whole residue blind).ink.get d = w.ink.get d
      ∧ (w.giveUp k c whole residue blind).tally.channels.get d = w.tally.channels.get d := by
  simp [Work.giveUp_ink, Work.giveUp_tally, h]

theorem State.enabled_congr {s t : State} (h : s.mode = t.mode) (c : Channel) : s.enabled c = t.enabled c := by
  simp [State.enabled, h]

theorem State.reservoir_congr {s t : State} (h : s.mode = t.mode) (c : Channel) :
    s.reservoir c = t.reservoir c := by simp [State.reservoir, h]

/-- The deduction of a band at one channel with its count (R12). -/
def Work.bandAt (r : BandRecord) (w : Work) (c : Channel) : Work :=
  if w.enabled c then (w.deduct .printed c (r.volume.get c)).countBand c else w

/-- The deduction of a spit at one channel (R13). -/
def Work.spitAt (volumes : PerChannel Nat) (w : Work) (c : Channel) : Work :=
  w.deduct .spit c (volumes.get c)

/-- The deduction of a purge at one channel (R13). -/
def Work.purgeAt (set : ChannelSet) (volumes : PerChannel Nat) (w : Work) (c : Channel) : Work :=
  if set.get c then w.deductPurge c (volumes.get c) else w

theorem Work.deductBand_eq (w : Work) (r : BandRecord) :
    w.deductBand r = Channel.all.foldl (Work.bandAt r) w := rfl

theorem Work.deductSpit_eq (w : Work) (volumes : PerChannel Nat) :
    w.deductSpit volumes = Channel.all.foldl (Work.spitAt volumes) w := rfl

theorem Work.deductPurges_eq (w : Work) (set : ChannelSet) (volumes : PerChannel Nat) :
    w.deductPurges set volumes = Channel.all.foldl (Work.purgeAt set volumes) w := rfl

theorem Work.bandAt_byChannel (r : BandRecord) : ByChannel (Work.bandAt r) where
  mode w c := by unfold Work.bandAt; split <;> simp
  other w c d h := by
    unfold Work.bandAt
    split <;> simp [Work.deduct_eq, Work.giveUp_ink, Work.countBand_get, Work.giveUp_tally, h]
  own v w c hm hi ht := by
    have hon := State.enabled_congr hm c
    unfold Work.bandAt
    rw [hon]
    split <;>
      simp [Work.deduct_eq, Work.giveUp_ink, Work.countBand_get, Work.giveUp_tally, hi, ht, hon]

theorem Work.spitAt_byChannel (volumes : PerChannel Nat) : ByChannel (Work.spitAt volumes) where
  mode w c := by simp [Work.spitAt]
  other w c d h := by simp [Work.spitAt, Work.deduct_eq, Work.giveUp_ink, Work.giveUp_tally, h]
  own v w c hm hi ht := by
    have hon := State.enabled_congr hm c
    simp [Work.spitAt, Work.deduct_eq, Work.giveUp_ink, Work.giveUp_tally, hi, ht, hon]

theorem Work.purgeAt_byChannel (set : ChannelSet) (volumes : PerChannel Nat) :
    ByChannel (Work.purgeAt set volumes) where
  mode w c := by unfold Work.purgeAt; split <;> simp
  other w c d h := by
    unfold Work.purgeAt
    split <;> simp [Work.deductPurge_eq, Work.giveUp_ink, Work.giveUp_tally, h]
  own v w c hm hi ht := by
    have hon := State.enabled_congr hm c
    unfold Work.purgeAt
    split <;> simp [Work.deductPurge_eq, Work.giveUp_ink, Work.giveUp_tally, hi, ht, hon]

theorem Work.startInk_byChannel (was : ChannelSet) : ByChannel fun w c => w.startInk (was.get c) c where
  mode w c := by simp
  other w c d h := by simp [Work.startInk_ink, Work.startInk_tally, h]
  own v w c hm hi ht := by
    simp [Work.startInk_ink, Work.startInk_tally, hi, ht, State.enabled_congr hm c,
      State.reservoir_congr hm c]

end Sys2Proof.Machine
end

section
/-! PROOFS. What every step keeps of ink metering: the balance of each channel with its tallies, the ranges of the
estimates and residues, and which commands move them at all. -/

namespace Sys2Proof.Machine

/-! ### What an arrival and an answer can do -/

/-- The ways on a route from a target reached (R96). -/
theorem Work.reached_cases (w : Work) :
    w.reached = w ∨ w.reached = w.complete
      ∨ w.reached = ({ w with service := { w.service with wiper := false } } : Work).goPark
      ∨ ∃ k, w.reached = w.sendHead k := by
  unfold Work.reached
  (repeat' split) <;> simp

/-- The ways on from a DONE of the head driver (R94, R96). -/
theorem Work.headAnswered_cases (w : Work) :
    w.headAnswered = { w with service := { w.service with head := none } }
      ∨ w.headAnswered = ({ w with service := { w.service with head := none } } : Work).goPark
      ∨ w.headAnswered = ({ w with service := { w.service with head := none } } : Work).complete := by
  unfold Work.headAnswered
  (repeat' split) <;> simp

/-! ### Properties that giving up ink keeps -/

/-- A property of ink, tallies and mode that a deduction and a band count at any channel keep. -/
structure LedgerClosed (P : Work → Prop) : Prop where
  same : ∀ {v w : Work}, P v → w.ink = v.ink → w.tally = v.tally → w.mode = v.mode → P w
  give : ∀ {w : Work} {k : Amount} {c : Channel} {whole residue blind : Nat}, k ≠ .refilled →
    residue < Config.unitsPerNl ∨ residue = (w.ink.get c).residue → P w →
    P (w.giveUp k c whole residue blind)
  count : ∀ {w : Work} {c : Channel}, P w → P (w.countBand c)

section
variable {P : Work → Prop} (hP : LedgerClosed P) {w : Work}
include hP

theorem LedgerClosed.deduct {k : Amount} (hk : k ≠ .refilled) (c : Channel) (v : Nat) (h : P w) :
    P (w.deduct k c v) := by
  rw [Work.deduct_eq]
  exact hP.give hk (.inl (Nat.mod_lt _ (by decide))) h

theorem LedgerClosed.deductBand (r : BandRecord) (h : P w) : P (w.deductBand r) := by
  refine foldl_invariant _ P (fun w c h => ?_) _ _ h
  split
  · exact hP.count (hP.deduct (by decide) _ _ h)
  · exact h

theorem LedgerClosed.deductSpit (v : PerChannel Nat) (h : P w) : P (w.deductSpit v) :=
  foldl_invariant _ P (fun _ _ h => hP.deduct (by decide) _ _ h) _ _ h

theorem LedgerClosed.deductPurges (set : ChannelSet) (v : PerChannel Nat) (h : P w) :
    P (w.deductPurges set v) := by
  refine foldl_invariant _ P (fun w c h => ?_) _ _ h
  split
  · rw [Work.deductPurge_eq]
    exact hP.give (by decide) (.inr rfl) h
  · exact h

theorem LedgerClosed.retire (r : BandRecord) (h : P w) : P (w.retire r) := by
  have : P (({ w.putRecords (w.bands.records.erase r) with
    bands := { (w.putRecords (w.bands.records.erase r)).bands with lastRetired := r.endLine } } : Work).deductBand r) :=
    hP.deductBand r (hP.same h rfl rfl rfl)
  exact hP.same this rfl rfl rfl

theorem LedgerClosed.retirePrinting (h : P w) : P w.retirePrinting := by
  unfold Work.retirePrinting
  split
  · exact hP.retire _ h
  · exact h

theorem LedgerClosed.removeCurrent (h : P w) : P w.removeCurrent := by
  unfold Work.removeCurrent
  split
  · exact h
  · exact hP.same (hP.retirePrinting h) rfl rfl rfl

theorem LedgerClosed.sheetQueue (n len : Nat) (h : P w) : P (w.sheetQueue n len) :=
  hP.same (hP.retirePrinting h) rfl rfl rfl

theorem LedgerClosed.positionTests (h : P w) : P w.positionTests := by
  unfold Work.positionTests
  split
  · exact h
  · have ha : ∀ base pos, P (w.retireAt base pos) := fun base pos => by
      unfold Work.retireAt
      (repeat' split)
      · exact hP.retire _ h
      all_goals exact h
    unfold Work.startAt
    (repeat' split)
    · exact ha ..
    · exact hP.same (ha ..) rfl rfl rfl
    · exact hP.removeCurrent (ha ..)
    · exact ha ..

theorem LedgerClosed.positionEvent (h : P w) : P w.positionEvent := by
  simp only [Work.positionEvent]
  split
  · have moved : P { w with feed := { w.feed with position := w.feed.position + 1 }, drive := true } :=
      hP.same h rfl rfl rfl
    exact hP.same (hP.positionTests moved) (by simp) (by simp) (by simp)
  · exact hP.same h (by simp) (by simp) (by simp)

theorem LedgerClosed.takeSheet (r : SheetRecord) (h : P w) : P (w.takeSheet r) := by
  have hq := hP.sheetQueue r.sheet r.printLength h
  simp only [Work.takeSheet]
  (repeat' split) <;> exact hP.same hq (by simp) (by simp) (by simp)

theorem LedgerClosed.takeAbort (h : P w) : P w.takeAbort :=
  hP.same (hP.removeCurrent h) (by simp [Work.takeAbort]) (by simp [Work.takeAbort]) (by simp)

theorem LedgerClosed.complete (h : P w) : P w.complete := by
  have spit : ∀ {v : Work} (a : CurrentAction), P v → P (v.spitDone a) := fun a hv =>
    hP.same (hP.deductSpit a.volumes hv) (by rfl) (by rfl) (by rfl)
  have purge : ∀ {v : Work} set vol, P v → P (v.purgeDone set vol) := fun set vol hv =>
    hP.same (hP.deductPurges set vol hv) (by simp [Work.purgeDone]) (by simp [Work.purgeDone]) (by simp)
  have plain : ∀ {v : Work}, v.ink = w.ink → v.tally = w.tally → v.mode = w.mode → P v :=
    hP.same h
  simp only [Work.complete]
  split
  · exact h
  · split
    case h_4 | h_5 => exact spit _ (plain (by simp) (by simp) (by simp))
    case h_8 => exact purge _ _ (plain rfl rfl rfl)
    all_goals exact plain (by simp) (by simp) (by simp)

theorem LedgerClosed.goPark (h : P w) : P w.goPark := by
  have hv : P ((w.setStage .inbound).commandSled .park) := hP.same h (by simp) (by simp) (by simp)
  simp only [Work.goPark]
  split
  · exact hP.complete hv
  · exact hv

theorem LedgerClosed.reached (h : P w) : P w.reached := by
  obtain e | e | e | ⟨k, e⟩ := w.reached_cases <;> rw [e]
  · exact h
  · exact hP.complete h
  · exact hP.goPark (hP.same h rfl rfl rfl)
  · exact hP.same h (by simp) (by simp) (by simp)

theorem LedgerClosed.arriveAt (p : SledPlace) (h : P w) : P (w.arriveAt p) :=
  hP.reached (hP.same h (by rfl) (by rfl) (by rfl))

theorem LedgerClosed.headAnswered (h : P w) : P w.headAnswered := by
  have hv : P { w with service := { w.service with head := none } } := hP.same h rfl rfl rfl
  obtain e | e | e := w.headAnswered_cases <;> rw [e]
  · exact hv
  · exact hP.goPark hv
  · exact hP.complete hv

/-- The commands that give up ink keep it. -/
theorem LedgerClosed.body_gives (i : Instr)
    (hi : ∃ c, i.movesInk c = true) (hs : special i = false) (hst : ∀ ref, i ≠ .start ref)
    (hf : ∀ c, i ≠ .flowPulse c) (hm : ∀ c m b, i ≠ .markChange c m b) (h : P w) : P (body i w) := by
  have out : ∀ {v : Work} k ref code, P v → P (v.outcome k ref code) := fun k ref code hv =>
    hP.same hv (by simp) (by simp) (by simp)
  obtain ⟨c, hc⟩ := hi
  cases i
  case powerOn | resetPinAsserted | restart => cases hs
  case start => exact absurd rfl (hst _)
  case flowPulse => exact absurd rfl (hf _)
  case markChange => exact absurd rfl (hm _ _ _)
  case encoderCount => exact hP.positionEvent h
  case sheet =>
    simp only [body]
    split
    · split
      · exact out _ _ _ h
      · exact out _ _ _ (hP.takeSheet _ h)
    · exact out _ _ _ h
  case abortSheet =>
    simp only [body]
    split
    · split
      · exact out _ _ _ (hP.takeAbort h)
      · exact out _ _ _ h
    · exact out _ _ _ h
  case headDone =>
    simp only [body]
    (repeat' split)
    · exact hP.headAnswered h
    all_goals exact h
  case sledArrival =>
    simp only [body]
    split
    · exact hP.arriveAt _ h
    · exact hP.same h rfl rfl rfl
  all_goals exact absurd hc (by simp [Instr.movesInk])

end

end Sys2Proof.Machine
end

section
namespace Sys2Proof.Machine

/-! ### The commands that move no ink (R3, R9 to R16, R22, R160) -/

/-- What a channel holds of ink: its estimate, its residue and whether the estimate is anchored. -/
def InkChannel.stock (x : InkChannel) : Nat × Nat × EstimateState := (x.estimate, x.residue, x.state)

theorem InkChannel.stock_eq {x y : InkChannel} (h : x.stock = y.stock) :
    x.estimate = y.estimate ∧ x.residue = y.residue ∧ x.state = y.state := by
  simpa [InkChannel.stock] using h

@[simp] theorem InkChannel.settleMark_stock (x : InkChannel) (m : MarkName) (wet : Bool) :
    (x.settleMark m wet).stock = x.stock := by simp [InkChannel.stock]

@[simp] theorem InkChannel.sampled_stock (x : InkChannel) : x.sampled.stock = x.stock := rfl

theorem Work.endFrame_tallies (w : Work) (t : TxFrame) :
    (w.endFrame t).tally.channels = w.tally.channels := by
  simp only [Work.endFrame, Work.partSent]
  (repeat' split) <;> simp

/-- A command other than those of `movesInk` leaves the channel's stock, and its tallies but for a close. -/
theorem body_stock {i : Instr} {c : Channel} (w : Work) (h : i.movesInk c = false) :
    ((body i w).ink.get c).stock = (w.ink.get c).stock
      ∧ (i.mayClose = false → (body i w).tally.channels.get c = w.tally.channels.get c) := by
  cases i
  case powerOn | resetPinAsserted | start | encoderCount | abortSheet | headDone | sledArrival | sheet =>
    simp [Instr.movesInk] at h
  case markChange d m wet =>
    have hd : c ≠ d := by rintro rfl; simp [Instr.movesInk] at h
    simp only [body]
    split
    · exact ⟨rfl, fun _ => rfl⟩
    · simp only [Work.markReconcile]
      (repeat' split) <;>
        simp [Work.reconcile_ink, Work.anchor_ink, Work.reconcile_tally, Work.anchor_tally, Work.putInk_get, hd]
  case flowPulse d =>
    have hd : c ≠ d := by rintro rfl; simp [Instr.movesInk] at h
    simp [body, Work.credit_ink, Work.credit_tally, hd]
  case markSettled d m wet =>
    simp only [body]
    split
    · by_cases hd : c = d <;> simp [PerChannel.get_set, hd]
    · exact ⟨rfl, fun _ => rfl⟩
  case tallyClose | leadingEdge | trailingEdge =>
    simp only [body, Instr.mayClose]
    (repeat' split) <;> simp
  case frameSent =>
    simp only [body]
    split
    · exact ⟨by simp, fun _ => by rw [Work.endFrame_tallies]⟩
    · exact ⟨rfl, fun _ => rfl⟩
  all_goals
    simp only [body]
    (repeat' split) <;> simp

/-- A RESTART order leaves ink and tallies (R22, R167). -/
theorem Work.takeRestart_tallies (w : Work) (straps : StationNo) :
    (w.takeRestart straps).tally.channels = w.tally.channels := by simp [Work.takeRestart]

/-- What a completed RESTART order has made of the state. -/
theorem completes_restart {ref : Nat} {straps : StationNo} {s t : State}
    (h : Completes (.restart ref straps) s t) :
    t = s ∨ t = (((Work.begin s).takeRestart straps).outcome .restart ref .accepted).finish := by
  have h : event s (fun w => (w.takeRestart straps).outcome .restart ref .accepted) = .next t := h
  exact (event_next h).imp (·.2) (·.2)

/-- Settles O13: a completed command is its body and the end of the event, which leaves ink and tallies. -/
theorem onlyTheseEventsMoveInk : Obligations.OnlyTheseEventsMoveInk := by
  intro i s t c hc hi
  suffices h : (t.ink.get c).stock = (s.ink.get c).stock
      ∧ (i.mayClose = false → t.tally.channels.get c = s.tally.channels.get c) by
    obtain ⟨hs, ht⟩ := h
    obtain ⟨he, hr, hst⟩ := InkChannel.stock_eq hs
    exact ⟨he, hr, hst, ht⟩
  cases hsp : special i
  · obtain ⟨-, rfl⟩ | ⟨-, rfl⟩ := completes_cases hsp hc
    · exact ⟨rfl, fun _ => rfl⟩
    · simpa using body_stock (Work.begin s) hi
  · cases i
    case restart =>
      obtain rfl | rfl := completes_restart hc
      · exact ⟨rfl, fun _ => rfl⟩
      · simp [Work.takeRestart_tallies]
    case powerOn | resetPinAsserted => simp [Instr.movesInk] at hi
    all_goals simp [special] at hsp

/-! ### A START, channel by channel (R22) -/

/-- Ink metering's part of a START: the configuration in force, then the channels one after another. -/
def Work.startedInk (w : Work) : Work :=
  Channel.all.foldl (fun v c => v.startInk (w.mode.inForce.sec0.enabled.get c) c) w.enterRun

theorem Work.startedInk_mode (w : Work) : w.startedInk.mode = w.mode.running :=
  foldl_keeps _ (fun v : Work => v.mode) (fun _ _ => by simp) _ _

theorem Work.takeStart_ledger (w : Work) :
    w.takeStart.ink = w.startedInk.ink ∧ w.takeStart.tally = w.startedInk.tally
      ∧ w.takeStart.mode = w.mode.running := by
  refine ⟨?_, ?_, ?_⟩ <;> simp only [Work.takeStart, Work.startLink_frame, Work.startNozzle_frame,
    Work.startKeepWet_frame, Work.releaseRefill_frame, Work.revalue_frame]
  · rfl
  · rfl
  · exact w.startedInk_mode

theorem Work.startedInk_get (w : Work) (c : Channel) :
    w.startedInk.ink.get c = (w.enterRun.startInk (w.enabled c) c).ink.get c
      ∧ w.startedInk.tally.channels.get c = (w.enterRun.startInk (w.enabled c) c).tally.channels.get c :=
  (Work.startInk_byChannel w.mode.inForce.sec0.enabled).all_get w.enterRun c

/-! ### What one step can do -/

/-- A step is a tick, nothing under the RESET pin but the queue's advance, a power-on, a RESTART, or the event of
another command. -/
theorem step_cases {s t : State} (h : step s = Host.Outcome.next t) :
    t = s.tick ∨ (∃ l, t = { s with pending := l })
      ∨ (∃ l n p pin, t = State.poweredOn { s with pending := l } n p pin)
      ∨ (∃ l ref straps, t = (((Work.begin { s with pending := l }).takeRestart straps).outcome .restart ref
          .accepted).finish)
      ∨ ∃ l i, special i = false ∧ t = (body i (Work.begin { s with pending := l })).finish := by
  unfold step at h
  split at h
  · exact .inl (Host.Outcome.next.inj h).symm
  · rename_i i rest _
    refine .inr ?_
    cases hsp : special i
    · obtain ⟨-, rfl⟩ | ⟨-, rfl⟩ := completes_cases hsp h
      · exact .inl ⟨_, rfl⟩
      · exact .inr (.inr (.inr ⟨_, _, hsp, rfl⟩))
    · cases i
      case powerOn => exact .inr (.inl ⟨_, _, _, _, (Host.Outcome.next.inj h).symm⟩)
      case resetPinAsserted => exact .inr (.inl ⟨_, _, _, _, (Host.Outcome.next.inj h).symm⟩)
      case restart =>
        obtain rfl | rfl := completes_restart h
        · exact .inl ⟨_, rfl⟩
        · exact .inr (.inr (.inl ⟨_, _, _, rfl⟩))
      all_goals simp [special] at hsp

/-- A tick moves no ink and no tally. -/
@[simp] theorem State.tick_ledger (s : State) (c : Channel) :
    (s.tick.ink.get c).estimate = (s.ink.get c).estimate ∧ (s.tick.ink.get c).residue = (s.ink.get c).residue
      ∧ (s.tick.ink.get c).state = (s.ink.get c).state
      ∧ s.tick.tally.channels.get c = s.tally.channels.get c := by
  unfold State.tick
  split <;> simp [State.aged, InkChannel.sampled]

@[simp] theorem State.tick_mode (s : State) : s.tick.mode = s.mode := by
  unfold State.tick
  split <;> rfl

/-! ### The balance (R18) -/

theorem ledgerClosed_balance : LedgerClosed fun w => w.toState.allBalanced where
  same h hi ht _ c := by
    have := h c
    rwa [State.balanced_iff, ← hi, ← ht] at this
  give hk _ h d := by
    rename_i c _ _ _ _
    rw [State.balanced_iff, Work.giveUp_ink, Work.giveUp_tally]
    split
    · exact TallyChannel.gave_balances (h c) _ hk ..
    · exact h d
  count h d := by
    rename_i w c
    rw [State.balanced_iff, Work.countBand_get]
    split
    · rename_i e
      exact e ▸ TallyChannel.Balances.counted (h d)
    · exact h d

theorem Work.startInk_balanced {w : Work} {was : Bool} {c : Channel} (h : w.balanced c)
    (hz : was = false → (w.ink.get c).estimate = 0) : (w.startInk was c).balanced c := by
  have hr : ((w.tally.channels.get c).refit (w.ink.get c) was (w.enabled c) (w.reservoir c).capacity).Balances
      ((w.ink.get c).refit was (w.enabled c) (w.reservoir c).capacity).estimate := by
    unfold TallyChannel.refit
    split
    · exact TallyChannel.Balances.moved h _
    · rename_i hn
      have : ((w.ink.get c).refit was (w.enabled c) (w.reservoir c).capacity).estimate
          = (w.ink.get c).estimate := by
        cases was
        · unfold InkChannel.refit
          cases w.enabled c <;> simp [hz]
        · obtain ⟨hon, hle⟩ : w.enabled c = true ∧ (w.ink.get c).estimate ≤ (w.reservoir c).capacity := by
            simpa using hn
          simp [InkChannel.refit, hon, min_eq_left hle]
      rw [this]
      exact h
  rw [State.balanced_iff, Work.startInk_ink, Work.startInk_tally]
  simp only [if_true]
  split
  · exact hr.moved _
  · exact hr

theorem Work.startedInk_balanced {w : Work} (hw : w.inkWithin) (h : w.allBalanced) :
    w.startedInk.allBalanced := by
  intro c
  obtain ⟨-, -, -, hoff, -⟩ := hw
  have := Work.startInk_balanced (w := w.enterRun) (was := w.enabled c) (h c) fun e => (hoff c e).1
  obtain ⟨hi, ht⟩ := w.startedInk_get c
  rwa [State.balanced_iff, hi, ht]

/-- A close opens the new period at the estimates as they stand (R160). -/
theorem Work.closePeriod_balanced (w : Work) (limited : Bool) : (w.closePeriod limited).allBalanced := by
  intro c
  rw [State.balanced_iff]
  simpa [Work.closePeriod, Work.loadReport] using TallyChannel.openedAt_balances (w.ink.get c).estimate

theorem State.balanced_congr {s t : State} {c : Channel}
    (he : (t.ink.get c).estimate = (s.ink.get c).estimate)
    (ht : t.tally.channels.get c = s.tally.channels.get c) (h : s.balanced c) : t.balanced c := by
  rwa [State.balanced_iff, he, ht]

theorem Work.edgeOperation_balanced {w : Work} (close peek : Bool) (h : w.allBalanced) :
    (w.edgeOperation close peek).allBalanced := by
  unfold Work.edgeOperation
  (repeat' split)
  · exact h
  · exact w.closePeriod_balanced true
  all_goals exact h

theorem Work.credit_balanced {w : Work} (c : Channel) (h : w.allBalanced) : (w.credit c).allBalanced := by
  intro d
  rw [State.balanced_iff, Work.credit_ink, Work.credit_tally]
  split
  · exact TallyChannel.credited_balances (h c) ..
  · exact h d

theorem Work.reconcile_balanced {w : Work} (c : Channel) (level : Nat) (h : w.allBalanced) :
    (w.reconcile c level).allBalanced := by
  intro d
  rw [State.balanced_iff, Work.reconcile_ink, Work.reconcile_tally]
  split
  · exact TallyChannel.Balances.moved (h c) _
  · exact h d

theorem Work.anchor_balanced {w : Work} (c : Channel) (h : w.allBalanced) : (w.anchor c).allBalanced := by
  intro d
  rw [State.balanced_iff, Work.anchor_ink, Work.anchor_tally]
  split
  · exact TallyChannel.Balances.moved (h c) _
  · exact h d

theorem Work.markReconcile_balanced {w : Work} (c : Channel) (m : MarkName) (wet : Bool) (h : w.allBalanced) :
    (w.markReconcile c m wet).allBalanced := by
  unfold Work.markReconcile
  (repeat' split)
  case h_1 | h_2 => exact Work.reconcile_balanced c _ h
  case h_3.isTrue => exact Work.anchor_balanced c h
  all_goals exact h

/-- The estimates are as they were before one mark of a channel was settled. -/
theorem Work.settledMark_balanced {w : Work} (c : Channel) (m : MarkName) (wet : Bool) (h : w.allBalanced) :
    ((w.putInk c ((w.ink.get c).settleMark m wet)).markRefill c m wet).allBalanced := by
  intro d
  refine State.balanced_congr ?_ (by simp) (h d)
  rw [(Work.markRefill_frame ..).1, Work.putInk_get]
  split
  · rename_i e
    simp [e]
  · rfl

/-- The body of every command keeps the balance. -/
theorem body_balanced {i : Instr} {w : Work} (hs : special i = false) (hw : w.inkWithin) (h : w.allBalanced) :
    (body i w).allBalanced := by
  have out : ∀ {v : Work} k ref code, v.allBalanced → (v.outcome k ref code).allBalanced :=
    fun _ _ _ hv c => hv c
  by_cases hg : ∃ c, i.movesInk c = true
  · cases i
    case start =>
      simp only [body]
      split
      · exact out _ _ _ h
      · obtain ⟨hi, ht, -⟩ := w.takeStart_ledger
        exact out _ _ _ fun c => State.balanced_congr (by rw [hi]) (by rw [ht]) (Work.startedInk_balanced hw h c)
    case flowPulse c =>
      exact fun d => State.balanced_congr (by simp [body]) (by simp [body]) (Work.credit_balanced c h d)
    case markChange c m wet =>
      simp only [body]
      split
      · exact h
      · exact Work.markReconcile_balanced c m wet (Work.settledMark_balanced c m wet h)
    all_goals
      exact ledgerClosed_balance.body_gives _ hg hs (by simp) (by simp) (by simp) h
  · have still : ∀ c, i.movesInk c = false := by simpa using hg
    by_cases hm : i.mayClose = false
    · intro c
      obtain ⟨hst, ht⟩ := body_stock w (still c)
      exact State.balanced_congr (InkChannel.stock_eq hst).1 (ht hm) (h c)
    · cases i
      case tallyClose =>
        simp only [body]
        (repeat' split)
        · exact h
        · exact fun c => State.balanced_congr rfl rfl (w.closePeriod_balanced false c)
        · exact h
      case leadingEdge =>
        simp only [body]
        split
        · refine Work.edgeOperation_balanced _ _ fun c => State.balanced_congr ?_ ?_ (h c) <;> simp
        · exact h
      case trailingEdge =>
        simp only [body]
        split
        · refine Work.edgeOperation_balanced _ _ fun c => State.balanced_congr ?_ ?_ (h c) <;> simp
        · exact h
      all_goals exact absurd rfl hm

/-- A power-on leaves every estimate and tally at 0. -/
theorem State.poweredOn_balanced (s : State) (n : StationNo) (p : Option SledPlace) (pin : Bool) :
    (s.poweredOn n p pin).allBalanced := fun c => .inr (by
  simp [State.poweredOn, InkChannel.reset, State.reset, Tally.reset, TallyChannel.reset])

/-- Settles O6, by the commands: what a command does to a channel's ink it books in that channel's tallies. -/
theorem stepKeepsTheBalance : Obligations.StepKeepsTheBalance := by
  intro s t hw hb hstep
  obtain rfl | ⟨l, rfl⟩ | ⟨l, n, p, pin, rfl⟩ | ⟨l, ref, straps, rfl⟩ | ⟨l, i, hi, rfl⟩ := step_cases hstep
  · exact fun c => State.balanced_congr (by simp) (by simp) (hb c)
  · exact hb
  · exact State.poweredOn_balanced _ _ _ _
  · exact fun c => State.balanced_congr (by simp) (by simp [Work.takeRestart_tallies]) (hb c)
  · have := body_balanced (w := Work.begin { s with pending := l }) hi hw hb
    exact fun c => State.balanced_congr (by simp) (by simp) (this c)

end Sys2Proof.Machine
end

section
/-! PROOFS. The estimates and residues stay within their ranges at every step, and the station after reset has every
property that the steps keep. -/

namespace Sys2Proof.Machine

/-! ### The ranges, channel by channel (R1, R2, R9, R22) -/

/-- A channel's ink lies in its ranges, enabled or not in a reservoir of capacity `top`. -/
def InkChannel.Fits (x : InkChannel) (on : Bool) (top : Nat) : Prop :=
  (on = true → x.estimate ≤ top)
    ∧ (on = false → x.estimate = 0 ∧ x.residue = 0 ∧ x.state = .unknown)
    ∧ (x.state = .unknown → x.estimate = 0) ∧ x.residue < Config.unitsPerNl

/-- The section 0 received, and the one in force where it enables a channel, have their marks in order. -/
def ModeControl.Sound (m : ModeControl) : Prop :=
  (m.received0 = true → marksWithin m.held.sec0)
    ∧ ∀ c, m.inForce.sec0.enabled.get c = true → marksWithin m.inForce.sec0

theorem State.inkWithin_iff (s : State) :
    s.inkWithin ↔ s.mode.Sound ∧ ∀ c, (s.ink.get c).Fits (s.enabled c) (s.reservoir c).capacity := by
  constructor
  · rintro ⟨h0, hf, hon, hoff, hun, hr⟩
    exact ⟨⟨h0, hf⟩, fun c => ⟨hon c, hoff c, hun c, hr c⟩⟩
  · rintro ⟨⟨h0, hf⟩, h⟩
    exact ⟨h0, hf, fun c => (h c).1, fun c => (h c).2.1, fun c => (h c).2.2.1, fun c => (h c).2.2.2⟩

theorem InkChannel.Fits.congr {x y : InkChannel} {on : Bool} {top : Nat} (h : x.Fits on top)
    (e : y.stock = x.stock) : y.Fits on top := by
  obtain ⟨he, hr, hs⟩ := InkChannel.stock_eq e
  simpa [InkChannel.Fits, he, hr, hs] using h

/-- Ink metering in its ranges depends on the mode and the channels' stocks alone. -/
theorem State.inkWithin_congr {s t : State} (hm : t.mode = s.mode)
    (hi : ∀ c, (t.ink.get c).stock = (s.ink.get c).stock) (h : s.inkWithin) : t.inkWithin := by
  rw [State.inkWithin_iff] at h ⊢
  refine ⟨hm ▸ h.1, fun c => ?_⟩
  rw [State.enabled_congr hm, State.reservoir_congr hm]
  exact (h.2 c).congr (hi c)

/-- An operation of an event keeps the ranges where it keeps them at the one channel it touches. -/
theorem State.inkWithin_of_one {s t : State} {c : Channel} {x : InkChannel} (hm : t.mode = s.mode)
    (hi : ∀ d, t.ink.get d = if d = c then x else s.ink.get d) (h : s.inkWithin)
    (hx : x.Fits (s.enabled c) (s.reservoir c).capacity) : t.inkWithin := by
  rw [State.inkWithin_iff] at h ⊢
  refine ⟨hm ▸ h.1, fun d => ?_⟩
  rw [State.enabled_congr hm, State.reservoir_congr hm, hi]
  split
  · rename_i e
    exact e ▸ hx
  · exact h.2 d

theorem State.inkWithin.fits {s : State} (h : s.inkWithin) (c : Channel) :
    (s.ink.get c).Fits (s.enabled c) (s.reservoir c).capacity := (s.inkWithin_iff.mp h).2 c

theorem State.inkWithin.marks {s : State} (h : s.inkWithin) {c : Channel} (hc : s.enabled c = true) :
    (s.reservoir c).lowLevel < (s.reservoir c).fullLevel
      ∧ (s.reservoir c).fullLevel ≤ (s.reservoir c).capacity := (s.inkWithin_iff.mp h).1.2 c hc c

theorem InkChannel.Fits.gave {x : InkChannel} {on : Bool} {top whole residue : Nat} (h : x.Fits on top)
    (hr : residue < Config.unitsPerNl ∨ residue = x.residue) : (x.gave on whole residue).Fits on top := by
  obtain ⟨hon, hoff, hun, hres⟩ := h
  unfold InkChannel.gave
  split
  · rename_i hk
    obtain ⟨rfl, hst⟩ := hk
    refine ⟨fun _ => (Nat.sub_le ..).trans (hon rfl), fun h => (by cases h), fun h => ?_, ?_⟩
    · simp [hst] at h
    · exact hr.elim id fun h => h.trans_lt hres
  · exact ⟨hon, hoff, hun, hres⟩

theorem InkChannel.Fits.credited {x : InkChannel} {on : Bool} {f top : Nat} (h : x.Fits on top) :
    (x.credited on f top).Fits on top := by
  obtain ⟨hon, hoff, hun, hres⟩ := h
  unfold InkChannel.credited
  split
  · rename_i hk
    obtain ⟨rfl, hst⟩ := hk
    refine ⟨fun _ => min_le_right _ _, fun h => (by cases h), fun h => ?_, hres⟩
    simp [hst] at h
  · exact ⟨hon, hoff, hun, hres⟩

/-- An enabled channel set to a level of its reservoir. -/
theorem InkChannel.Fits.known {x : InkChannel} {on : Bool} {level top : Nat} (h : x.Fits on top)
    (hl : level ≤ top) (hon : on = true) :
    ({ x with estimate := level, state := .known } : InkChannel).Fits on top :=
  ⟨fun _ => hl, fun h => by simp [hon] at h, fun h => by simp at h, h.2.2.2⟩

theorem ledgerClosed_within : LedgerClosed fun w => w.toState.inkWithin where
  same h hi _ hm := State.inkWithin_congr hm (fun _ => by rw [hi]) h
  give _ hr h := State.inkWithin_of_one (Work.giveUp_mode ..) (fun _ => Work.giveUp_ink ..) h
    ((State.inkWithin.fits h _).gave hr)
  count h := State.inkWithin_congr rfl (fun _ => rfl) h

theorem Work.markReconcile_within {w : Work} (c : Channel) (m : MarkName) (wet : Bool) (h : w.inkWithin) :
    (w.markReconcile c m wet).inkWithin := by
  have level : w.enabled c = true → (w.ink.get c).state = .known → ∀ l, l ≤ (w.reservoir c).capacity →
      (w.reconcile c l).inkWithin := fun hon hk l hl => by
    refine State.inkWithin_of_one (by simp) (fun _ => Work.reconcile_ink ..) h ?_
    simpa [hk] using (h.fits c).known hl hon
  unfold Work.markReconcile
  split
  · exact h
  · rename_i hon
    have hon : w.enabled c = true := by simpa using hon
    obtain ⟨hlow, hfull⟩ := h.marks hon
    split
    · exact level hon ‹_› _ (by omega)
    · exact level hon ‹_› _ hfull
    · split
      · exact State.inkWithin_of_one (by simp) (fun _ => Work.anchor_ink ..) h ((h.fits c).known hfull hon)
      · exact h
    · exact h

theorem unitsPerNl_pos : 0 < Config.unitsPerNl := by decide

/-- A START leaves one channel within its new reservoir. -/
theorem InkChannel.Fits.started {x : InkChannel} {was on : Bool} {old top full : Nat} (h : x.Fits was old)
    (hf : on = true → full ≤ top) :
    (let y := x.refit was on top
     if y.anchors on then { y with estimate := full, state := .known } else y).Fits on top := by
  obtain ⟨-, hoff, hun, hres⟩ := h
  have refit : (x.refit was on top).Fits on top := by
    unfold InkChannel.refit
    cases was <;> cases on
    · exact ⟨fun h => (by cases h), fun _ => hoff rfl, hun, hres⟩
    · exact ⟨fun _ => Nat.zero_le _, fun h => (by cases h), fun _ => rfl, unitsPerNl_pos⟩
    · exact ⟨fun h => (by cases h), fun _ => ⟨rfl, rfl, rfl⟩, fun _ => rfl, unitsPerNl_pos⟩
    · refine ⟨fun _ => min_le_right _ _, fun h => (by cases h), fun h => ?_, hres⟩
      have := hun h
      simp [this]
  dsimp only
  split
  · rename_i ha
    simp only [InkChannel.anchors, Bool.and_eq_true] at ha
    exact refit.known (hf ha.1.1) ha.1.1
  · exact refit

theorem Work.startedInk_within {w : Work} (hr : w.mode.received0 = true) (h : w.inkWithin) :
    w.startedInk.inkWithin := by
  have hheld : marksWithin w.mode.held.sec0 := h.1 hr
  have hmode : w.startedInk.mode = w.enterRun.mode := w.startedInk_mode
  rw [State.inkWithin_iff]
  refine ⟨?_, fun c => ?_⟩
  · rw [hmode]
    exact ⟨fun _ => hheld, fun _ _ => hheld⟩
  · rw [(w.startedInk_get c).1, Work.startInk_ink, if_pos rfl, State.enabled_congr hmode,
      State.reservoir_congr hmode]
    exact (h.fits c).started fun _ => (hheld c).2

/-- A START that passes its tests is taken in CONFIG with every section received (R195). -/
theorem startRefusal_none {s : State} (h : s.startRefusal = none) :
    s.mode.mode = .config ∧ s.mode.received0 = true ∧ s.mode.received1 = true ∧ s.mode.received2 = true
      ∧ s.mode.received3 = true := by
  unfold State.startRefusal at h
  split at h
  · cases h
  · rename_i hm
    split at h
    · cases h
    · rename_i hr
      simp only [Bool.not_eq_true', Bool.not_eq_false, Bool.and_eq_true, ne_eq, Decidable.not_not] at hm hr
      exact ⟨hm, hr.1.1.1, hr.1.1.2, hr.1.2, hr.2⟩

theorem marksFit_iff (x : Section0) : marksFit x = true ↔ marksWithin x := by
  simp only [marksFit, marksWithin, List.all_eq_true, Bool.and_eq_true, decide_eq_true_eq]
  exact ⟨fun h c => h c (Channel.mem_all c), fun h c _ => h c⟩

/-- The commands that leave of mode control what the ranges rest on. -/
theorem body_sound {i : Instr} {w : Work} (hst : ∀ ref, i ≠ .start ref) (h : w.mode.Sound) :
    (body i w).mode.Sound ∧ (body i w).mode.inForce = w.mode.inForce := by
  cases i
  case start => exact absurd rfl (hst _)
  case configSection0 =>
    simp only [body]
    (repeat' split)
    · exact ⟨h, rfl⟩
    · rename_i content _ hm
      have hm : marksFit (clampSection0 content) = true := by simpa using hm
      exact ⟨⟨fun _ => (marksFit_iff _).mp hm, h.2⟩, rfl⟩
    · exact ⟨h, rfl⟩
  case peerStatusHeard | duplicateStationHeard =>
    simp only [body, Work.hearOwnNumber, Work.enterHalted]
    (repeat' split) <;> simpa [ModeControl.Sound] using h
  case configSection1 | configSection2 | configSection3FirstPart | configSection3SecondPart =>
    simp only [body, Work.takeSection]
    (repeat' split) <;> simpa [ModeControl.Sound] using h
  all_goals
    simp only [body]
    (repeat' split) <;> simpa using h

/-- The body of every command keeps the ranges. -/
theorem body_within {i : Instr} {w : Work} (hs : special i = false) (h : w.inkWithin) :
    (body i w).inkWithin := by
  by_cases hg : ∃ c, i.movesInk c = true
  · cases i
    case start =>
      simp only [body]
      split
      · exact h
      · rename_i hr
        obtain ⟨-, h0, -⟩ := startRefusal_none hr
        obtain ⟨hi, -, hm⟩ := w.takeStart_ledger
        have hstart : w.takeStart.inkWithin :=
          State.inkWithin_congr (hm.trans w.startedInk_mode.symm) (fun c => by rw [hi])
            (Work.startedInk_within h0 h)
        exact State.inkWithin_congr (by simp) (fun c => by simp) hstart
    case flowPulse c =>
      exact State.inkWithin_of_one (s := w.toState) (by simp [body])
        (fun d => by simp only [body, Work.countPulse_frame]; exact Work.credit_ink ..) h ((h.fits c).credited)
    case markChange c m wet =>
      simp only [body]
      split
      · exact h
      · refine Work.markReconcile_within c m wet (State.inkWithin_congr (by simp) (fun d => ?_) h)
        rw [(Work.markRefill_frame ..).1, Work.putInk_get]
        split
        · rename_i e
          simp [e]
        · rfl
    all_goals exact ledgerClosed_within.body_gives _ hg hs (by simp) (by simp) (by simp) h
  · have still : ∀ c, i.movesInk c = false := by simpa using hg
    have hst : ∀ ref, i ≠ .start ref := by rintro ref rfl; exact absurd (still .grey) (by simp [Instr.movesInk])
    obtain ⟨hsound, hforce⟩ := body_sound hst (w.inkWithin_iff.mp h).1
    rw [State.inkWithin_iff]
    refine ⟨hsound, fun c => ?_⟩
    simp only [State.enabled, State.reservoir, hforce]
    exact (h.fits c).congr (body_stock w (still c)).1

theorem State.poweredOn_within (s : State) (n : StationNo) (p : Option SledPlace) (pin : Bool) :
    (s.poweredOn n p pin).inkWithin := by
  rw [State.inkWithin_iff]
  refine ⟨⟨fun h => (by cases h), fun c h => ?_⟩, fun c => ?_⟩
  · simp [State.poweredOn, ModeControl.reset, Sections.powerOn] at h
  · simp [State.poweredOn, State.enabled, ModeControl.reset, Sections.powerOn, InkChannel.Fits, InkChannel.reset,
      Config.unitsPerNl]

/-- A RESTART order leaves of mode control what the ranges rest on (R197). -/
theorem Work.takeRestart_mode (w : Work) (straps : StationNo) :
    (w.takeRestart straps).mode
      = { w.mode with mode := .config, station := straps, firstPart := none } := by simp [Work.takeRestart]

/-- Settles O7, by the commands: each sets an estimate to a level of a reservoir that a section 0 was tested for. -/
theorem stepKeepsInkWithin : Obligations.StepKeepsInkWithin := by
  intro s t hw hstep
  obtain rfl | ⟨l, rfl⟩ | ⟨l, n, p, pin, rfl⟩ | ⟨l, ref, straps, rfl⟩ | ⟨l, i, hi, rfl⟩ := step_cases hstep
  · exact State.inkWithin_congr (by simp) (fun c => by simp [InkChannel.stock]) hw
  · exact hw
  · exact State.poweredOn_within _ _ _ _
  · rw [State.inkWithin_iff] at hw ⊢
    simpa [Work.takeRestart_mode, State.enabled, State.reservoir, ModeControl.Sound] using hw
  · exact State.inkWithin_congr (by simp) (fun c => by simp)
      (body_within (w := Work.begin { s with pending := l }) hi hw)

/-! ### Reset (R18, R42, R76, R105, R120, R141, R145, R153, R180) -/

/-- Settles O5: the power-on values, block by block. -/
theorem resetIsSafe : Obligations.ResetIsSafe := by
  have chan : State.reset.allBalanced ∧ State.reset.inkWithin ∧ State.reset.adjustedWithin := by
    refine ⟨fun c => ?_, ?_, fun c => ?_⟩
    · exact State.poweredOn_balanced State.reset 0 none false c
    · exact State.poweredOn_within State.reset 0 none false
    · cases c <;> decide
  obtain ⟨hbal, hink, hadj⟩ := chan
  refine ⟨hbal, hink, fun _ c => ?_, fun _ => rfl, .nil, ?_, ?_, ?_, hadj, ?_, ?_⟩
  · cases c <;> rfl
  · exact (by decide : (0 : Nat) < 48)
  · exact (by decide : (0 : Nat) ≤ 16)
  · exact congrArg PeerEntry.presence (PerStation.get_fill _ _)
  · simp [State.blockFollows, State.reset, Nozzle.reset, FaultUnit.reset]
  · exact fun _ => rfl

end Sys2Proof.Machine
end

section
/-! SUPPORT. The end of an event once more, for properties of the blocks it works on: a property closed under the
arbiter's operations is kept by its whole choice; which faults become active; and what the refill tests make of a
channel. -/

namespace Sys2Proof.Machine

/-! ### What the arbiter's choice keeps (R95, R96, R105) -/

/-- An action's start but for its route: its parameters, its time limit and the WIPER output (R95). -/
def Work.launch (w : Work) (a : Action) : Work :=
  { w with
    service := { w.service with
      current := some
        { action := a, stage := .outbound, block := w.keepWet.pointer,
          drops := w.fixedDrops a, volumes := w.fixedVolumes a, results := [] }
      timeLeft := some (w.timeLimit a)
      wiper := decide (a = .wipe) }
    classes := true }

/-- A property of the station that each operation of the arbiter's choice keeps. An action ends here only where it
hands nothing on, and the capped flag is set only where the sled stands. -/
structure ArbiterClosed (P : Work → Prop) : Prop where
  request : ∀ {w : Work}, P w → P (w.request .uncapNeed)
  screen : ∀ {w : Work}, P w → P w.screenRecovery
  push : ∀ {w : Work} {src : Source} {acts : List Action} {ch : Option Channel}, P w →
    w.service.pending.get src = true → acts = w.requestActions src →
    ch = (if src = .recovery then w.recoveryChannel else none) → P ((w.push src acts ch).requestStarted src ch)
  launch : ∀ {w : Work} {a : Action}, P w → w.service.current = none →
    a = .home ∨ (∃ q qs acts, w.service.stack = q :: qs ∧ q.actions = a :: acts) → P (w.launch a)
  hold : ∀ {w : Work}, P w → w.purgeRunning = true → P w.holdRefill
  command : ∀ {w : Work} {p : SledPlace}, P w → P (w.commandSled p)
  stage : ∀ {w : Work} {g : Stage}, P w → P (w.setStage g)
  head : ∀ {w : Work} {k : HeadKind}, P w → P (w.sendHead k)
  wiper : ∀ {w : Work}, P w → P { w with service := { w.service with wiper := false } }
  ended : ∀ {w : Work}, P w → (∀ a, w.service.current = some a → a.action.plain = true) → P w.endAction
  pop : ∀ {w : Work}, P w → P w.popStack
  capped : ∀ {w : Work} {b : Bool}, P w → w.service.sled = .standing (if b then .cap else .park) →
    P (w.setCapped b)
  idle : ∀ {w : Work}, P w → P { w with service := { w.service with capIdle := 0 } }

theorem Work.commandSled_there {w : Work} {p : SledPlace} (h : w.sledThere p = true) :
    (w.commandSled p).service.sled = .standing p := by simp [Work.commandSled, h]

section
variable {P : Work → Prop} (hP : ArbiterClosed P) {w : Work}
include hP

/-- An action that hands nothing on completes where the sled stands at its end. -/
theorem ArbiterClosed.complete {a : CurrentAction} (h : P w) (hc : w.service.current = some a)
    (hs : w.service.sled = .standing (if a.action = .cap then .cap else .park))
    (hp : a.action.plain = true) : P w.complete := by
  have ended : P w.endAction := hP.ended h fun b hb => by
    obtain rfl := Option.some.inj (hc.symm.trans hb)
    exact hp
  have popped : P w.endAction.popStack := hP.pop ended
  simp only [Work.complete, hc]
  cases ha : a.action <;> rw [ha] at hs hp <;> dsimp only
  case home => exact hP.capped (b := false) ended hs
  case uncap | wipe => exact hP.capped (b := false) popped hs
  case cap => exact hP.capped (b := true) popped hs
  all_goals simp [Action.plain] at hp

theorem ArbiterClosed.goPark {a : CurrentAction} (h : P w) (hc : w.service.current = some a)
    (ha : a.action = .wipe) : P w.goPark := by
  have hv : P ((w.setStage .inbound).commandSled .park) := hP.command (hP.stage h)
  simp only [Work.goPark]
  split
  · rename_i there
    refine hP.complete (a := { a with stage := .inbound }) hv (by simp [hc]) ?_ (by simp [ha, Action.plain])
    simpa [ha] using Work.commandSled_there (w := w.setStage .inbound) there
  · exact hv

/-- The first leg of a route (R96), for an action launched toward `p`. -/
theorem ArbiterClosed.firstLeg {a : CurrentAction} {p : SledPlace} (h : P w)
    (hc : w.service.current = some a) (hg : a.stage = .outbound)
    (ht : a.action = .home ∨ a.action = .uncap → p = .park) (ht' : a.action = .cap → p = .cap) :
    P (w.firstLeg p) := by
  have hv : P (w.commandSled p) := hP.command h
  simp only [Work.firstLeg]
  split
  · rename_i there
    have hs := Work.commandSled_there there
    have hc' : (w.commandSled p).service.current = some a := by simp [hc]
    unfold Work.reached
    split
    · exact hv
    rename_i b hb
    obtain rfl := Option.some.inj (hc'.symm.trans hb)
    rw [hg]
    cases ha : a.action <;> dsimp only
    case home | uncap =>
      obtain rfl := ht (by simp [ha])
      exact hP.complete hv hc' (by simp [ha, hs]) (by simp [ha, Action.plain])
    case cap =>
      obtain rfl := ht' ha
      exact hP.complete hv hc' (by simp [ha, hs]) (by simp [ha, Action.plain])
    case wipe => exact hP.goPark (hP.wiper hv) hc' ha
    case sheetSpit => exact hv
    case gapSpit | check | purge => exact hP.head hv
  · exact hv

theorem ArbiterClosed.startAction {a : Action} (h : P w) (hn : w.service.current = none)
    (ha : a = .home ∨ (∃ q qs acts, w.service.stack = q :: qs ∧ q.actions = a :: acts)) :
    P (w.startAction a) := by
  have hv : P (w.launch a) := hP.launch h hn ha
  cases a
  case sheetSpit => exact hP.head hv
  case purge =>
    have held := hP.hold hv rfl
    exact hP.firstLeg (p := .cap) held rfl rfl (by simp) (by simp)
  case home | uncap => exact hP.firstLeg (p := .park) hv rfl rfl (by simp) (by simp)
  case cap => exact hP.firstLeg (p := .cap) hv rfl rfl (by simp) (by simp)
  case gapSpit | wipe => exact hP.firstLeg (p := .spit) hv rfl rfl (by simp) (by simp)
  case check => exact hP.firstLeg (p := .detect) hv rfl rfl (by simp) (by simp)

theorem ArbiterClosed.beginSource {src : Source} (h : P w) (hn : w.service.current = none)
    (hs : w.service.pending.get src = true) : P (w.beginSource src) := by
  simp only [Work.beginSource]
  split
  · exact h
  · rename_i a acts he
    split
    · exact hP.startAction h hn (.inl rfl)
    · refine hP.startAction (hP.push h hs he.symm rfl) ?_ (.inr ⟨
        { source := src, level := w.sourceLevel src, actions := a :: acts,
          channel := if src = .recovery then w.recoveryChannel else none }, w.service.stack, acts, ?_, rfl⟩)
      all_goals
        simp only [Work.requestStarted, Work.raiseRecovery]
        (repeat' split) <;> simp [Work.push, Work.request, *]

theorem ArbiterClosed.beginTop {a : Action} (h : P w) (hn : w.service.current = none)
    (ht : w.topReady = some a) : P (w.beginTop a) := by
  simp only [Work.beginTop]
  split
  · exact hP.startAction h hn (.inl rfl)
  · refine hP.startAction h hn (.inr ?_)
    unfold State.topReady at ht
    split at ht
    · cases ht
    · rename_i q qs hq
      split at ht
      · cases ht
      · rename_i b acts hb
        split at ht
        · exact ⟨q, qs, acts, hq, by rw [hb, Option.some.inj ht]⟩
        · cases ht

end

/-- Only a pending request is chosen (R104, R105). -/
theorem State.chosenSource_pending {s : State} {src : Source} (h : s.chosenSource = some src) :
    s.service.pending.get src = true := by
  have keep : ∀ (l : List Source) (b : Option Source), (∀ x, b = some x → s.eligible x = true) →
      ∀ x, l.foldl (fun best src => if s.eligible src then
        match best with
        | none => some src
        | some b => if s.sourceLevel src < s.sourceLevel b then some src else some b
        else best) b = some x → s.eligible x = true := by
    intro l
    induction l with
    | nil => exact fun b hb x hx => hb x hx
    | cons y l ih =>
      intro b hb
      refine ih _ fun x hx => ?_
      dsimp only at hx
      split at hx
      · split at hx
        · exact (Option.some.inj hx) ▸ ‹_›
        · split at hx
          · exact (Option.some.inj hx) ▸ ‹_›
          · exact hb x hx
      · exact hb x hx
  have he := keep Source.all none (by simp) src h
  simp only [State.eligible, Bool.and_eq_true] at he
  exact he.1.1.1.1.1

theorem Work.mayStart_current {s : State} (h : s.mayStart = true) : s.service.current = none := by
  simp only [State.mayStart, Bool.and_eq_true, Option.isNone_iff_eq_none] at h
  exact h.2

@[simp] theorem Work.withdrawRecovery_current (w : Work) :
    w.withdrawRecovery.service.current = w.service.current := by
  simp only [Work.withdrawRecovery]
  split <;> rfl

theorem ArbiterClosed.arbitrate {P : Work → Prop} (hP : ArbiterClosed P) (n : Nat) {w : Work} (h : P w) :
    P (Work.arbitrate n w) := by
  induction n generalizing w with
  | zero => exact h
  | succ n ih =>
    have asked : P (if w.uncapNeeded then w.request .uncapNeed else w) := by
      split
      · exact hP.request h
      · exact h
    simp only [Work.arbitrate]
    generalize (if w.uncapNeeded then w.request .uncapNeed else w) = v at asked ⊢
    split
    · exact asked
    · rename_i hm
      have hn : v.service.current = none := Work.mayStart_current (by simpa using hm)
      have screened : P (if v.service.pending.get .recovery then v.screenRecovery else v)
          ∧ (if v.service.pending.get .recovery then v.screenRecovery else v).service.current = none := by
        split
        · exact ⟨hP.screen asked, by simp [Work.screenRecovery, Work.putLadders, hn]⟩
        · exact ⟨asked, hn⟩
      generalize (if v.service.pending.get .recovery then v.screenRecovery else v) = u at screened ⊢
      obtain ⟨hu, hn⟩ := screened
      split
      · exact ih (hP.beginSource hu hn (State.chosenSource_pending ‹_›))
      · split
        · exact ih (hP.beginTop hu hn ‹_›)
        · exact hu

theorem ArbiterClosed.arbiterStage {P : Work → Prop} (hP : ArbiterClosed P) {w : Work} (h : P w) :
    P w.arbiterStage := by
  simp only [Work.arbiterStage]
  split
  · split
    · exact hP.arbitrate 16 h
    · exact hP.idle (hP.arbitrate 16 h)
  · exact h

end Sys2Proof.Machine
end

section
/-! SUPPORT. The end of an event: which flags, groups, ladders and keep-wet counts it leaves, what becomes of the
refill channels and the capped flag at the arbiter's choice, which faults become active, and the refill tests. -/

namespace Sys2Proof.Machine

/-! ### What the stages up to the arbiter's choice leave -/

/-- Between two points of one event: a flag that calls for end-of-event work stays set; the groups, the failed
list, the map issue and the armed flag stand; a ladder at its reset values stays there; and the spit interval, the
pointer, the missed count and the dry-suspect set stand, with the capped ticks at 0 where they were. -/
structure Onward (v w : Work) : Prop where
  classes : v.classes = true → w.classes = true
  drive : v.drive = true → w.drive = true
  nozzle : w.nozzle.groups = v.nozzle.groups ∧ w.nozzle.failed = v.nozzle.failed
    ∧ w.nozzle.issue = v.nozzle.issue ∧ w.nozzle.armed = v.nozzle.armed
  ladder : ∀ c, v.nozzle.ladders.get c = Ladder.reset → w.nozzle.ladders.get c = Ladder.reset
  keepWet : w.keepWet.counter = v.keepWet.counter ∧ w.keepWet.pointer = v.keepWet.pointer
    ∧ w.keepWet.missed = v.keepWet.missed ∧ w.keepWet.dry = v.keepWet.dry
  capped : v.keepWet.cappedTicks = 0 → w.keepWet.cappedTicks = 0

theorem Onward.trans {u v w : Work} (h : Onward u v) (k : Onward v w) : Onward u w where
  classes := k.classes ∘ h.classes
  drive := k.drive ∘ h.drive
  nozzle := by
    obtain ⟨h1, h2, h3, h4⟩ := h.nozzle
    obtain ⟨k1, k2, k3, k4⟩ := k.nozzle
    exact ⟨k1.trans h1, k2.trans h2, k3.trans h3, k4.trans h4⟩
  ladder c := k.ladder c ∘ h.ladder c
  keepWet := by
    obtain ⟨h1, h2, h3, h4⟩ := h.keepWet
    obtain ⟨k1, k2, k3, k4⟩ := k.keepWet
    exact ⟨k1.trans h1, k2.trans h2, k3.trans h3, k4.trans h4⟩
  capped := k.capped ∘ h.capped

/-- An operation that touches neither nozzle health nor the keep-wet unit. -/
theorem Onward.of_frame {v w : Work} (hc : v.classes = true → w.classes = true)
    (hd : v.drive = true → w.drive = true) (hn : w.nozzle = v.nozzle) (hk : w.keepWet = v.keepWet) :
    Onward v w :=
  ⟨hc, hd, by simp [hn], fun c h => by rw [hn]; exact h, by simp [hk], fun h => by rw [hk]; exact h⟩

theorem Onward.refl (w : Work) : Onward w w := .of_frame id id rfl rfl

theorem Work.withdraw_onward (w : Work) (src : Source) : Onward w (w.withdraw src) :=
  .of_frame (fun _ => rfl) id rfl rfl

theorem Work.request_onward (w : Work) (src : Source) : Onward w (w.request src) :=
  .of_frame (fun _ => rfl) id rfl rfl

theorem Work.withdrawRecovery_onward (w : Work) : Onward w w.withdrawRecovery := by
  unfold Work.withdrawRecovery
  split
  · exact w.withdraw_onward _
  · exact .refl w

theorem Work.raiseRecovery_onward (w : Work) : Onward w w.raiseRecovery := by
  unfold Work.raiseRecovery
  split
  · exact w.request_onward _
  · exact .refl w

theorem State.screenedLadder_reset {s : State} {c : Channel} (h : s.nozzle.ladders.get c = Ladder.reset) :
    s.screenedLadder c = Ladder.reset := by simp [State.screenedLadder, h, Ladder.due, Ladder.reset]

theorem Work.screenRecovery_onward (w : Work) : Onward w w.screenRecovery := by
  refine .trans ?_ (Work.withdrawRecovery_onward _)
  exact ⟨fun _ => rfl, id, ⟨rfl, rfl, rfl, rfl⟩, fun c h => by simpa using State.screenedLadder_reset h,
    ⟨rfl, rfl, rfl, rfl⟩, id⟩

theorem Work.marksChanged_onward (w : Work) (c : Channel) (x : RefillChannel) : Onward w (w.marksChanged c x) := by
  simp only [Work.marksChanged]
  split
  · exact w.screenRecovery_onward
  · exact .refl w

theorem Work.overfillTest_onward (w : Work) (c : Channel) : Onward w (w.overfillTest c) := by
  simp only [Work.overfillTest]
  split
  · have locked : ∀ x, Onward w ((w.putRefill c x).raise .overfill (.channel c)) :=
      fun _ => .of_frame (fun _ => rfl) id rfl rfl
    exact (locked _).trans (Work.marksChanged_onward ..)
  · exact .refl w

theorem Work.overfillTests_onward (w : Work) : Onward w w.overfillTests :=
  foldl_invariant _ (Onward w) (fun v c h => h.trans (v.overfillTest_onward c)) _ _ (.refl w)

theorem Work.setActive_onward (w : Work) (l : List FaultCode) : Onward w (w.setActive l) := by
  have set : ∀ b, Onward w { w with
      faults := { w.faults with active := l }, nozzle := { w.nozzle with blocked := b }, drive := true } :=
    fun b => ⟨id, fun _ => rfl, ⟨rfl, rfl, rfl, rfl⟩, fun _ => id, ⟨rfl, rfl, rfl, rfl⟩, id⟩
  simp only [Work.setActive]
  (repeat' split)
  · exact (set _).trans (Work.withdrawRecovery_onward _)
  · exact (set _).trans (Work.raiseRecovery_onward _)
  · exact set _

theorem Work.faultStage_onward (w : Work) : Onward w w.faultStage := by
  simp only [Work.faultStage]
  split
  · exact .refl w
  · have entered : ∀ f, Onward w { w with faults := f } := fun _ => .of_frame id id rfl rfl
    exact (entered _).trans ((Work.setActive_onward _ _).trans (.of_frame id id rfl rfl))

theorem Work.coverStage_onward (w : Work) : Onward w w.coverStage :=
  .of_frame (by simp) (by simp) (by simp) (by simp)

theorem Work.guardStage_onward (w : Work) : Onward w w.guardStage :=
  .of_frame (by simp) (fun h => by unfold Work.guardStage; split <;> simp [h]) (by simp) (by simp)

theorem State.recoveryChannel_due {s : State} {c : Channel} (h : s.recoveryChannel = some c) :
    (s.nozzle.ladders.get c).due = true := by
  have := List.find?_some h
  simp only [State.recoverable, Bool.and_eq_true] at this
  exact this.1.1

theorem Work.push_onward (w : Work) (src : Source) (acts : List Action) (ch : Option Channel) :
    Onward w (w.push src acts ch) := .of_frame id id rfl rfl

/-- The start of a request marks the ladder that RECOVERY serves, which is due. -/
theorem Work.requestStarted_onward {w : Work} {src : Source} {ch : Option Channel}
    (h : ∀ c, ch = some c → (w.nozzle.ladders.get c).due = true) : Onward w (w.requestStarted src ch) := by
  unfold Work.requestStarted
  split
  · rename_i c
    refine .trans ?_ (Work.raiseRecovery_onward _)
    refine ⟨id, id, ⟨rfl, rfl, rfl, rfl⟩, fun d hd => ?_, ⟨rfl, rfl, rfl, rfl⟩, id⟩
    have hne : d ≠ c := by
      rintro rfl
      have := h d rfl
      simp [hd, Ladder.due, Ladder.reset] at this
    simpa [PerChannel.get_set_ne _ hne] using hd
  · exact ⟨id, id, ⟨rfl, rfl, rfl, rfl⟩, fun _ => id, ⟨rfl, rfl, rfl, rfl⟩, id⟩
  · exact .refl w

theorem arbiterClosed_onward (v : Work) : ArbiterClosed (Onward v) where
  request h := h.trans (Work.request_onward _ _)
  screen h := h.trans (Work.screenRecovery_onward _)
  push {w src acts ch} h _ _ hch := by
    refine h.trans (.trans (w.push_onward src acts ch) (Work.requestStarted_onward fun c hc => ?_))
    rw [hch] at hc
    split at hc
    · exact State.recoveryChannel_due hc
    · cases hc
  launch h _ _ := h.trans (.of_frame (fun _ => rfl) id rfl rfl)
  hold h _ := h.trans (.of_frame (fun _ => rfl) id rfl rfl)
  command {w p} h := by
    refine h.trans (.of_frame (by simp) (fun _ => ?_) (by simp) (by simp))
    unfold Work.commandSled
    split <;> rfl
  stage h := h.trans (.of_frame id id rfl rfl)
  head h := h.trans (.of_frame id id rfl rfl)
  wiper h := h.trans (.of_frame id id rfl rfl)
  ended h _ := h.trans (.of_frame (fun _ => rfl) (fun _ => rfl) rfl rfl)
  pop h := h.trans (.of_frame id id rfl rfl)
  capped {w b} h _ := by
    refine h.trans ⟨id, fun _ => rfl, ⟨rfl, rfl, rfl, rfl⟩, fun _ => id, ?_, fun h0 => ?_⟩
    · by_cases hb : w.service.capped = b <;> simp [Work.setCapped, hb]
    · by_cases hb : w.service.capped = b <;> simp [Work.setCapped, hb, h0]
  idle h := h.trans (.of_frame id id rfl rfl)

/-- The event as far as the arbiter's choice. -/
def Work.chosen (w : Work) : Work := w.overfillTests.faultStage.coverStage.guardStage.arbiterStage

theorem Work.settle_eq (w : Work) : w.settle = w.chosen.refillStage.driveStage := rfl

theorem Work.chosen_onward (w : Work) : Onward w w.chosen :=
  (arbiterClosed_onward w).arbiterStage <| w.overfillTests_onward.trans <|
    (Work.faultStage_onward _).trans <| (Work.coverStage_onward _).trans (Work.guardStage_onward _)

@[simp] theorem Work.chosen_nozzle (w : Work) :
    w.chosen.nozzle.groups = w.nozzle.groups ∧ w.chosen.nozzle.failed = w.nozzle.failed
      ∧ w.chosen.nozzle.issue = w.nozzle.issue ∧ w.chosen.nozzle.armed = w.nozzle.armed := w.chosen_onward.nozzle

@[simp] theorem Work.chosen_frame (w : Work) :
    w.chosen.ink = w.ink ∧ w.chosen.tally = w.tally ∧ w.chosen.mode = w.mode ∧ w.chosen.pre = w.pre
      ∧ w.chosen.peersHeard = w.peersHeard ∧ w.chosen.feed = w.feed := by simp [Work.chosen]

@[simp] theorem Work.finish_chosen (w : Work) :
    w.finish.nozzle = w.chosen.nozzle ∧ w.finish.keepWet = w.chosen.keepWet
      ∧ w.finish.service = w.chosen.service ∧ w.finish.bands = w.chosen.bands
      ∧ w.finish.faults = w.chosen.faults := by
  have := w.finish_settled
  simp [this, Work.settle_eq]

theorem Work.finish_refill (w : Work) : w.finish.refill = w.chosen.refillStage.refill := by
  simp [w.finish_settled, Work.settle_eq]

/-! ### The refill channels at the arbiter's choice (R36, R99) -/

theorem RefillChannel.hold_hold (x : RefillChannel) : x.hold.hold = x.hold := by
  cases x with | mk state => cases state <;> rfl

/-- Every channel of a table held. -/
def heldAll (t : PerChannel RefillChannel) : PerChannel RefillChannel := PerChannel.gen fun c => (t.get c).hold

theorem heldAll_heldAll (t : PerChannel RefillChannel) : heldAll (heldAll t) = heldAll t :=
  PerChannel.eq_of_get fun c => by simp [heldAll, RefillChannel.hold_hold]

theorem State.purgeRunning_plain {s : State} (h : ∀ a, s.service.current = some a → a.action.plain = true) :
    s.purgeRunning = false := by
  unfold State.purgeRunning
  split
  · rename_i a ha
    have := h a ha
    revert this
    cases a.action <;> simp [Action.plain]
  · rfl

/-- The refill channels as they were, or all of them held by a purge that now runs. -/
def Work.HeldOr (t : PerChannel RefillChannel) (w : Work) : Prop :=
  w.refill = t ∨ w.purgeRunning = true ∧ w.refill = heldAll t

theorem Work.HeldOr.congr {t : PerChannel RefillChannel} {v w : Work} (h : v.HeldOr t) (hr : w.refill = v.refill)
    (hp : w.purgeRunning = v.purgeRunning) : w.HeldOr t := by
  rwa [Work.HeldOr, hr, hp]

/-- Where no purge runs yet the channels are as they were. -/
theorem Work.HeldOr.same {t : PerChannel RefillChannel} {w : Work} (h : w.HeldOr t)
    (hp : w.purgeRunning = false) : w.refill = t :=
  h.resolve_right fun k => by simp [hp] at k

theorem arbiterClosed_heldOr (t : PerChannel RefillChannel) : ArbiterClosed (Work.HeldOr t) where
  request h := h.congr rfl rfl
  screen h := h.congr (by simp) (by simp [State.purgeRunning, Work.screenRecovery, Work.putLadders])
  push {w src acts ch} h _ _ _ := by
    refine h.congr (by simp) ?_
    simp only [Work.requestStarted, Work.raiseRecovery]
    (repeat' split) <;> rfl
  launch h hn _ := .inl (h.same (State.purgeRunning_plain (by simp [hn])))
  hold h hp := .inr ⟨hp, by
    obtain h | ⟨-, h⟩ := h
    · exact congrArg heldAll h
    · exact (congrArg heldAll h).trans (heldAll_heldAll _)⟩
  command {w p} h := h.congr (by simp) (by simp [State.purgeRunning])
  stage {w g} h := h.congr rfl (by
    simp only [State.purgeRunning, Work.setStage_current]
    cases w.service.current <;> rfl)
  head {w k} h := h.congr rfl (by
    simp only [State.purgeRunning, Work.sendHead, Work.setStage_current]
    cases w.service.current <;> rfl)
  wiper h := h.congr rfl rfl
  ended h hp := .inl (h.same (State.purgeRunning_plain hp))
  pop h := h.congr rfl rfl
  capped h _ := h.congr rfl rfl
  idle h := h.congr rfl rfl

@[simp] theorem Work.setActive_current (w : Work) (l : List FaultCode) :
    (w.setActive l).service.current = w.service.current := by
  simp only [Work.setActive, Work.raiseRecovery]
  (repeat' split) <;> simp [Work.request]

theorem Work.chosen_heldOr (w : Work) : w.chosen.HeldOr w.overfillTests.refill :=
  (arbiterClosed_heldOr _).arbiterStage (.inl (by simp))

/-! ### The capped flag at the arbiter's choice (R96) -/

/-- The place at which an action changes a capped flag that stands at `b`. -/
def flipPlace (b : Bool) : SledPlace := if b then .park else .cap

/-- The capped flag stands at `b` with the sled away from the place where an action changes it. -/
def Work.CapStands (b : Bool) (w : Work) : Prop :=
  w.service.capped = b ∧ w.service.sled ≠ .standing (flipPlace b) ∧ w.service.closed ≠ some (flipPlace b)

theorem Work.CapStands.congr {b : Bool} {v w : Work} (h : v.CapStands b)
    (hc : w.service.capped = v.service.capped) (hs : w.service.sled = v.service.sled)
    (hl : w.service.closed = v.service.closed) : w.CapStands b := by
  rwa [Work.CapStands, hc, hs, hl]

/-- What the requests leave of the sled and the head's cap. -/
theorem Work.raiseRecovery_sled (w : Work) :
    w.raiseRecovery.service.capped = w.service.capped ∧ w.raiseRecovery.service.sled = w.service.sled
      ∧ w.raiseRecovery.service.closed = w.service.closed := by
  unfold Work.raiseRecovery
  split <;> exact ⟨rfl, rfl, rfl⟩

theorem Work.withdrawRecovery_sled (w : Work) :
    w.withdrawRecovery.service.capped = w.service.capped ∧ w.withdrawRecovery.service.sled = w.service.sled
      ∧ w.withdrawRecovery.service.closed = w.service.closed := by
  unfold Work.withdrawRecovery
  split <;> exact ⟨rfl, rfl, rfl⟩

theorem arbiterClosed_capStands (b : Bool) : ArbiterClosed (Work.CapStands b) where
  request h := h
  screen {w} h := by
    obtain ⟨h1, h2, h3⟩ := Work.withdrawRecovery_sled
      { w with nozzle := { w.nozzle with ladders := PerChannel.gen w.screenedLadder }, classes := true }
    exact h.congr h1 h2 h3
  push {w src acts ch} h _ _ _ := by
    unfold Work.requestStarted
    split
    · exact h.congr (Work.raiseRecovery_sled _).1 (Work.raiseRecovery_sled _).2.1 (Work.raiseRecovery_sled _).2.2
    · exact h
    · exact h
  launch h _ _ := h
  hold h _ := h
  command {w p} h := by
    obtain ⟨hc, hs, hl⟩ := h
    unfold Work.commandSled
    split
    · rename_i there
      refine ⟨hc, fun e => ?_, hl⟩
      obtain rfl := SledPosition.standing.inj e
      simp [State.sledThere, hs, hl] at there
    · exact ⟨hc, hs, hl⟩
  stage h := h
  head h := h
  wiper h := h
  ended h _ := h
  pop h := h
  capped {w d} h hd := by
    obtain ⟨hc, hs, hl⟩ := h
    refine ⟨?_, hs, hl⟩
    by_contra hne
    refine hs (hd.trans ?_)
    change ¬ d = b at hne
    cases b <;> cases d <;> first | rfl | exact absurd rfl hne
  idle h := h

end Sys2Proof.Machine
end

section
/-! SUPPORT. What the end of an event makes of the active faults, of each refill channel and of the band queue. -/

namespace Sys2Proof.Machine

/-! ### The active faults (R201, R202) -/

theorem FaultCode.mem_all (f : FaultCode) : f ∈ FaultCode.all := by cases f <;> decide

theorem mem_enterFault {f g : FaultCode} {l : List FaultCode} : f ∈ enterFault g l ↔ f = g ∨ f ∈ l := by
  simp [enterFault, FaultCode.mem_all]

theorem mem_insertRaise {x r : Raise} {l : List Raise} : x ∈ insertRaise r l ↔ x = r ∨ x ∈ l := by
  induction l with
  | nil => simp [insertRaise]
  | cons y l ih =>
    simp only [insertRaise]
    split
    · simp
    · simp only [List.mem_cons, ih]
      tauto

theorem mem_priorityOrder {x : Raise} {l : List Raise} : x ∈ priorityOrder l ↔ x ∈ l := by
  have inserted : ∀ (l acc : List Raise),
      x ∈ l.foldl (fun acc r => insertRaise r acc) acc ↔ x ∈ l ∨ x ∈ acc := by
    intro l
    induction l with
    | nil => simp
    | cons y l ih =>
      intro acc
      rw [List.foldl_cons, ih, mem_insertRaise, List.mem_cons]
      tauto
  simpa [priorityOrder] using inserted l []

theorem mem_foldl_enterFault {f : FaultCode} (l : List Raise) (acc : List FaultCode) :
    f ∈ l.foldl (fun l x => enterFault x.code l) acc ↔ f ∈ acc ∨ ∃ r ∈ l, r.code = f := by
  induction l generalizing acc with
  | nil => simp
  | cons y l ih =>
    rw [List.foldl_cons, ih, mem_enterFault, List.exists_mem_cons_iff, eq_comm]
    tauto

@[simp] theorem Work.setActive_active (w : Work) (l : List FaultCode) : (w.setActive l).faults.active = l := by
  simp only [Work.setActive]
  (repeat' split) <;> simp

theorem Work.faultStage_active (w : Work) (f : FaultCode) :
    f ∈ w.faultStage.faults.active ↔ f ∈ w.faults.active ∨ ∃ r ∈ w.raised, r.code = f := by
  have members : ∀ r, r ∈ priorityOrder w.raised ↔ r ∈ w.raised := fun _ => mem_priorityOrder
  simp only [Work.faultStage]
  split
  · rename_i h
    have : w.raised = [] := List.eq_nil_iff_forall_not_mem.2 fun r hr => by
      simpa [h] using (members r).2 hr
    simp [this]
  · rename_i h
    rw [h] at members
    simp only [Work.loadFault, Work.setActive_active, mem_foldl_enterFault, members]

/-! ### The overfill tests (R34) -/

/-- A fold that works on one entry of a table at a time leaves each entry as its own step would leave it. -/
theorem foldl_at {α β γ : Type} (f : β → α → β) (g : β → α → γ)
    (other : ∀ v a b, b ≠ a → g (f v a) b = g v b)
    (own : ∀ v w a, g v a = g w a → g (f v a) a = g (f w a) a)
    {l : List α} (hl : l.Nodup) {a : α} (ha : a ∈ l) (w : β) : g (l.foldl f w) a = g (f w a) a := by
  have absent : ∀ (l : List α) (v : β), a ∉ l → g (l.foldl f v) a = g v a := by
    intro l
    induction l with
    | nil => exact fun _ _ => rfl
    | cons b l ih =>
      intro v hv
      rw [List.mem_cons, not_or] at hv
      exact (ih _ hv.2).trans (other v b a hv.1)
  induction l generalizing w with
  | nil => simp at ha
  | cons b l ih =>
    rw [List.nodup_cons] at hl
    obtain rfl | hne := eq_or_ne a b
    · exact absent l _ hl.1
    · have hm : a ∈ l := (List.mem_cons.1 ha).resolve_left hne
      exact (ih hl.2 hm (f w b)).trans (own _ _ _ (other w b a hne))

/-- The valve of a channel is open in an event that moved its estimate to the overfill level, FULL not WET (R34). -/
def Work.overfills (w : Work) (c : Channel) : Prop :=
  (w.refill.get c).state = .opened ∧ (w.ink.get c).full.state ≠ .wet
    ∧ (w.ink.get c).estimate ≠ (w.pre.ink.get c).estimate ∧ w.overfillLevel c ≤ (w.ink.get c).estimate

/-- What the overfill test of a channel reads. -/
def Work.overfillView (w : Work) (c : Channel) : RefillChannel × PerChannel InkChannel × State × ModeControl :=
  (w.refill.get c, w.ink, w.pre, w.mode)

theorem Work.overfills_congr {v w : Work} {c : Channel} (h : v.overfillView c = w.overfillView c) :
    v.overfills c ↔ w.overfills c := by
  simp only [Work.overfillView, Prod.mk.injEq] at h
  obtain ⟨hr, hi, hp, hm⟩ := h
  simp [Work.overfills, hr, hi, hp, State.overfillLevel, State.reservoir_congr hm]

theorem Work.overfillTest_on {w : Work} {c : Channel} (h : w.overfills c) :
    w.overfillTest c = ((w.putRefill c (w.refill.get c).lock).raise .overfill (.channel c)).marksChanged c
      (w.refill.get c) := if_pos h

theorem Work.overfillTest_off {w : Work} {c : Channel} (h : ¬ w.overfills c) : w.overfillTest c = w := if_neg h

open Classical in
theorem Work.overfillTest_view (w : Work) (c d : Channel) :
    (w.overfillTest c).overfillView d
      = ((if d = c ∧ w.overfills c then (w.refill.get c).lock else w.refill.get d), w.ink, w.pre, w.mode) := by
  by_cases h : w.overfills c
  · by_cases hd : d = c
    · subst hd
      simp [Work.overfillView, Work.overfillTest_on h, Work.putRefill, h]
    · simp [Work.overfillView, Work.overfillTest_on h, Work.putRefill, hd, PerChannel.get_set_ne _ hd]
  · simp [Work.overfillTest_off h, Work.overfillView, h]

open Classical in
theorem Work.overfillTests_refill (w : Work) (c : Channel) :
    w.overfillTests.refill.get c = if w.overfills c then (w.refill.get c).lock else w.refill.get c := by
  have h := foldl_at (fun w c => Work.overfillTest w c) Work.overfillView
    (fun v a b hne => by rw [Work.overfillTest_view, if_neg (by simp [hne])]; rfl)
    (fun v w a h => by
      have hv := h
      simp only [Work.overfillView, Prod.mk.injEq] at hv
      obtain ⟨hr, hi, hp, hm⟩ := hv
      simp only [Work.overfillTest_view, Work.overfills_congr h, hr, hi, hp, hm])
    Channel.all_nodup (Channel.mem_all c) w
  rw [Work.overfillTest_view] at h
  simpa [Work.overfillTests, Work.overfillView] using congrArg Prod.fst h

theorem Work.overfillTest_raisesOnly (w : Work) (c : Channel) :
    Work.RaisesOnly (fun f => f = .overfill ∧ w.overfills c) w (w.overfillTest c) := by
  by_cases h : w.overfills c
  · rw [Work.overfillTest_on h]
    have locked := (w.putRefill c (w.refill.get c).lock).raise_raisesOnly
      (P := fun f => f = .overfill ∧ w.overfills c) (.channel c) ⟨rfl, h⟩
    exact locked.trans (.same (by simp))
  · exact .same (by rw [Work.overfillTest_off h])

/-- The overfill tests raise nothing but OVERFILL, and that only where a channel overfills. -/
theorem Work.overfillTests_raisesOnly (w : Work) :
    Work.RaisesOnly (fun f => f = .overfill ∧ ∃ c, w.overfills c) w w.overfillTests := by
  have h := foldl_invariant (fun w c => Work.overfillTest w c)
    (fun v => (v.ink = w.ink ∧ v.pre = w.pre ∧ v.mode = w.mode
        ∧ ∀ c, v.refill.get c = w.refill.get c ∨ (v.refill.get c).state ≠ .opened)
      ∧ Work.RaisesOnly (fun f => f = .overfill ∧ ∃ c, w.overfills c) w v)
    (fun v c ⟨⟨hi, hp, hm, hr⟩, only⟩ => ?_) Channel.all w
    ⟨⟨rfl, rfl, rfl, fun _ => .inl rfl⟩, .same rfl⟩
  · exact h.2
  have overfilled : v.overfills c → w.overfills c := fun ho => by
    refine (Work.overfills_congr ?_).1 ho
    rw [Work.overfillView, Work.overfillView, (hr c).resolve_right (fun h => h ho.1), hi, hp, hm]
  refine ⟨⟨by simp [hi], by simp [hp], by simp [hm], fun d => ?_⟩, only.trans ?_⟩
  · have hd := congrArg Prod.fst (v.overfillTest_view c d)
    simp only [Work.overfillView] at hd
    rw [hd]
    split
    · refine .inr ?_
      simp [RefillChannel.lock, (‹d = c ∧ v.overfills c›).2.1]
    · exact hr d
  · exact (v.overfillTest_raisesOnly c).mono fun f hf => ⟨hf.1, c, overfilled hf.2⟩

/-- A channel that overfills raises OVERFILL. -/
theorem Work.overfillTests_raises {w : Work} {c : Channel} (h : w.overfills c) :
    ∃ r ∈ w.overfillTests.raised, r.code = FaultCode.overfill := by
  let raisedSo (v : Work) : Prop := ∃ r ∈ v.raised, r.code = FaultCode.overfill
  have kept : ∀ (v : Work) (d : Channel), raisedSo v → raisedSo (v.overfillTest d) := by
    rintro v d ⟨r, hr, hc⟩
    exact ⟨r, (v.overfillTest_raisesOnly d).1 r hr, hc⟩
  have raises : ∀ (l : List Channel) (v : Work), c ∈ l → v.overfills c →
      raisedSo (l.foldl (fun w c => w.overfillTest c) v) := by
    intro l
    induction l with
    | nil => simp
    | cons d l ih =>
      intro v hm hv
      rw [List.foldl_cons]
      by_cases hd : c = d
      · subst hd
        refine foldl_invariant _ raisedSo kept _ _ ?_
        rw [Work.overfillTest_on hv]
        exact ⟨{ code := .overfill, detail := .channel c }, by simp [Work.raise], rfl⟩
      · refine ih _ ((List.mem_cons.1 hm).resolve_left hd) ((Work.overfills_congr ?_).2 hv)
        rw [Work.overfillTest_view, if_neg (by simp [hd])]
        rfl
  exact raises _ _ (Channel.mem_all c) h

/-- The active faults at the end of an event: those before and those that its body and the overfill tests raised. -/
theorem Work.finish_active (w : Work) (f : FaultCode) :
    f ∈ w.finish.faults.active ↔ f ∈ w.faults.active ∨ ∃ r ∈ w.overfillTests.raised, r.code = f := by
  rw [Work.finish_faults, Work.faultStage_active]
  simp

/-- A fault raised in the body is active at the end. -/
theorem Work.finish_raised {w : Work} {r : Raise} (h : r ∈ w.raised) : r.code ∈ w.finish.faults.active :=
  (w.finish_active _).2 (.inr ⟨r, w.overfillTests_raisesOnly.1 r h, rfl⟩)

/-- What is active at the end of an event was active, was raised by its body, or is OVERFILL. -/
theorem Work.finish_active_only {P : FaultCode → Prop} {s : State} {w : Work} {f : FaultCode}
    (hr : Work.RaisesOnly P (Work.begin s) w) (h : f ∈ w.finish.faults.active) :
    f ∈ w.faults.active ∨ P f ∨ f = .overfill ∧ ∃ c, w.overfills c := by
  rcases (w.finish_active f).1 h with stood | ⟨r, hm, rfl⟩
  · exact .inl stood
  · rcases w.overfillTests_raisesOnly.2 r hm with hm | hov
    · rcases hr.2 r hm with hm | hp
      · simp [Work.begin] at hm
      · exact .inr (.inl hp)
    · exact .inr (.inr hov)

end Sys2Proof.Machine
end

section
/-! SUPPORT. What the end of an event makes of each refill channel and of the band queue. -/

namespace Sys2Proof.Machine

/-! ### One refill channel (R27 to R29) -/

/-- What the tests of the end of an event make of a channel `x` whose FULL mark reads `full`, with its classes
worked out anew. -/
inductive RefillChannel.Settles (full : MarkState) (x : RefillChannel) : RefillChannel → Prop
  | stays (d e : Nat) : Settles full x { x with deficit := d, effective := e }
  | wants (d e : Nat) : x.state = .idle → full = .dry →
      Settles full x { x with state := .want, deficit := d, effective := e }
  | opens (d e : Nat) : x.state = .idle ∨ x.state = .want → full ≠ .wet →
      Settles full x { x.openValve with deficit := d, effective := e }
  | leaves (d e : Nat) : x.state = .want →
      Settles full x { x with state := .idle, waited := 0, deficit := d, effective := e }
  | yields (t d e : Nat) : x.state = .opened →
      Settles full x { x.backOff t with deficit := d, effective := e }

theorem RefillChannel.Settles.marks {full : MarkState} {x y : RefillChannel} (h : x.Settles full y) :
    y.lockedMark = x.lockedMark ∧ y.starvedMark = x.starvedMark := by
  cases h <;> exact ⟨rfl, rfl⟩

/-- A channel that is held, locked, starved or backing off stands. -/
theorem RefillChannel.Settles.stands {full : MarkState} {x y : RefillChannel} (h : x.Settles full y)
    (hi : x.state ≠ .idle) (hw : x.state ≠ .want) (ho : x.state ≠ .opened) :
    ∃ d e, y = { x with deficit := d, effective := e } := by
  cases h with
  | stays d e => exact ⟨d, e, rfl⟩
  | wants d e h | leaves d e h | yields t d e h => contradiction
  | opens d e h => exact (h.elim hi hw).elim

/-- A channel whose valve is closed either has it opened, its leak count and window cleared, or keeps them. -/
theorem RefillChannel.Settles.closed {full : MarkState} {x y : RefillChannel} (h : x.Settles full y)
    (ho : x.state ≠ .opened) :
    y.state = .opened ∧ full ≠ .wet ∧ y.leakCount = 0 ∧ y.leakWindow = none
      ∨ y.state ≠ .opened ∧ y.leakCount = x.leakCount ∧ y.leakWindow = x.leakWindow := by
  cases h with
  | stays d e => exact .inr ⟨ho, rfl, rfl⟩
  | wants d e | leaves d e => exact .inr ⟨by simp, rfl, rfl⟩
  | opens d e _ hf => exact .inl ⟨rfl, hf, rfl, rfl⟩
  | yields t d e h => contradiction

/-- A channel that is OPEN before and after the tests keeps its window. -/
theorem RefillChannel.Settles.window {full : MarkState} {x y : RefillChannel} (h : x.Settles full y)
    (hx : x.state = .opened) (hy : y.state = .opened) : y.window = x.window := by
  cases h with
  | stays d e => rfl
  | wants d e h | leaves d e h => simp [hx] at h
  | opens d e h => simp [hx] at h
  | yields t d e => simp [RefillChannel.backOff] at hy

/-- No test puts a channel on HOLD. -/
theorem RefillChannel.Settles.held {full : MarkState} {x y : RefillChannel} (h : x.Settles full y)
    (hy : y.state = .held) : x.state = .held := by
  cases h with
  | stays d e => exact hy
  | wants d e | leaves d e => simp at hy
  | opens d e => simp [RefillChannel.openValve] at hy
  | yields t d e => simp [RefillChannel.backOff] at hy

/-- An IDLE channel is IDLE, WANT or OPEN after the tests. -/
theorem RefillChannel.Settles.of_idle {full : MarkState} {x y : RefillChannel} (h : x.Settles full y)
    (hx : x.state = .idle) : y.state = .idle ∨ y.state = .want ∨ y.state = .opened := by
  cases h with
  | stays d e => exact .inl hx
  | wants d e => exact .inr (.inl rfl)
  | opens d e => exact .inr (.inr rfl)
  | leaves d e => exact .inl rfl
  | yields t d e h => simp [hx] at h

theorem Work.tryOpen_cases (w : Work) (c : Channel) (x : RefillChannel) :
    w.tryOpen c x = x.openValve ∨ w.tryOpen c x = x := by
  unfold Work.tryOpen
  split <;> simp

theorem RefillChannel.Settles.refl (full : MarkState) (x : RefillChannel) : x.Settles full x :=
  .stays x.deficit x.effective

/-- The classes of a channel are free on both sides of its tests. -/
theorem RefillChannel.Settles.classed {full : MarkState} {x y : RefillChannel} {d e : Nat}
    (h : ({ x with deficit := d, effective := e } : RefillChannel).Settles full y) (e' : Nat) :
    x.Settles full { y with effective := e' } := by
  cases h with
  | stays d e => exact .stays _ _
  | wants d e hi hf => exact .wants _ _ hi hf
  | opens d e hs hf => exact .opens _ _ hs hf
  | leaves d e hs => exact .leaves _ _ hs
  | yields t d e hs => exact .yields _ _ _ hs

theorem Work.valveTests_settles (w : Work) (c : Channel) (fresh : Bool) (x : RefillChannel) :
    x.Settles (w.ink.get c).full.state (w.valveTests c fresh x) := by
  simp only [Work.valveTests]
  split
  next hx =>
    split
    · rename_i h
      simp only [Bool.and_eq_true, decide_eq_true_eq] at h
      rcases w.tryOpen_cases c { x with state := .want } with o | o <;> rw [o]
      · exact .opens _ _ (.inl hx) (by simp [h.2])
      · exact .wants _ _ hx h.2
    · exact .refl _ _
  next hx =>
    split
    · exact .leaves _ _ hx
    · rename_i h
      rw [not_or] at h
      split
      · rcases w.tryOpen_cases c x with o | o <;> rw [o]
        · exact .opens _ _ (.inr hx) h.2
        · exact .refl _ _
      · exact .refl _ _
  next hx =>
    split
    · exact .yields _ _ _ hx
    · exact .refl _ _
  next => exact .refl _ _

theorem Work.settledChannel_settles (w : Work) (c : Channel) :
    (w.refill.get c).Settles (w.ink.get c).full.state (w.settledChannel c) :=
  (w.valveTests_settles c _ _).classed _

/-- An enabled IDLE channel, FULL DRY, whose effective class rises from 0 is WANT or OPEN (R27, R28). -/
theorem Work.settledChannel_wants {w : Work} {c : Channel} (hi : (w.refill.get c).state = .idle)
    (he : w.enabled c = true) (hf : (w.ink.get c).full.state = .dry) (h0 : (w.refill.get c).effective = 0)
    (h1 : 1 ≤ w.effectiveClass c (w.deficitClass c) (w.refill.get c).waited) :
    (w.settledChannel c).state = .want ∨ (w.settledChannel c).state = .opened := by
  have rises : w.effectiveClass c (w.deficitClass c) (w.refill.get c).waited ≠ 0 := by omega
  simp only [Work.settledChannel, Work.valveTests, hi, h0, he, hf, rises, h1, ne_eq, not_false_eq_true, decide_true,
    Bool.true_or, Bool.and_self, if_true]
  rcases w.tryOpen_cases c { w.refill.get c with
    state := .want, deficit := w.deficitClass c,
    effective := w.effectiveClass c (w.deficitClass c) (w.refill.get c).waited } with o | o <;> rw [o]
  · exact .inr rfl
  · exact .inl rfl

theorem Work.refillStage_get (w : Work) (c : Channel) :
    w.refillStage.refill.get c = if w.classes || w.peersHeard then w.settledChannel c else w.refill.get c := by
  simp only [Work.refillStage]
  split
  · exact PerChannel.get_gen ..
  · rfl

theorem Work.refillStage_settles (w : Work) (c : Channel) :
    (w.refill.get c).Settles (w.ink.get c).full.state (w.refillStage.refill.get c) := by
  rw [Work.refillStage_get]
  split
  · exact w.settledChannel_settles c
  · exact .refl _ _

@[simp] theorem Work.finish_purgeRunning (w : Work) : w.finish.purgeRunning = w.chosen.purgeRunning := by
  simp [State.purgeRunning]

/-- A refill channel at the end of an event: the overfill test, the hold of a purge that now runs, the valve
tests. -/
theorem Work.finish_refill_get (w : Work) (c : Channel) :
    ∃ x, (x = w.overfillTests.refill.get c
        ∨ w.finish.purgeRunning = true ∧ x = (w.overfillTests.refill.get c).hold)
      ∧ x.Settles (w.ink.get c).full.state (w.finish.refill.get c) := by
  refine ⟨w.chosen.refill.get c, ?_, ?_⟩
  · rcases w.chosen_heldOr with h | ⟨hp, h⟩ <;> rw [h]
    · exact .inl rfl
    · exact .inr ⟨by simpa using hp, by simp [heldAll]⟩
  · rw [Work.finish_refill]
    simpa using w.chosen.refillStage_settles c

/-- With the classes worked out anew a channel is as the valve tests leave it, but for the hold of a purge. -/
theorem Work.finish_refill_settled {w : Work} (h : w.classes = true) (c : Channel) :
    (w.finish.refill.get c = w.chosen.settledChannel c
        ∧ w.chosen.refill.get c = w.overfillTests.refill.get c)
      ∨ w.finish.purgeRunning = true ∧ (w.finish.refill.get c).state = .held := by
  have hs : w.finish.refill.get c = w.chosen.settledChannel c := by
    rw [Work.finish_refill, Work.refillStage_get, w.chosen_onward.classes h]
    rfl
  rcases w.chosen_heldOr with hr | ⟨hp, hr⟩
  · exact .inl ⟨hs, by rw [hr]⟩
  · refine .inr ⟨by simpa using hp, ?_⟩
    have held : (w.chosen.refill.get c).state = .held := by
      simp only [hr, heldAll, PerChannel.get_gen, RefillChannel.hold]
      split <;> simp_all
    obtain ⟨d, e, hy⟩ := (w.chosen.settledChannel_settles c).stands (by simp [held]) (by simp [held])
      (by simp [held])
    rw [hs, hy]
    exact held

end Sys2Proof.Machine
end

section
/-! SUPPORT. The band queue at the end of an event, and the deductions of a retirement as the statements put them. -/

namespace Sys2Proof.Machine

/-! ### The band queue at the end of an event (R20, R53) -/

/-- Coverage changes of the records nothing but their states. -/
theorem State.coverWalk_plan (s : State) (l : List BandRecord) (sums : PerChannel Nat) (ahead : Bool) :
    (s.coverWalk l sums ahead).map BandRecord.plan = l.map BandRecord.plan := by
  induction l generalizing sums ahead with
  | nil => rfl
  | cons r l ih =>
    simp only [State.coverWalk]
    (repeat' split) <;> simp [ih, BandRecord.plan]

theorem Work.guardStage_bands (w : Work) :
    w.guardStage.bands.records = w.bands.records ∧ w.guardStage.bands.sheetRef = w.bands.sheetRef
      ∧ w.guardStage.bands.lastRetired = w.bands.lastRetired := by
  unfold Work.guardStage
  split <;> exact ⟨rfl, rfl, rfl⟩

theorem Work.coverStage_bands (w : Work) :
    w.coverStage.bands.records.map BandRecord.plan = w.bands.records.map BandRecord.plan
      ∧ w.coverStage.bands.sheetRef = w.bands.sheetRef
      ∧ w.coverStage.bands.lastRetired = w.bands.lastRetired := by
  unfold Work.coverStage
  split
  · exact ⟨w.coverWalk_plan _ _ _, rfl, rfl⟩
  · exact ⟨rfl, rfl, rfl⟩

theorem Work.finish_stages (w : Work) :
    w.finish.bands = w.overfillTests.faultStage.coverStage.guardStage.bands := by
  rw [w.finish_chosen.2.2.2.1]
  simp [Work.chosen]

theorem Work.finish_records_plan (w : Work) :
    w.finish.bands.records.map BandRecord.plan = w.bands.records.map BandRecord.plan := by
  rw [Work.finish_stages, (Work.guardStage_bands _).1, (Work.coverStage_bands _).1]
  simp

theorem BandRecord.plan_fields {r x : BandRecord} (h : r.plan = x.plan) :
    r.tag = x.tag ∧ r.sheet = x.sheet ∧ r.start = x.start ∧ r.length = x.length ∧ r.endLine = x.endLine := by
  simp only [BandRecord.plan, BandRecord.mk.injEq] at h
  obtain ⟨ht, hs, ha, hl, -⟩ := h
  exact ⟨ht, hs, ha, hl, by simp [BandRecord.endLine, ha, hl]⟩

/-- A record at the end of an event is one that the body left, but for its state. -/
theorem Work.finish_record {w : Work} {r : BandRecord} (h : r ∈ w.finish.bands.records) :
    ∃ x ∈ w.bands.records, r.plan = x.plan := by
  have hm := List.mem_map_of_mem (f := BandRecord.plan) h
  rw [Work.finish_records_plan] at hm
  obtain ⟨x, hx, he⟩ := List.mem_map.1 hm
  exact ⟨x, hx, he.symm⟩

theorem Work.finish_record_of {w : Work} {r : BandRecord} (h : r ∈ w.bands.records) :
    r.plan ∈ w.finish.bands.records.map BandRecord.plan := by
  rw [Work.finish_records_plan]
  exact List.mem_map_of_mem h

/-- The end of an event leaves the current sheet of the band queue and its last retired end. -/
theorem Work.finish_bands (w : Work) :
    w.finish.bands.sheetRef = w.bands.sheetRef ∧ w.finish.bands.lastRetired = w.bands.lastRetired := by
  obtain ⟨-, hs, hl⟩ := w.overfillTests.faultStage.coverStage.guardStage_bands
  obtain ⟨-, cs, cl⟩ := w.overfillTests.faultStage.coverStage_bands
  rw [Work.finish_stages, hs, hl, cs, cl]
  simp

theorem State.guardLine_congr {s t : State} (hb : s.bands.records = t.bands.records)
    (hr : s.bands.sheetRef = t.bands.sheetRef) (hl : s.bands.lastRetired = t.bands.lastRetired)
    (hs : s.feed.sheet = t.feed.sheet) (hp : s.feed.phase = t.feed.phase) : s.guardLine = t.guardLine := by
  simp [State.guardLine, State.currentSheet, State.recordsOf, hb, hr, hl, hs, hp]

/-- An event that changes the queue has its guard line derived anew from what it leaves (R53). -/
theorem Work.finish_guard {w : Work} (h : w.cover = true ∨ w.guardDue = true) :
    w.finish.bands.guard = w.finish.guardLine := by
  have due : w.overfillTests.faultStage.coverStage.guardDue = true := by
    unfold Work.coverStage
    split
    · rfl
    · rename_i hc
      simpa [show w.cover = false by simpa using hc] using h
  have hb := w.finish_stages
  generalize hv : w.overfillTests.faultStage.coverStage = v at due hb
  have hg : v.guardStage.bands = { v.bands with guard := v.guardLine } := by
    simp [Work.guardStage, due]
  have hf : v.feed = w.feed := by simp [← hv]
  rw [hb, hg]
  exact State.guardLine_congr (by rw [hb, hg]) (by rw [hb, hg]) (by rw [hb, hg]) (by simp [hf]) (by simp [hf])

/-- Between sheets the guard line is 0. -/
theorem State.guardLine_none {s : State} (h : s.feed.phase = .none) : s.guardLine = .line 0 := by
  simp [State.guardLine, State.currentSheet, h]

/-- The guard line of a current sheet stands as its records say (R53). -/
theorem State.guardStands {t : State} {r : SheetRecord} {cur : Nat} (hg : t.bands.guard = t.guardLine)
    (hc : t.currentSheet = some cur) (hs : t.feed.sheet = some r) : GuardStands t cur r.printLength := by
  refine ⟨fun pre x post he hx hnc hnp hpre => ?_, fun hall => ?_⟩
  · have found : (t.recordsOf cur).find? (fun r => r.state ≠ .covered ∧ r.state ≠ .printing) = some x := by
      rw [List.find?_eq_some_iff_append]
      refine ⟨by simp [hnc, hnp], pre.filter fun r => r.sheet = cur, post.filter fun r => r.sheet = cur, ?_, ?_⟩
      · simp [State.recordsOf, he, hx]
      · intro y hy
        have := List.mem_filter.1 hy
        rcases hpre y this.1 (by simpa using this.2) with h | h <;> simp [h]
    simp only [hg, State.guardLine, hc, found]
  · have found : (t.recordsOf cur).find? (fun r => r.state ≠ .covered ∧ r.state ≠ .printing) = none := by
      refine List.find?_eq_none.2 fun y hy => ?_
      have := List.mem_filter.1 hy
      rcases hall y this.1 (by simpa using this.2) with h | h <;> simp [h]
    simp only [hg, State.guardLine, hc, hs, found]
    refine ⟨fun pre x post he hx hpost => ?_, fun hno => ?_⟩
    · have last : (t.recordsOf cur).getLast? = some x := by
        have : post.filter (fun r => r.sheet = cur) = [] := by
          simpa [List.filter_eq_nil_iff] using hpost
        simp [State.recordsOf, he, hx, this]
      simp [last]
    · have : t.recordsOf cur = [] := by simpa [State.recordsOf, List.filter_eq_nil_iff] using hno
      simp [this]

end Sys2Proof.Machine
end

section
/-! SUPPORT. The deductions of a retirement, a spit and a purge, as the statements put them (R9 to R13). -/

namespace Sys2Proof.Machine

/-! ### The raises of a run over the channels -/

/-- A run over the channels raises what its steps may raise, each channel's ink as it was before the run. -/
theorem ByChannel.raisesOnly {P : FaultCode → Prop} {f : Work → Channel → Work} (hf : ByChannel f) {w : Work}
    (h : ∀ v c, v.mode = w.mode → v.ink.get c = w.ink.get c → Work.RaisesOnly P v (f v c)) :
    Work.RaisesOnly P w (Channel.all.foldl f w) := by
  have run : ∀ (l : List Channel) (v : Work), l.Nodup → v.mode = w.mode →
      (∀ c ∈ l, v.ink.get c = w.ink.get c) → Work.RaisesOnly P v (l.foldl f v) := by
    intro l
    induction l with
    | nil => exact fun v _ _ _ => .same rfl
    | cons c l ih =>
      intro v hl hm hi
      rw [List.nodup_cons] at hl
      refine (h v c hm (hi c (by simp))).trans (ih _ hl.2 ((hf.mode v c).trans hm) fun d hd => ?_)
      have hne : d ≠ c := by rintro rfl; exact hl.1 hd
      exact (hf.other v c d hne).1.trans (hi d (by simp [hd]))
  exact run _ w Channel.all_nodup rfl fun _ _ => rfl

/-- A run over the channels comes to each of them with its ink as it was; what its step there brings about holds at
the end, where every step keeps it. -/
theorem ByChannel.reaches {f : Work → Channel → Work} (hf : ByChannel f) (w : Work) (c : Channel) :
    ∃ v : Work, v.mode = w.mode ∧ v.ink.get c = w.ink.get c
      ∧ ∀ P : Work → Prop, (∀ v d, P v → P (f v d)) → P (f v c) → P (Channel.all.foldl f w) := by
  obtain ⟨l, l', he⟩ := List.append_of_mem (Channel.mem_all c)
  have hc : c ∉ l := fun hm => by
    have := Channel.all_nodup
    rw [he, List.nodup_append] at this
    exact this.2.2 c hm c (by simp) rfl
  obtain ⟨hm, hi, -⟩ := hf.foldl_absent l w hc
  refine ⟨l.foldl f w, hm, hi, fun P keep hp => ?_⟩
  rw [he, List.foldl_append, List.foldl_cons]
  exact foldl_invariant f P keep l' _ hp

/-- A run over the channels keeps what its steps raise. -/
theorem ByChannel.reaches_raised {f : Work → Channel → Work} (hf : ByChannel f) (w : Work) (c : Channel)
    (grows : ∀ v d, Work.RaisesOnly (fun _ => True) v (f v d)) :
    ∃ v : Work, v.mode = w.mode ∧ v.ink.get c = w.ink.get c
      ∧ ∀ r ∈ (f v c).raised, r ∈ (Channel.all.foldl f w).raised := by
  obtain ⟨v, hm, hi, keep⟩ := hf.reaches w c
  exact ⟨v, hm, hi, fun r hr => keep (fun v => r ∈ v.raised) (fun v d h => (grows v d).1 r h) hr⟩

/-! ### One channel's deduction at the end of an event -/

theorem State.suffices_congr {s t : State} {c : Channel} (hm : s.mode = t.mode) (hi : s.ink.get c = t.ink.get c)
    (whole : Nat) : s.suffices c whole ↔ t.suffices c whole := by
  simp [State.suffices, State.enabled_congr hm, hi]

/-- In the body of an event that began in `s`, channel `c` has given up `whole` nL (R9 to R11). -/
structure Work.Gave (s : State) (k : Amount) (c : Channel) (whole residue blind : Nat) (v : Work) : Prop where
  ink : v.ink.get c = (s.ink.get c).gave (s.enabled c) whole residue
  amount : ∀ j, (v.tally.channels.get c).amount j
    = ((s.tally.channels.get c).gave (s.ink.get c) (s.enabled c) k whole blind).amount j
  adjusted : (v.tally.channels.get c).adjusted
    = ((s.tally.channels.get c).gave (s.ink.get c) (s.enabled c) k whole blind).adjusted
  off : s.enabled c = false → v.tally.channels.get c = s.tally.channels.get c
  underrun : ¬ s.suffices c whole → ∃ r ∈ v.raised, r.code = FaultCode.underrun

section
variable {s : State} {k : Amount} {c : Channel} {whole residue blind : Nat} {v w : Work}

theorem Work.Gave.congr (h : v.Gave s k c whole residue blind) (hi : w.ink = v.ink) (ht : w.tally = v.tally)
    (hr : ∀ r ∈ v.raised, r ∈ w.raised) : w.Gave s k c whole residue blind where
  ink := by rw [hi]; exact h.ink
  amount := by rw [ht]; exact h.amount
  adjusted := by rw [ht]; exact h.adjusted
  off := by rw [ht]; exact h.off
  underrun hs := by
    obtain ⟨r, hm, hc⟩ := h.underrun hs
    exact ⟨r, hr r hm, hc⟩

/-- A deduction from a point of the event where the ledgers are as it began. -/
theorem Work.Gave.since {u : Work} (h : v.Gave u.toState k c whole residue blind) (hi : u.ink = s.ink)
    (ht : u.tally = s.tally) (hm : u.mode = s.mode) : v.Gave s k c whole residue blind := by
  obtain ⟨gi, ga, gd, go, gu⟩ := h
  rw [State.suffices_congr hm (by rw [hi])] at gu
  simp only [hi, ht, State.enabled_congr hm] at gi ga gd go
  exact ⟨gi, ga, gd, go, gu⟩

theorem TallyChannel.gave_amount_ne (t : TallyChannel) (x : InkChannel) (on : Bool) {j k : Amount} (whole blind : Nat)
    (h : j ≠ k) : (t.gave x on k whole blind).amount j = t.amount j := by
  unfold TallyChannel.gave
  (repeat' split) <;> simp [TallyChannel.plus_amount_ne _ _ h]

theorem Work.Gave.deducts (h : v.Gave s k c whole residue blind) :
    Deducts s v.finish k c whole residue blind := by
  have hi : v.finish.ink = v.ink := by simp
  have ht : v.finish.tally = v.tally := by simp
  rw [Deducts, hi, ht]
  refine ⟨fun hoff => ⟨?_, h.off hoff⟩, fun j hj => ?_, fun hon hk => ⟨?_, ?_, fun hs => ?_, fun hs => ⟨?_, ?_⟩⟩,
    fun hon hu => ⟨?_, ?_, ?_⟩⟩
  · simp [h.ink, InkChannel.gave, hoff]
  · rw [h.amount, TallyChannel.gave_amount_ne _ _ _ _ _ hj]
  · simp [h.ink, InkChannel.gave, hon, hk]
  · rw [h.amount]
    by_cases hs : whole ≤ (s.ink.get c).estimate <;>
      simp [TallyChannel.gave, hon, hk, hs, TallyChannel.plus_amount_same]
  · rw [h.adjusted]
    simp [TallyChannel.gave, hon, hk, hs]
  · rw [h.adjusted]
    simp [TallyChannel.gave, hon, hk, Nat.not_le.2 hs, TallyChannel.booked_adjusted]
  · obtain ⟨r, hm, hc⟩ := h.underrun (by simp [State.suffices, hon, hk, hs])
    exact hc ▸ Work.finish_raised hm
  · simp [h.ink, InkChannel.gave, hu]
  · rw [h.amount]
    simp [TallyChannel.gave, hon, hu, TallyChannel.plus_amount_same]
  · rw [h.adjusted]
    simp [TallyChannel.gave, hon, hu, TallyChannel.booked_adjusted]

end

/-! ### Spits, purges and retirements -/

theorem Work.giveUp_grows (w : Work) (k : Amount) (c : Channel) (whole residue blind : Nat) :
    Work.RaisesOnly (fun _ => True) w (w.giveUp k c whole residue blind) :=
  (w.giveUp_raisesOnly k c whole residue blind).mono fun _ _ => trivial

theorem Work.deductSpit_gave (w : Work) (volumes : PerChannel Nat) (c : Channel) :
    (w.deductSpit volumes).Gave w.toState .spit c (((w.ink.get c).residue + volumes.get c) / 100000)
      (((w.ink.get c).residue + volumes.get c) % 100000) (volumes.get c / 100000) := by
  have at_ := Work.spitAt_byChannel volumes
  obtain ⟨hi, ht⟩ := at_.all_get w c
  rw [Work.deductSpit_eq]
  refine ⟨?_, fun j => ?_, ?_, fun hoff => ?_, fun hs => ?_⟩
  · simp [hi, Work.spitAt, Work.deduct_eq, Work.giveUp_ink]
  · simp [ht, Work.spitAt, Work.deduct_eq, Work.giveUp_tally]
  · simp [ht, Work.spitAt, Work.deduct_eq, Work.giveUp_tally]
  · simp [ht, Work.spitAt, Work.deduct_eq, Work.giveUp_tally, TallyChannel.gave, hoff]
  · obtain ⟨v, hm, hv, kept⟩ := at_.reaches_raised w c fun v d => by
      rw [Work.spitAt, Work.deduct_eq]
      exact Work.giveUp_grows ..
    rw [Work.spitAt, Work.deduct_eq, hv] at kept
    obtain ⟨r, hr, hc⟩ := Work.giveUp_underrun (mt (State.suffices_congr hm hv _).1 hs)
    exact ⟨r, kept r hr, hc⟩

theorem Work.deductPurges_gave (w : Work) (set : ChannelSet) (volumes : PerChannel Nat) {c : Channel}
    (hset : set.get c = true) :
    (w.deductPurges set volumes).Gave w.toState .purge c (volumes.get c) (w.ink.get c).residue (volumes.get c) := by
  have at_ := Work.purgeAt_byChannel set volumes
  obtain ⟨hi, ht⟩ := at_.all_get w c
  rw [Work.deductPurges_eq]
  refine ⟨?_, fun j => ?_, ?_, fun hoff => ?_, fun hs => ?_⟩
  · simp [hi, Work.purgeAt, hset, Work.deductPurge_eq, Work.giveUp_ink]
  · simp [ht, Work.purgeAt, hset, Work.deductPurge_eq, Work.giveUp_tally]
  · simp [ht, Work.purgeAt, hset, Work.deductPurge_eq, Work.giveUp_tally]
  · simp [ht, Work.purgeAt, hset, Work.deductPurge_eq, Work.giveUp_tally, TallyChannel.gave, hoff]
  · obtain ⟨v, hm, hv, kept⟩ := at_.reaches_raised w c fun v d => by
      rw [Work.purgeAt, Work.deductPurge_eq]
      split
      · exact Work.giveUp_grows ..
      · exact .same rfl
    rw [Work.purgeAt, if_pos hset, Work.deductPurge_eq, hv] at kept
    obtain ⟨r, hr, hc⟩ := Work.giveUp_underrun (mt (State.suffices_congr hm hv _).1 hs)
    exact ⟨r, kept r hr, hc⟩

theorem Work.deductPurges_unlisted (w : Work) (set : ChannelSet) (volumes : PerChannel Nat) {c : Channel}
    (hset : set.get c = false) :
    (w.deductPurges set volumes).ink.get c = w.ink.get c
      ∧ (w.deductPurges set volumes).tally.channels.get c = w.tally.channels.get c := by
  have h := (Work.purgeAt_byChannel set volumes).all_get w c
  rwa [← Work.deductPurges_eq, Work.purgeAt, if_neg (by simp [hset])] at h

/-- The whole nL that a channel gives up for a volume (R9). -/
def State.wholeOf (s : State) (c : Channel) (v : Nat) : Nat := ((s.ink.get c).residue + v) / 100000

theorem Work.bandAt_eq (r : BandRecord) (w : Work) (c : Channel) :
    Work.bandAt r w c = if w.enabled c then
      (w.giveUp .printed c (w.wholeOf c (r.volume.get c)) (((w.ink.get c).residue + r.volume.get c) % 100000)
        (r.volume.get c / 100000)).countBand c else w := by
  rw [Work.bandAt, Work.deduct_eq]
  rfl

theorem Work.deductBand_gave (w : Work) (r : BandRecord) (c : Channel) :
    (w.deductBand r).Gave w.toState .printed c (w.wholeOf c (r.volume.get c))
      (((w.ink.get c).residue + r.volume.get c) % 100000) (r.volume.get c / 100000) := by
  have at_ := Work.bandAt_byChannel r
  obtain ⟨hi, ht⟩ := at_.all_get w c
  rw [Work.deductBand_eq]
  cases hon : w.enabled c
  · rw [Work.bandAt_eq, if_neg (by simp [hon])] at hi ht
    exact ⟨by simp [hi, InkChannel.gave, hon], fun j => by simp [ht, TallyChannel.gave, hon],
      by simp [ht, TallyChannel.gave, hon], fun _ => ht, fun hs => absurd (fun h => by simp [hon] at h) hs⟩
  rw [Work.bandAt_eq, if_pos hon] at hi ht
  refine ⟨?_, fun j => ?_, ?_, fun hoff => by simp [hon] at hoff, fun hs => ?_⟩
  · simp [hi, Work.giveUp_ink]
  · simp [ht, Work.countBand_get, Work.giveUp_tally]
  · simp [ht, Work.countBand_get, Work.giveUp_tally]
  · obtain ⟨v, hm, hv, kept⟩ := at_.reaches_raised w c fun v d => by
      rw [Work.bandAt_eq]
      split
      · exact (Work.giveUp_grows ..).trans (Work.countBand_raisesOnly _ _ trivial)
      · exact .same rfl
    rw [Work.bandAt_eq, if_pos ((State.enabled_congr hm c).trans hon), State.wholeOf, hv] at kept
    obtain ⟨x, hx, hc⟩ := Work.giveUp_underrun (mt (State.suffices_congr hm hv _).1 hs)
    exact ⟨x, kept x ((Work.countBand_raisesOnly (P := fun _ => True) _ _ trivial).1 x hx), hc⟩

theorem Work.deductBand_bands (w : Work) (r : BandRecord) {c : Channel} (hon : w.enabled c = true) :
    ((w.deductBand r).tally.channels.get c).bands = Nat.min 65535 ((w.tally.channels.get c).bands + 1) := by
  obtain ⟨-, ht⟩ := (Work.bandAt_byChannel r).all_get w c
  have gave : ∀ n m, ((w.tally.channels.get c).gave (w.ink.get c) true .printed n m).bands
      = (w.tally.channels.get c).bands := by
    intro n m
    unfold TallyChannel.gave
    (repeat' split) <;> simp
  rw [Work.deductBand_eq, ht, Work.bandAt_eq, if_pos hon, Work.countBand_get, if_pos rfl, TallyChannel.counted_bands,
    Work.giveUp_tally, if_pos rfl, hon, gave]

/-- A band's deduction raises UNDERRUN only where some channel cannot give its volume. -/
theorem Work.deductBand_raisesOnly (w : Work) (r : BandRecord) :
    Work.RaisesOnly (fun f => f = .tallyOverflow
      ∨ f = .underrun ∧ ∃ c, ¬ w.suffices c (w.wholeOf c (r.volume.get c))) w (w.deductBand r) := by
  refine (Work.bandAt_byChannel r).raisesOnly fun v c hm hi => ?_
  rw [Work.bandAt_eq]
  split
  · refine .trans (.mono (Work.giveUp_raisesOnly ..) fun f hf => ?_) (Work.countBand_raisesOnly _ _ (.inl rfl))
    refine hf.imp_right fun h => ⟨h.1, c, fun hs => h.2 ?_⟩
    rw [State.wholeOf, hi]
    exact (State.suffices_congr hm hi _).2 hs
  · exact .same rfl

/-- In the body of an event that began in `s`, the record `r` has retired (R50). -/
structure Work.Retired (s : State) (r : BandRecord) (v : Work) : Prop where
  gave : ∀ c, v.Gave s .printed c (s.wholeOf c (r.volume.get c)) (((s.ink.get c).residue + r.volume.get c) % 100000)
    (r.volume.get c / 100000)
  bands : ∀ c, s.enabled c = true →
    (v.tally.channels.get c).bands = Nat.min 65535 ((s.tally.channels.get c).bands + 1)
  groups : ∀ c, v.nozzle.groups.get c
    = if s.enabled c then (s.nozzle.groups.get c).map Group.bump else s.nozzle.groups.get c

theorem Work.Retired.congr {s : State} {r : BandRecord} {v w : Work} (h : v.Retired s r) (hi : w.ink = v.ink)
    (ht : w.tally = v.tally) (hn : w.nozzle.groups = v.nozzle.groups) (hr : ∀ x ∈ v.raised, x ∈ w.raised) :
    w.Retired s r where
  gave c := (h.gave c).congr hi ht hr
  bands := by rw [ht]; exact h.bands
  groups := by rw [hn]; exact h.groups

theorem Work.Retired.retires {s : State} {r : BandRecord} {v : Work} (h : v.Retired s r) (c : Channel) :
    Retires s v.finish r c := by
  have groups : v.finish.nozzle.groups = v.nozzle.groups := by simp
  refine ⟨(h.gave c).deducts, fun hon => ⟨by simpa using h.bands c hon, ?_⟩, fun hoff => ?_⟩
  · rw [groups, h.groups, if_pos hon]
    rfl
  · rw [groups, h.groups, if_neg (by simp [hoff])]

/-- A record leaves the queue, its end the last retired one: a retirement but for the ledgers (R50). -/
def Work.unqueue (w : Work) (r : BandRecord) : Work :=
  { w.putRecords (w.bands.records.erase r) with
    bands := { (w.putRecords (w.bands.records.erase r)).bands with lastRetired := r.endLine } }

theorem Work.retire_eq (w : Work) (r : BandRecord) : w.retire r = ((w.unqueue r).deductBand r).bumpGroups := rfl

@[simp] theorem Work.unqueue_frame (w : Work) (r : BandRecord) :
    (w.unqueue r).ink = w.ink ∧ (w.unqueue r).tally = w.tally ∧ (w.unqueue r).mode = w.mode
      ∧ (w.unqueue r).nozzle = w.nozzle ∧ (w.unqueue r).raised = w.raised
      ∧ (w.unqueue r).classes = w.classes ∧ (w.unqueue r).drive = w.drive :=
  ⟨rfl, rfl, rfl, rfl, rfl, rfl, rfl⟩

/-- The retirement of a record, from a point of the event where the ledgers are as it began. -/
theorem Work.retire_retired {s : State} {w : Work} (hi : w.ink = s.ink) (ht : w.tally = s.tally)
    (hm : w.mode = s.mode) (hn : w.nozzle.groups = s.nozzle.groups) (r : BandRecord) : (w.retire r).Retired s r := by
  have hmu : (w.unqueue r).mode = s.mode := by simp [hm]
  have hon : ∀ c, (w.unqueue r).enabled c = s.enabled c := State.enabled_congr hmu
  have hui : (w.unqueue r).ink = s.ink := by simp [hi]
  have hut : (w.unqueue r).tally = s.tally := by simp [ht]
  rw [Work.retire_eq]
  refine ⟨fun c => ?_, fun c h => ?_, fun c => ?_⟩
  · have gave := ((w.unqueue r).deductBand_gave r c).since hui hut hmu
    rw [State.wholeOf, hui] at gave
    exact gave.congr (by simp) (by simp) fun x hx => hx
  · simpa [ht] using (w.unqueue r).deductBand_bands r ((hon c).trans h)
  · have enabled : ∀ c, ((w.unqueue r).deductBand r).enabled c = s.enabled c :=
      State.enabled_congr (by simp [hm])
    simp [Work.bumpGroups, enabled, hn]

end Sys2Proof.Machine
end

section
/-! PROOFS. What a SHEET and an ABORT SHEET taken leave at feed control, in the band queue and in the ledgers. -/

namespace Sys2Proof.Machine

/-! ### Feed control and the arbiter at a change of phase (R66, R75, R87, R108) -/

theorem Work.setUnder_feed (w : Work) (b : Bool) :
    (w.setUnder b).feed = { w.feed with underSegment := b } := by
  simp only [Work.setUnder]
  (repeat' split) <;> simp

theorem Work.setPhase_feed (w : Work) (p : Phase) : (w.setPhase p).feed = { w.feed with phase := p } := by
  simp only [Work.setPhase]
  split <;> simp

theorem Work.setPhase_guardDue (w : Work) (p : Phase) : (w.setPhase p).guardDue = true := by
  simp only [Work.setPhase]
  split <;> simp

/-- A change of phase raises CONTROLLER SILENT alone, and that only as it becomes PENDING. -/
theorem Work.setPhase_raisesOnly (w : Work) (p : Phase) :
    Work.RaisesOnly (fun f => f = .controllerSilent ∧ p = .pending) w (w.setPhase p) := by
  have effects : ∀ v : Work,
      Work.RaisesOnly (fun f => f = .controllerSilent ∧ p = .pending) v (v.phaseEffects p) := by
    intro v
    cases p <;> simp only [Work.phaseEffects]
    case pending =>
      split
      · refine .trans (v := v.withdraw .capIdle) (.same rfl) (Work.raise_raisesOnly _ _ ?_)
        exact ⟨rfl, trivial⟩
      · exact .same rfl
    case none | ended =>
      refine .same ?_
      unfold Work.raiseCapIdle
      (repeat' split) <;> rfl
    case active | trailing => exact .same rfl
  let w1 : Work :=
    { w with feed := { w.feed with phase := p }, guardDue := true, boundary := true, drive := true }
  have begun : Work.RaisesOnly (fun f => f = .controllerSilent ∧ p = .pending) w w1 := .same rfl
  simp only [Work.setPhase]
  split
  · exact begun
  · exact begun.trans (effects w1)

/-- Feed control with a new sheet's record (R66). -/
def Feed.renewed (f : Feed) (r : SheetRecord) (p : Phase) : Feed :=
  { f.uncaptured with
    sheet := some r, position := 0, commanded := 0, fedPending := 0, edgeLateRaised := false, slipRaised := false
    underSegment := false, phase := p }

theorem Work.takeSheet_feed (w : Work) (r : SheetRecord) :
    (w.takeSheet r).feed
      = w.feed.renewed r (if r.active.get w.mode.station then .pending else .ended) := by
  simp only [Work.takeSheet]
  (repeat' split) <;>
    simp_all [Work.setPhase_feed, Work.setUnder_feed, Feed.renewed, Feed.uncaptured]

/-- Of the ledgers and the queue a SHEET order taken makes what it makes of the queue. -/
theorem Work.takeSheet_queue (w : Work) (r : SheetRecord) :
    (w.takeSheet r).ink = (w.sheetQueue r.sheet r.printLength).ink
      ∧ (w.takeSheet r).tally = (w.sheetQueue r.sheet r.printLength).tally
      ∧ (w.takeSheet r).nozzle = (w.sheetQueue r.sheet r.printLength).nozzle
      ∧ (w.takeSheet r).bands = (w.sheetQueue r.sheet r.printLength).bands
      ∧ (w.takeSheet r).cover = true
      ∧ ∀ x ∈ (w.sheetQueue r.sheet r.printLength).raised, x ∈ (w.takeSheet r).raised := by
  have kept : ∀ (v : Work) (p : Phase), ∀ x ∈ v.raised, x ∈ (v.setPhase p).raised := fun v p =>
    (v.setPhase_raisesOnly p).1
  simp only [Work.takeSheet]
  (repeat' split) <;> refine ⟨by simp, by simp, by simp, by simp, by simp, fun x hx => ?_⟩
  all_goals exact kept _ _ x (by simpa using hx)

/-! ### The queue (R51, R56, R57) -/

/-- Where no record is PRINTING none retires. -/
theorem Work.retirePrinting_none {w : Work} (h : w.printing = none) : w.retirePrinting = w := by
  simp [Work.retirePrinting, h]

theorem Work.retirePrinting_some {w : Work} {r : BandRecord} (h : w.printing = some r) :
    w.retirePrinting = w.retire r := by simp [Work.retirePrinting, h]

theorem Work.retire_bands (w : Work) (r : BandRecord) :
    (w.retire r).bands = { w.bands with records := w.bands.records.erase r, lastRetired := r.endLine } := by
  simp [Work.retire, Work.putRecords]

theorem State.printing_state {s : State} {r : BandRecord} (h : s.printing = some r) :
    r ∈ s.bands.records ∧ r.state = .printing :=
  ⟨List.mem_of_find?_eq_some h, by simpa using List.find?_some h⟩

/-- A retirement takes no record that is not PRINTING, and puts none in. -/
theorem Work.retirePrinting_records (w : Work) :
    (∀ x ∈ w.retirePrinting.bands.records, x ∈ w.bands.records)
      ∧ (∀ x ∈ w.bands.records, x.state ≠ .printing → x ∈ w.retirePrinting.bands.records)
      ∧ w.retirePrinting.bands.sheetRef = w.bands.sheetRef := by
  cases h : w.printing with
  | none =>
    rw [Work.retirePrinting_none h]
    exact ⟨fun _ => id, fun _ hx _ => hx, rfl⟩
  | some r =>
    rw [Work.retirePrinting_some h, Work.retire_bands]
    refine ⟨fun x hx => List.mem_of_mem_erase hx, fun x hx hp => ?_, rfl⟩
    have hne : x ≠ r := by
      rintro rfl
      exact hp (State.printing_state h).2
    exact (List.mem_erase_of_ne hne).2 hx

theorem Work.sheetQueue_bands (w : Work) (n len : Nat) :
    (w.sheetQueue n len).bands.sheetRef = some n ∧ (w.sheetQueue n len).bands.lastRetired = 0
      ∧ ∀ x, x ∈ (w.sheetQueue n len).bands.records ↔ x ∈ w.retirePrinting.bands.records
        ∧ w.bands.sheetRef ≠ some n ∧ x.sheet = n ∧ x.endLine ≤ len := by
  refine ⟨rfl, rfl, fun x => ?_⟩
  simp [Work.sheetQueue, Work.putRecords, List.mem_filter, and_assoc]

/-- The ledgers after the queue's part of a SHEET order are those after the retirement. -/
theorem Work.sheetQueue_ledgers (w : Work) (n len : Nat) :
    (w.sheetQueue n len).ink = w.retirePrinting.ink ∧ (w.sheetQueue n len).tally = w.retirePrinting.tally
      ∧ (w.sheetQueue n len).nozzle = w.retirePrinting.nozzle
      ∧ (w.sheetQueue n len).raised = w.retirePrinting.raised :=
  ⟨rfl, rfl, rfl, rfl⟩

/-- A SHEET order that passes its tests in RUN is taken. -/
theorem body_sheet_taken {s : State} {ref n len lim : Nat} {a : StationSet} {spit deg : Bool}
    (hr : s.mode.mode = .run) (h : s.sheetRefusal a len lim = none) :
    body (.sheet ref n a len spit deg lim) (Work.begin s)
      = ((Work.begin s).takeSheet
          { sheet := n, active := a, printLength := len, spitAllowed := spit, degraded := deg,
            leadLimit := lim }).outcome .sheet ref .accepted := by
  simp [body, State.inRun, hr, h]

theorem State.guardStands_finish {v : Work} {r : SheetRecord} {n : Nat} (hc : v.cover = true)
    (hs : v.feed.sheet = some r) (hp : v.feed.phase ≠ .none) (hr : v.bands.sheetRef = some n) :
    GuardStands v.finish n r.printLength := by
  refine State.guardStands (Work.finish_guard (.inl hc)) ?_ (by simpa using hs)
  rw [State.currentSheet, if_neg (by simpa using hp), v.finish_bands.1, hr]

/-- Settles O26: the queue's part and the retirement come from `sheetQueue`, feed control's from `renewed`. -/
theorem sheetOrderTakesTheSheet : Obligations.SheetOrderTakesTheSheet := by
  unfold Obligations.SheetOrderTakesTheSheet
  rintro s ref n a len spit deg lim ⟨hpin, hrun⟩ hfits
  refine ⟨_, completes_body rfl hpin, ?_⟩
  rw [body_sheet_taken hrun hfits]
  generalize hrec : SheetRecord.mk n a len spit deg lim = rec
  obtain ⟨hn, ha, hlen⟩ : rec.sheet = n ∧ rec.active = a ∧ rec.printLength = len := by simp [← hrec]
  obtain ⟨vink, vtally, vnozzle, vbands, vcover, vraised⟩ := (Work.begin s).takeSheet_queue rec
  have vfeed := (Work.begin s).takeSheet_feed rec
  obtain ⟨hqi, hqt, hqn, hqr⟩ := (Work.begin s).sheetQueue_ledgers n len
  obtain ⟨href, hlast, hkept⟩ := (Work.begin s).sheetQueue_bands n len
  obtain ⟨-, hstay, -⟩ := (Work.begin s).retirePrinting_records
  have vmode : ((Work.begin s).takeSheet rec).mode = s.mode := by simp
  rw [hn, hlen] at vink vtally vnozzle vbands vraised
  rw [hqi] at vink
  rw [hqt] at vtally
  rw [hqn] at vnozzle
  rw [hqr] at vraised
  rw [ha] at vfeed
  generalize (Work.begin s).takeSheet rec = v at *
  have record : ∀ r ∈ (v.outcome .sheet ref .accepted).finish.bands.records,
      ∃ x ∈ ((Work.begin s).sheetQueue n len).bands.records, r.plan = x.plan := fun r hr => by
    simpa [vbands] using Work.finish_record hr
  have vsheet : v.feed.sheet = some rec ∧ v.feed.phase ≠ .none := by
    rw [vfeed, Feed.renewed]
    refine ⟨rfl, ?_⟩
    split <;> simp
  have guard : GuardStands (v.outcome .sheet ref .accepted).finish n rec.printLength :=
    State.guardStands_finish vcover vsheet.1 vsheet.2 (by simp [vbands, href])
  rw [hlen] at guard
  simp only [Work.finish_feed_fields, Work.finish_bands, Work.outcome_frame, vfeed, vbands, href, hlast, Feed.renewed,
    Feed.uncaptured, Work.begin_state, true_and]
  refine ⟨by simp [vmode], rfl, fun r hr => ?_, fun hs => ?_, fun r hr hsheet hne hp he => ?_, fun r hr c => ?_, fun hp => ?_,
    guard⟩
  · obtain ⟨x, hx, he⟩ := record r hr
    obtain ⟨-, hsheet, -, -, hend⟩ := BandRecord.plan_fields he
    obtain ⟨-, -, hxs, hxe⟩ := (hkept x).1 hx
    exact ⟨hsheet.trans hxs, hend ▸ hxe⟩
  · refine List.eq_nil_iff_forall_not_mem.2 fun r hr => ?_
    obtain ⟨x, hx, -⟩ := record r hr
    exact ((hkept x).1 hx).2.1 hs
  · refine Work.finish_record_of ?_
    rw [(Work.outcome_frame ..).2.2.1, vbands]
    exact (hkept r).2 ⟨hstay r hr hp, hne, hsheet, he⟩
  · rw [Work.retirePrinting_some hr] at vink vtally vnozzle vraised
    have retired := Work.retire_retired (s := s) (w := Work.begin s) rfl rfl rfl rfl r
    have kept : (v.outcome .sheet ref .accepted).Retired s r :=
      retired.congr (by simp [vink]) (by simp [vtally]) (by simp [vnozzle]) fun x hx => by simpa using vraised x hx
    exact kept.retires c
  · rw [Work.retirePrinting_none hp] at vink vtally vnozzle
    exact ⟨by simp [vink], by simp [vtally], by simp [vnozzle]⟩

/-! ### ABORT SHEET (R57, R87, R208) -/

/-- An ABORT SHEET order in RUN is taken or refused by its sheet id (R87). -/
theorem body_abortSheet_run {s : State} {n : Nat} (hr : s.mode.mode = .run) :
    body (.abortSheet n) (Work.begin s)
      = if s.abortFits n then (Work.begin s).takeAbort.outcome .abortSheet n .accepted
        else (Work.begin s).outcome .abortSheet n .refusedSequence :=
  if_pos (show (Work.begin s).inRun = true by simp [State.inRun, hr])

/-- Feed control with its sheet aborted (R87). -/
def Feed.aborted (f : Feed) : Feed :=
  { f.uncaptured with move := f.move.map Move.ended, underSegment := false, phase := .none }

theorem Work.takeAbort_feed (w : Work) : w.takeAbort.feed = w.feed.aborted := by
  simp only [Work.takeAbort, Work.removeSheetStops_frame, Work.setPhase_feed, Work.setUnder_feed,
    Work.removeCurrent_frame]
  rfl

theorem Work.setActive_groups (w : Work) (l : List FaultCode) :
    (w.setActive l).nozzle.groups = w.nozzle.groups := (w.setActive_onward l).nozzle.1

theorem Work.setPhase_none_raised (w : Work) : (w.setPhase .none).raised = w.raised := by
  simp only [Work.setPhase, Work.phaseEffects, Work.raiseCapIdle]
  (repeat' split) <;> rfl

/-- Of the ledgers and the queue an ABORT SHEET order taken makes what it makes of the queue. -/
theorem Work.takeAbort_queue (w : Work) :
    w.takeAbort.ink = w.removeCurrent.ink ∧ w.takeAbort.tally = w.removeCurrent.tally
      ∧ w.takeAbort.nozzle.groups = w.removeCurrent.nozzle.groups
      ∧ w.takeAbort.bands = w.removeCurrent.bands ∧ w.takeAbort.raised = w.removeCurrent.raised
      ∧ w.takeAbort.cover = true := by
  simp [Work.takeAbort, Work.removeSheetStops, Work.setActive_groups, Work.setPhase_none_raised]

theorem Work.takeAbort_active {w : Work} {f : FaultCode} (h : f ∈ w.takeAbort.faults.active) : f.sheetStop = false := by
  rw [Work.takeAbort, Work.removeSheetStops, Work.setActive_active] at h
  simpa using (List.mem_filter.1 h).2

theorem Work.removeCurrent_none {w : Work} (h : w.currentSheet = none) : w.removeCurrent = w := by
  simp [Work.removeCurrent, h]

theorem Work.removeCurrent_some {w : Work} {cur : Nat} (h : w.currentSheet = some cur) :
    w.removeCurrent
      = w.retirePrinting.putRecords (w.retirePrinting.bands.records.filter fun r => r.sheet ≠ cur) := by
  simp [Work.removeCurrent, h]

theorem State.currentSheet_some {s : State} {cur : Nat} :
    s.currentSheet = some cur ↔ s.feed.phase ≠ .none ∧ s.bands.sheetRef = some cur := by
  simp [State.currentSheet]

/-- What the removal of the current sheet's records leaves of the queue (R51, R57). -/
theorem Work.removeCurrent_records (w : Work) :
    (∀ x ∈ w.removeCurrent.bands.records, w.currentSheet ≠ some x.sheet)
      ∧ (∀ x ∈ w.removeCurrent.bands.records, x ∈ w.bands.records)
      ∧ (∀ x ∈ w.bands.records, w.currentSheet ≠ some x.sheet → x.state ≠ .printing →
          x ∈ w.removeCurrent.bands.records)
      ∧ w.removeCurrent.bands.sheetRef = w.bands.sheetRef := by
  cases h : w.currentSheet with
  | none =>
    rw [Work.removeCurrent_none h]
    exact ⟨by simp, fun _ => id, fun _ hx _ _ => hx, rfl⟩
  | some cur =>
    rw [Work.removeCurrent_some h]
    obtain ⟨hold, hstay, href⟩ := w.retirePrinting_records
    refine ⟨fun x hx => ?_, fun x hx => hold x (List.mem_filter.1 hx).1, fun x hx hne hp => ?_, href⟩
    · have hne : x.sheet ≠ cur := of_decide_eq_true (List.mem_filter.1 hx).2
      exact fun e => hne (Option.some.inj e).symm
    · exact List.mem_filter.2 ⟨hstay x hx hp, decide_eq_true fun e => hne (congrArg some e.symm)⟩

/-- A retirement raises UNDERRUN only where some channel cannot give its volume. -/
theorem Work.retire_raisesOnly (w : Work) (r : BandRecord) :
    Work.RaisesOnly (fun f => f = .tallyOverflow
      ∨ f = .underrun ∧ ∃ c, ¬ w.suffices c (w.wholeOf c (r.volume.get c))) w (w.retire r) :=
  (w.unqueue r).deductBand_raisesOnly r

/-- The removal of the current sheet raises TALLY OVERFLOW and UNDERRUN alone. -/
theorem Work.removeCurrent_raisesOnly (w : Work) :
    Work.RaisesOnly (fun f => f = .tallyOverflow ∨ f = .underrun) w w.removeCurrent := by
  have retired : Work.RaisesOnly (fun f => f = .tallyOverflow ∨ f = .underrun) w w.retirePrinting := by
    cases hp : w.printing with
    | none =>
      rw [Work.retirePrinting_none hp]
      exact .same rfl
    | some r =>
      rw [Work.retirePrinting_some hp]
      exact (w.retire_raisesOnly r).mono fun f hf => Or.imp_right And.left hf
  cases h : w.currentSheet with
  | none =>
    rw [Work.removeCurrent_none h]
    exact .same rfl
  | some cur =>
    rw [Work.removeCurrent_some h]
    exact retired.trans (.same rfl)

/-- Settles O27: the queue's part and the retirement come from `removeCurrent`, feed control's from `aborted`. -/
theorem abortSheetEndsTheSheet : Obligations.AbortSheetEndsTheSheet := by
  unfold Obligations.AbortSheetEndsTheSheet
  rintro s n ⟨hpin, hrun⟩
  have fits : s.abortFits n = true ↔ (s.feed.phase = .none ∨ s.feed.sheet.map SheetRecord.sheet = some n) := by
    simp [State.abortFits]
  refine ⟨fun hno => ?_, fun hyes => ?_⟩
  · have := completes_body (i := .abortSheet n) rfl hpin
    rwa [body_abortSheet_run hrun, if_neg (mt fits.1 hno),
      Work.finish_quiet rfl rfl rfl rfl rfl rfl rfl rfl rfl rfl rfl] at this
  refine ⟨_, completes_body rfl hpin, ?_⟩
  rw [body_abortSheet_run hrun, if_pos (fits.2 hyes)]
  obtain ⟨vink, vtally, vgroups, vbands, vraised, vcover⟩ := (Work.begin s).takeAbort_queue
  have vfeed := (Work.begin s).takeAbort_feed
  have vstops : ∀ f ∈ (Work.begin s).takeAbort.faults.active, f.sheetStop = false := fun _ => Work.takeAbort_active
  have vmode : (Work.begin s).takeAbort.mode = s.mode := by simp
  obtain ⟨hgone, hold, hstay, href⟩ := (Work.begin s).removeCurrent_records
  have raises := (Work.begin s).removeCurrent_raisesOnly
  generalize (Work.begin s).takeAbort = v at *
  have record : ∀ r ∈ (v.outcome .abortSheet n .accepted).finish.bands.records,
      ∃ x ∈ (Work.begin s).removeCurrent.bands.records, r.plan = x.plan := fun r hr => by
    simpa [vbands] using Work.finish_record hr
  have guard : (v.outcome .abortSheet n .accepted).finish.bands.guard = .line 0 := by
    rw [Work.finish_guard (w := v.outcome .abortSheet n .accepted) (.inl vcover), State.guardLine_none (by simp [vfeed, Feed.aborted])]
  simp only [Work.finish_feed_fields, Work.finish_bands, Work.outcome_frame, vfeed, vbands, href, Feed.aborted,
    Feed.uncaptured, Work.begin_state, true_and]
  refine ⟨by simp [State.shows, Work.finish_link, Work.outcome], by simp [vmode], guard, fun r hr hp => ?_,
    fun r hr hs hp => ?_, fun r hp hr hs c => ?_, fun hp => ?_, fun f hf => ?_⟩
  · obtain ⟨x, hx, he⟩ := record r hr
    rw [(BandRecord.plan_fields he).2.1]
    exact fun e => hgone x hx (State.currentSheet_some.2 ⟨hp, e⟩)
  · refine Work.finish_record_of ?_
    rw [(Work.outcome_frame ..).2.2.1, vbands]
    refine hstay r hr (fun e => ?_) hp
    obtain ⟨hphase, href⟩ := State.currentSheet_some.1 e
    exact hs.elim hphase (· href)
  · have hcur : (Work.begin s).currentSheet = some r.sheet := State.currentSheet_some.2 ⟨hp, hs⟩
    rw [Work.removeCurrent_some hcur, Work.retirePrinting_some hr] at vink vtally vgroups vraised
    have retired := Work.retire_retired (s := s) (w := Work.begin s) rfl rfl rfl rfl r
    have kept : (v.outcome .abortSheet n .accepted).Retired s r :=
      retired.congr (by simp [vink]) (by simp [vtally]) (by simp [vgroups]) fun x hx => by simpa [vraised] using hx
    exact kept.retires c
  · have hr : (Work.begin s).removeCurrent.ink = s.ink ∧ (Work.begin s).removeCurrent.tally = s.tally
        ∧ (Work.begin s).removeCurrent.nozzle.groups = s.nozzle.groups := by
      cases h : (Work.begin s).currentSheet with
      | none => simp [Work.removeCurrent_none h]
      | some cur =>
        rw [Work.removeCurrent_some h, Work.retirePrinting_none hp]
        exact ⟨rfl, rfl, rfl⟩
    obtain ⟨hi, ht, hn⟩ := hr
    exact ⟨by simp [vink, hi], by simp [vtally, ht], by simp [vgroups, hn]⟩
  · have only : Work.RaisesOnly (fun f => f = .tallyOverflow ∨ f = .underrun) (Work.begin s)
        (v.outcome .abortSheet n .accepted) := raises.trans (.same vraised)
    rcases Work.finish_active_only only hf with h | (rfl | rfl) | ⟨rfl, -⟩
    · exact vstops f h
    all_goals rfl

end Sys2Proof.Machine
end

section
/-! PROOFS. The retirement of the one PRINTING record at its end position. -/

namespace Sys2Proof.Machine

/-! ### What a retirement leaves and calls for -/

theorem Work.giveUp_inForce (w : Work) (k : Amount) (c : Channel) (whole residue blind : Nat) :
    (w.giveUp k c whole residue blind).tally.inForce = w.tally.inForce := by
  simp only [Work.giveUp, Work.takeUnknown, Work.takeWhole]
  (repeat' split) <;> rfl

theorem Work.giveUp_classes {w : Work} (k : Amount) (c : Channel) (whole residue blind : Nat)
    (h : w.classes = true ∨ w.enabled c = true ∧ (w.ink.get c).state = .known) :
    (w.giveUp k c whole residue blind).classes = true := by
  simp only [Work.giveUp, Work.takeUnknown, Work.takeWhole]
  (repeat' split) <;> simp_all [Work.addTally, Work.adjust, Work.putTally, Work.raise, Work.putInk]

theorem Work.retire_inForce (w : Work) (r : BandRecord) : (w.retire r).tally.inForce = w.tally.inForce := by
  have run : ((w.unqueue r).deductBand r).tally.inForce = w.tally.inForce := by
    rw [Work.deductBand_eq]
    refine foldl_invariant _ (fun v : Work => v.tally.inForce = w.tally.inForce) (fun v c h => ?_) _ _ rfl
    rw [Work.bandAt_eq]
    split
    · exact (v.giveUp_inForce _ _ _ _ _).trans h
    · exact h
  exact run

/-- The retirement of a record works out the classes anew where an enabled KNOWN channel gives it ink. -/
theorem Work.retire_classes {w : Work} {r : BandRecord} {c : Channel} (hon : w.enabled c = true)
    (hk : (w.ink.get c).state = .known) : (w.retire r).classes = true := by
  have step : ∀ (v : Work) d, (v.classes = true ∨ v.enabled d = true ∧ (v.ink.get d).state = .known) →
      (Work.bandAt r v d).classes = true := fun v d h => by
    rw [Work.bandAt_eq]
    split
    · exact Work.giveUp_classes _ _ _ _ _ h
    · rename_i hoff
      exact h.resolve_right fun k => hoff k.1
  obtain ⟨v, hm, hi, keep⟩ := (Work.bandAt_byChannel r).reaches (w.unqueue r) c
  exact keep (fun v => v.classes = true) (fun v d h => step v d (.inl h))
    (step v c (.inr ⟨(State.enabled_congr hm c).trans hon, by rw [hi]; exact hk⟩))

/-- With no record PRINTING the start test works on the queue alone: nothing retires, and no record is new. -/
theorem Work.startAt_quiet {w : Work} (h : w.printing = none) (base pos : Nat) :
    (w.startAt base pos).ink = w.ink ∧ (w.startAt base pos).tally = w.tally
      ∧ (w.startAt base pos).nozzle = w.nozzle ∧ (w.startAt base pos).raised = w.raised
      ∧ (w.startAt base pos).classes = w.classes
      ∧ (w.startAt base pos).bands.lastRetired = w.bands.lastRetired
      ∧ ∀ x ∈ (w.startAt base pos).bands.records, ∃ y ∈ w.bands.records, x.plan = y.plan := by
  have keep : ∀ x ∈ w.bands.records, ∃ y ∈ w.bands.records, x.plan = y.plan := fun x hx => ⟨x, hx, rfl⟩
  simp only [Work.startAt]
  split
  · exact ⟨rfl, rfl, rfl, rfl, rfl, rfl, keep⟩
  · split
    · split
      · refine ⟨rfl, rfl, rfl, rfl, rfl, rfl, fun x hx => ?_⟩
        obtain ⟨y, hy, rfl⟩ := List.mem_map.1 hx
        refine ⟨y, hy, ?_⟩
        split <;> rfl
      · cases hc : w.currentSheet with
        | none =>
          rw [Work.removeCurrent_none hc]
          exact ⟨rfl, rfl, rfl, rfl, rfl, rfl, keep⟩
        | some cur =>
          rw [Work.removeCurrent_some hc, Work.retirePrinting_none h]
          exact ⟨rfl, rfl, rfl, rfl, rfl, rfl, fun x hx => keep x (List.mem_filter.1 hx).1⟩
    · exact ⟨rfl, rfl, rfl, rfl, rfl, rfl, keep⟩

/-! ### The tests of a position event after those on the queue (R81, R82, R85) -/

theorem Work.setUnder_classes {w : Work} (b : Bool) (h : w.classes = true) : (w.setUnder b).classes = true := by
  simp only [Work.setUnder]
  (repeat' split) <;> simp [Work.request, h]

theorem Work.setPhase_classes {w : Work} (p : Phase) (h : w.classes = true) : (w.setPhase p).classes = true := by
  simp only [Work.setPhase, Work.phaseEffects, Work.raiseCapIdle]
  (repeat' split) <;> simp [Work.request, Work.withdraw, h]

theorem Work.slipTest_raisesOnly (w : Work) : Work.RaisesOnly (· = .slip) w w.slipTest := by
  simp only [Work.slipTest]
  split
  · exact .same rfl
  · split
    · exact .trans (.same rfl) (Work.raise_raisesOnly (P := (· = .slip)) _ _ rfl)
    · exact .same rfl

/-- The tests on the sheet's place and on slip raise SLIP alone, and leave the classes to be worked out. -/
theorem Work.sheetTests_raisesOnly (w : Work) :
    Work.RaisesOnly (· = .slip) w w.underTest.leaveTest.vacuumTest.slipTest := by
  have left : Work.RaisesOnly (· = .slip) w.underTest w.underTest.leaveTest := by
    simp only [Work.leaveTest]
    split
    · refine .trans (.same (by simp)) (.mono (Work.setPhase_raisesOnly _ _) fun f hf => ?_)
      exact absurd hf.2 (by simp)
    · exact .same rfl
  have under : Work.RaisesOnly (· = .slip) w w.underTest := .same (by simp)
  exact (under.trans left).trans (.trans (.same (by simp)) (Work.slipTest_raisesOnly _))

theorem Work.sheetTests_classes {w : Work} (h : w.classes = true) :
    w.underTest.leaveTest.vacuumTest.slipTest.classes = true := by
  have under : w.underTest.classes = true := by
    unfold Work.underTest
    split
    · exact Work.setUnder_classes _ h
    · exact h
  have left : w.underTest.leaveTest.classes = true := by
    generalize w.underTest = v at under
    unfold Work.leaveTest
    split
    · exact Work.setPhase_classes _ (Work.setUnder_classes _ under)
    · exact under
  simpa using left

/-- The encoder count of a sheet within its range, as far as the tests on the queue. -/
def Work.stepped (w : Work) : Work :=
  { w with feed := { w.feed with position := w.feed.position + 1 }, drive := true }

/-- An encoder count at which the one PRINTING record ends: it retires, and the next record may start. -/
theorem Work.positionEvent_retires {s : State} {r : BandRecord} {base : Nat} (hp : s.printing = some r)
    (hb : s.sheetBase = some base) (hpos : s.feed.position < 16777215)
    (hend : base + 4 * r.endLine ≤ s.feed.position + 1) :
    (Work.begin s).positionEvent
      = ((((Work.begin s).stepped.retire r).startAt base (s.feed.position + 1)).underTest.leaveTest).vacuumTest.slipTest := by
  have tests : (Work.begin s).stepped.positionTests
      = ((Work.begin s).stepped.retire r).startAt base (s.feed.position + 1) := by
    have hp' : (Work.begin s).stepped.printing = some r := hp
    have hb' : (Work.begin s).stepped.sheetBase = some base := hb
    have hend' : base + 4 * r.endLine ≤ (Work.begin s).stepped.feed.position := hend
    simp only [Work.positionTests, Work.retireAt, hb', hp', if_pos hend']
    rfl
  refine (if_pos (show (Work.begin s).feed.position < Config.maxPosition from hpos)).trans ?_
  exact congrArg (fun v : Work => v.underTest.leaveTest.vacuumTest.slipTest) tests

/-! ### The class of a channel below its refill mark (R24, R25) -/

theorem State.effectiveClass_ge (s : State) (c : Channel) {d : Nat} (waited : Nat) (h : 1 ≤ d) :
    1 ≤ s.effectiveClass c d waited := by
  unfold State.effectiveClass
  split
  · simp
  · split
    · exact Nat.le_min.2 ⟨by simp, by simp⟩
    · exact h

theorem State.deficitClass_ge {s : State} {c : Channel} (hon : s.enabled c = true)
    (h : (s.ink.get c).estimate < (s.settingsOf c).refillMark) : 1 ≤ s.deficitClass c := by
  unfold State.deficitClass
  (repeat' split) <;> simp_all

/-- An enabled IDLE channel of effective class 0, FULL DRY, that ends an event below its refill mark is WANT or
OPEN, or HELD by a purge that now runs. -/
theorem Work.finish_wants {w : Work} {c : Channel} (hc : w.classes = true) (hon : w.enabled c = true)
    (hi : (w.refill.get c).state = .idle) (h0 : (w.refill.get c).effective = 0) (hf : (w.ink.get c).full.state = .dry)
    (hm : (w.ink.get c).estimate < (w.settingsOf c).refillMark) :
    (w.finish.refill.get c).state = .want ∨ (w.finish.refill.get c).state = .opened
      ∨ w.finish.purgeRunning = true ∧ (w.finish.refill.get c).state = .held := by
  rcases Work.finish_refill_settled hc c with ⟨hs, hr⟩ | held
  · rw [Work.overfillTests_refill, if_neg fun h => by simp [Work.overfills, hi] at h] at hr
    have hon' : w.chosen.enabled c = true := (State.enabled_congr (by simp) c).trans hon
    have hd : 1 ≤ w.chosen.deficitClass c :=
      State.deficitClass_ge hon' (by simpa [State.settingsOf] using hm)
    have wants := Work.settledChannel_wants (w := w.chosen) (c := c) (by rw [hr]; exact hi) hon' (by simpa using hf)
      (by rw [hr]; exact h0) (w.chosen.effectiveClass_ge c _ hd)
    rw [hs]
    exact wants.imp_right .inl
  · exact .inr (.inr held)

/-- Settles O52: the count retires the record, and the tests that follow it touch no ledger. -/
theorem printingRecordRetires : Obligations.PrintingRecordRetires := by
  unfold Obligations.PrintingRecordRetires
  intro s r base hpin hp hothers hb hpos hend
  refine ⟨_, completes_body rfl hpin, ?_⟩
  rw [show body .encoderCount (Work.begin s) = (Work.begin s).positionEvent from rfl]
  have he := Work.positionEvent_retires hp hb hpos hend
  have hbands := (Work.begin s).stepped.retire_bands r
  have hnone : ((Work.begin s).stepped.retire r).printing = none := by
    refine List.find?_eq_none.2 fun x hx => ?_
    rw [hbands] at hx
    simpa using (hothers x hx).1
  obtain ⟨si, st, sn, sr, sc, sl, srec⟩ := Work.startAt_quiet hnone base (s.feed.position + 1)
  have raises := (((Work.begin s).stepped.retire r).startAt base (s.feed.position + 1)).sheetTests_raisesOnly
  have classes := Work.sheetTests_classes (w := ((Work.begin s).stepped.retire r).startAt base (s.feed.position + 1))
  have retired : ((Work.begin s).stepped.retire r).Retired s r :=
    Work.retire_retired (s := s) (w := (Work.begin s).stepped) rfl rfl rfl rfl r
  have kept : (Work.begin s).positionEvent.Retired s r := by
    rw [he]
    exact retired.congr (by simp [si]) (by simp [st]) (by simp [sn]) fun x hx => raises.1 x (by rwa [sr])
  have retires := kept.retires
  refine ⟨?_, fun hr => ?_, fun c => (retires c).1, fun hgives hu => ?_, retires, fun c hon hlt => ?_,
    fun c hon hk hi h0 hf hm => ?_⟩
  · rw [Work.finish_bands _ |>.2, he]
    simp [sl, hbands]
  · obtain ⟨x, hx, hplan⟩ := Work.finish_record hr
    rw [he] at hx
    obtain ⟨y, hy, hplan'⟩ := srec x (by simpa using hx)
    rw [hbands] at hy
    exact (hothers y hy).2 (BandRecord.plan_fields (hplan.trans hplan')).1.symm
  · have only : Work.RaisesOnly (fun f => f ≠ .underrun ∧ f ≠ .overfill) (Work.begin s)
        (Work.begin s).positionEvent := by
      rw [he]
      have stepped : Work.RaisesOnly (fun f => f ≠ .underrun ∧ f ≠ .overfill) (Work.begin s) (Work.begin s).stepped :=
        .same rfl
      refine stepped.trans (.trans (.mono ((Work.begin s).stepped.retire_raisesOnly r) fun f hf => ?_)
        (.trans (.same sr) (raises.mono fun f hf => by simp [show f = .slip from hf])))
      rcases hf with rfl | ⟨-, c, hc⟩
      · simp
      · exact absurd (hgives c) hc
    rcases Work.finish_active_only only hu with h | h | h
    · simpa using h
    · exact absurd rfl h.1
    · cases h.1
  · rw [((retires c).2.1 hon).1]
    exact Nat.min_eq_right hlt
  · have hc : (Work.begin s).positionEvent.classes = true := by
      rw [he]
      exact classes (sc.trans (Work.retire_classes hon hk))
    have hink := (kept.gave c).ink
    have hset : (Work.begin s).positionEvent.settingsOf c = s.settingsOf c := by
      have htally : (Work.begin s).positionEvent.tally = ((Work.begin s).stepped.retire r).tally := by
        rw [he]
        simpa using st
      rw [State.settingsOf, htally, Work.retire_inForce]
      rfl
    refine Work.finish_wants hc ?_ ?_ ?_ ?_ ?_
    · exact (State.enabled_congr (by simp) c).trans hon
    · simpa using hi
    · simpa using h0
    · rw [hink]
      simp [InkChannel.gave, hon, hk, hf]
    · rw [hset]
      simpa using hm

end Sys2Proof.Machine
end

section
/-! PROOFS. The answers of the head driver: a RESULT, and the DONE of a spit, a check and a purge. -/

namespace Sys2Proof.Machine

/-! ### The service unit up to the arbiter's choice -/

/-- Of the service unit nothing but pending flags has changed, each withdrawn, or set where `P` allows it. -/
def Work.Rescreened (P : Prop) (v w : Work) : Prop :=
  ∃ p, w.service = { v.service with pending := p }
    ∧ ∀ src, p.get src = true → v.service.pending.get src = true ∨ P

theorem Work.Rescreened.of_eq {P : Prop} {v w : Work} (h : w.service = v.service) : v.Rescreened P w :=
  ⟨v.service.pending, h, fun _ => .inl⟩

theorem Work.Rescreened.trans {P : Prop} {u v w : Work} (h : u.Rescreened P v) (k : v.Rescreened P w) :
    u.Rescreened P w := by
  obtain ⟨p, hs, hp⟩ := h
  obtain ⟨q, ks, kq⟩ := k
  refine ⟨q, by rw [ks, hs], fun src hq => (kq src hq).elim (fun h => ?_) .inr⟩
  rw [hs] at h
  exact hp src h

theorem Work.withdrawRecovery_rescreened (P : Prop) (w : Work) : w.Rescreened P w.withdrawRecovery := by
  unfold Work.withdrawRecovery
  split
  · refine ⟨_, rfl, fun src hs => .inl ?_⟩
    rw [PerSource.get_set] at hs
    split at hs
    · cases hs
    · exact hs
  · exact .of_eq rfl

@[simp] theorem Work.withdrawRecovery_nozzle (w : Work) : w.withdrawRecovery.nozzle = w.nozzle := by
  unfold Work.withdrawRecovery
  split <;> rfl

theorem Work.screenRecovery_rescreened (P : Prop) (w : Work) :
    w.Rescreened P w.screenRecovery ∧ w.screenRecovery.nozzle.blocked = w.nozzle.blocked :=
  ⟨.trans (.of_eq rfl) (Work.withdrawRecovery_rescreened P _), by simp [Work.screenRecovery, Work.putLadders]⟩

theorem Work.marksChanged_rescreened (P : Prop) (w : Work) (c : Channel) (x : RefillChannel) :
    w.Rescreened P (w.marksChanged c x) ∧ (w.marksChanged c x).nozzle.blocked = w.nozzle.blocked := by
  simp only [Work.marksChanged]
  split
  · exact w.screenRecovery_rescreened P
  · exact ⟨.of_eq rfl, rfl⟩

theorem Work.overfillTest_rescreened (P : Prop) (w : Work) (c : Channel) :
    w.Rescreened P (w.overfillTest c) ∧ (w.overfillTest c).nozzle.blocked = w.nozzle.blocked := by
  by_cases ho : w.overfills c
  · rw [Work.overfillTest_on ho]
    obtain ⟨h, hb⟩ := ((w.putRefill c (w.refill.get c).lock).raise .overfill (.channel c)).marksChanged_rescreened P c
      (w.refill.get c)
    exact ⟨.trans (.of_eq rfl) h, hb⟩
  · rw [Work.overfillTest_off ho]
    exact ⟨.of_eq rfl, rfl⟩

theorem Work.overfillTests_rescreened (P : Prop) (w : Work) :
    w.Rescreened P w.overfillTests ∧ w.overfillTests.nozzle.blocked = w.nozzle.blocked := by
  have step : ∀ (v : Work) (c : Channel), (w.Rescreened P v ∧ v.nozzle.blocked = w.nozzle.blocked) →
      w.Rescreened P (v.overfillTest c) ∧ (v.overfillTest c).nozzle.blocked = w.nozzle.blocked := fun v c hv =>
    ⟨hv.1.trans (v.overfillTest_rescreened P c).1, (v.overfillTest_rescreened P c).2.trans hv.2⟩
  have begun : w.Rescreened P w ∧ w.nozzle.blocked = w.nozzle.blocked := ⟨.of_eq rfl, rfl⟩
  have run := foldl_invariant (fun (v : Work) c => v.overfillTest c)
    (fun v => w.Rescreened P v ∧ v.nozzle.blocked = w.nozzle.blocked) step Channel.all w begun
  rw [Work.overfillTests]
  exact run

/-- A new active set raises RECOVERY only where the station was blocked. -/
theorem Work.setActive_rescreened (w : Work) (l : List FaultCode) :
    w.Rescreened (w.nozzle.blocked = true) (w.setActive l) := by
  simp only [Work.setActive]
  split
  · exact .trans (v := { w with
      faults := { w.faults with active := l }, nozzle := { w.nozzle with blocked := _ }, drive := true })
      (.of_eq rfl) (Work.withdrawRecovery_rescreened _ _)
  · split
    · rename_i h
      simp only [Bool.and_eq_true] at h
      unfold Work.raiseRecovery
      split
      · exact ⟨_, rfl, fun _ _ => .inr h.2⟩
      · exact .of_eq rfl
    · exact .of_eq rfl

/-- The stages ahead of the arbiter's choice leave the service unit but for pending flags, none of them new where
the station was not blocked. -/
theorem Work.guarded_rescreened (w : Work) :
    w.Rescreened (w.nozzle.blocked = true) w.overfillTests.faultStage.coverStage.guardStage := by
  obtain ⟨ho, hb⟩ := w.overfillTests_rescreened (w.nozzle.blocked = true)
  refine ho.trans ?_
  rw [← hb]
  generalize w.overfillTests = v
  have fault : v.Rescreened (v.nozzle.blocked = true) v.faultStage := by
    simp only [Work.faultStage]
    split
    · exact .of_eq rfl
    · exact Work.setActive_rescreened { v with faults := _ } _
  obtain ⟨p, hs, hp⟩ := fault
  exact ⟨p, by simpa using hs, hp⟩

theorem Work.chosen_capStands {b : Bool} {w : Work} (h : w.CapStands b) : w.chosen.CapStands b := by
  obtain ⟨p, hs, -⟩ := w.guarded_rescreened
  exact (arbiterClosed_capStands b).arbiterStage (h.congr (by rw [hs]) (by rw [hs]) (by rw [hs]))

theorem Work.finish_capped {b : Bool} {w : Work} (h : w.CapStands b) : w.finish.service.capped = b := by
  rw [w.finish_chosen.2.2.1]
  exact (Work.chosen_capStands h).1

/-! ### With nothing in hand no purge starts (R105, R109) -/

/-- No purge is running, on the stack or pending: at most UNCAP-NEED is. -/
def Work.NoPurge (w : Work) : Prop :=
  (∀ src, w.service.pending.get src = true → src = .uncapNeed)
    ∧ (∀ q ∈ w.service.stack, ∀ a ∈ q.actions, a = .uncap) ∧ w.purgeRunning = false

theorem Work.NoPurge.congr {v w : Work} (h : v.NoPurge)
    (hp : ∀ src, w.service.pending.get src = true → v.service.pending.get src = true ∨ src = .uncapNeed)
    (hq : ∀ q ∈ w.service.stack, ∀ a ∈ q.actions, a = .uncap) (hr : w.purgeRunning = v.purgeRunning) :
    w.NoPurge :=
  ⟨fun src hs => (hp src hs).elim (h.1 src) id, hq, hr.trans h.2.2⟩

theorem mem_popAction {l : List Sequence} {q : Sequence} (h : q ∈ popAction l) :
    ∃ q' ∈ l, ∀ a ∈ q.actions, a ∈ q'.actions := by
  cases l with
  | nil => simp [popAction] at h
  | cons x l =>
    simp only [popAction] at h
    split at h
    · exact ⟨q, by simp [h], fun _ => id⟩
    · rename_i acts hacts
      rcases List.mem_cons.1 h with rfl | h
      · exact ⟨x, by simp, fun a ha => List.mem_of_mem_tail ha⟩
      · exact ⟨q, by simp [h], fun _ => id⟩

theorem arbiterClosed_noPurge : ArbiterClosed Work.NoPurge where
  request h := h.congr (fun src hs => by
    rw [Work.request, PerSource.get_set] at hs
    split at hs
    · exact .inr ‹_›
    · exact .inl hs) h.2.1 rfl
  screen {w} h := by
    obtain ⟨⟨p, hs, hp⟩, -⟩ := w.screenRecovery_rescreened False
    exact h.congr (fun src ha => .inl ((hp src (by rwa [hs] at ha)).resolve_right id)) (by rw [hs]; exact h.2.1)
      (by simp [State.purgeRunning, hs])
  push {w src acts ch} h hs hacts hch := by
    obtain rfl := h.1 src hs
    have hch : ch = none := by simpa using hch
    subst hch hacts
    refine h.congr (fun src hs => ?_) (fun q hq => ?_) rfl
    · simp only [Work.requestStarted, Work.push, PerSource.get_set] at hs
      split at hs
      · cases hs
      · exact .inl hs
    · simp only [Work.requestStarted, Work.push, List.mem_cons] at hq
      rcases hq with rfl | hq
      · simp [State.requestActions]
      · exact h.2.1 q hq
  launch {w a} h _ ha := by
    refine ⟨h.1, h.2.1, ?_⟩
    rcases ha with rfl | ⟨q, qs, acts, hq, hacts⟩
    · rfl
    · obtain rfl := h.2.1 q (by simp [hq]) a (by simp [hacts])
      rfl
  hold h _ := h
  command {w p} h := h.congr (fun _ hs => .inl (by
      unfold Work.commandSled at hs
      split at hs <;> exact hs)) (by
      unfold Work.commandSled
      split <;> exact h.2.1) (by simp [State.purgeRunning])
  stage {w g} h := h.congr (fun _ => .inl) h.2.1 (by
    simp only [State.purgeRunning, Work.setStage_current]
    cases w.service.current <;> rfl)
  head {w k} h := h.congr (fun _ => .inl) h.2.1 (by
    simp only [State.purgeRunning, Work.sendHead, Work.setStage_current]
    cases w.service.current <;> rfl)
  wiper h := h
  ended h _ := ⟨h.1, h.2.1, rfl⟩
  pop h := h.congr (fun _ => .inl) (fun q hq a ha => by
    obtain ⟨q', hq', hsub⟩ := mem_popAction hq
    exact h.2.1 q' hq' a (hsub a ha)) rfl
  capped h _ := h
  idle h := h

theorem State.purgeRunning_congr {s t : State} (h : s.service.current = t.service.current) :
    s.purgeRunning = t.purgeRunning := by simp [State.purgeRunning, h]

theorem Work.chosen_noPurge {w : Work} (h : w.NoPurge) (hb : w.nozzle.blocked = false) : w.chosen.NoPurge := by
  obtain ⟨p, hs, hp⟩ := w.guarded_rescreened
  refine arbiterClosed_noPurge.arbiterStage (h.congr (fun src ha => .inl ?_) (by rw [hs]; exact h.2.1)
    (State.purgeRunning_congr (by rw [hs])))
  rw [hs] at ha
  exact (hp src ha).resolve_right (by simp [hb])

/-! ### A RESULT and a DONE (R94 to R97) -/

/-- The service unit with its request answered. -/
def Work.answered (w : Work) : Work := { w with service := { w.service with head := none } }

theorem body_headDone_answers {s : State} {h : HeadRequest} (hh : s.service.head = some h) :
    body (.headDone h.number) (Work.begin s) = (Work.begin s).headAnswered := by
  simp only [body, Work.begin_state, hh, if_true]

theorem Work.headAnswered_park {w : Work} {a : CurrentAction} (hc : w.service.current = some a)
    (ha : a.action = .gapSpit ∨ ∃ g, a.action = .check g) : w.headAnswered = w.answered.goPark := by
  rcases ha with ha | ⟨g, ha⟩ <;> simp only [Work.headAnswered, hc, ha, Work.answered]

theorem Work.headAnswered_spit {w : Work} {a : CurrentAction} (hc : w.service.current = some a)
    (ha : a.action = .sheetSpit) : w.headAnswered = w.answered.endAction.popStack.spitDone a := by
  have hc' : w.answered.service.current = some a := hc
  have answers : w.headAnswered = w.answered.complete := by simp only [Work.headAnswered, hc, ha, Work.answered]
  rw [answers, Work.complete, hc']
  simp only [ha]

theorem Work.headAnswered_purge {w : Work} {a : CurrentAction} {heavy : Bool} {set : ChannelSet}
    (hc : w.service.current = some a) (ha : a.action = .purge heavy set) :
    w.headAnswered = (w.answered.endAction.popStack.setCapped true).purgeDone set a.volumes := by
  have hc' : w.answered.service.current = some a := hc
  have answers : w.headAnswered = w.answered.complete := by simp only [Work.headAnswered, hc, ha, Work.answered]
  rw [answers, Work.complete, hc']
  simp only [ha]

/-- The sled is away from PARK: the last leg only begins. -/
theorem Work.goPark_away {w : Work} (hs : w.service.sled ≠ .standing .park) (hl : w.service.closed ≠ some .park) :
    w.goPark = { w.setStage .inbound with
      service := { (w.setStage .inbound).service with motion := some .park }, drive := true } := by
  have away : w.sledThere .park = false := by simp [State.sledThere, hs, hl]
  have away' : (w.setStage .inbound).sledThere .park = false := away
  simp only [Work.goPark, Work.commandSled, away, away', Bool.false_eq_true, if_false]

/-- An event that calls for the FHOLD drive alone leaves all but feed control and the early request. -/
theorem Work.finish_drive {w : Work} (hi : w.ink = w.pre.ink) (hr : w.raised = []) (hc : w.cover = false)
    (hg : w.guardDue = false) (hl : w.classes = false) (hp : w.peersHeard = false) (hb : w.boundary = false) :
    w.finish.service = w.service ∧ w.finish.bands = w.bands := by
  obtain ⟨-, -, hbands, -, hservice, -⟩ := w.finish_settled
  rw [hbands, hservice, Work.settle_drive hi hr hc hg hl hp hb]
  simp

/-! ### The purge's hold (R37) -/

theorem RefillChannel.released_state (x : RefillChannel) : x.released.state ≠ .held := by
  unfold RefillChannel.released
  split
  · dsimp only
    (repeat' split) <;> simp
  · assumption

theorem RefillChannel.lock_state {x : RefillChannel} (h : x.state ≠ .held) : x.lock.state ≠ .held := by
  unfold RefillChannel.lock
  split <;> simp_all

/-- A channel that leaves the body out of HELD stays out where no purge runs at the end of the event. -/
theorem Work.finish_not_held {w : Work} {c : Channel} (h : (w.refill.get c).state ≠ .held)
    (hp : w.chosen.purgeRunning = false) : (w.finish.refill.get c).state ≠ .held := by
  obtain ⟨x, hx, settles⟩ := w.finish_refill_get c
  refine fun he => ?_
  have hheld := settles.held he
  rcases hx with rfl | ⟨hr, -⟩
  · rw [Work.overfillTests_refill] at hheld
    split at hheld
    · exact RefillChannel.lock_state h hheld
    · exact h hheld
  · simp [hp] at hr

theorem Work.releaseRefill_get {w : Work} (hrun : w.mode.mode = .run) (hp : w.purgeRunning = false) {c : Channel}
    (hon : w.enabled c = true) : w.releaseRefill.refill.get c = (w.refill.get c).released := by
  simp [Work.releaseRefill, State.inRun, hrun, hp, hon]

/-! ### The statement -/

/-- A completed spit, from a point of the event where the ledgers are as it began. -/
theorem Work.spitDone_deducts {s : State} {w : Work} (hi : w.ink = s.ink) (ht : w.tally = s.tally)
    (hm : w.mode = s.mode) (a : CurrentAction) (c : Channel) :
    DeductsVolume s (w.spitDone a).finish .spit c (a.volumes.get c) := by
  have gave := (w.deductSpit_gave a.volumes c).since hi ht hm
  rw [hi] at gave
  have done := gave.congr (w := w.spitDone a) rfl rfl fun _ hx => hx
  exact done.deducts

theorem Work.purgeDone_gave {s : State} {w : Work} (hi : w.ink = s.ink) (ht : w.tally = s.tally) (hm : w.mode = s.mode)
    {set : ChannelSet} (volumes : PerChannel Nat) {c : Channel} (hset : set.get c = true) :
    (w.purgeDone set volumes).Gave s .purge c (volumes.get c) (s.ink.get c).residue (volumes.get c) := by
  have gave := (w.deductPurges_gave set volumes hset).since hi ht hm
  rw [hi] at gave
  exact gave.congr (by simp [Work.purgeDone]) (by simp [Work.purgeDone]) fun x hx => by
    unfold Work.purgeDone Work.releaseRefill
    split <;> exact hx

/-- The action that a DONE has completed is off the stack, its request answered. -/
def Work.doneAction (w : Work) : Work := w.answered.endAction.popStack

@[simp] theorem Work.doneAction_frame (w : Work) :
    w.doneAction.ink = w.ink ∧ w.doneAction.tally = w.tally ∧ w.doneAction.mode = w.mode
      ∧ w.doneAction.refill = w.refill ∧ w.doneAction.nozzle = w.nozzle
      ∧ w.doneAction.service.capped = w.service.capped ∧ w.doneAction.service.sled = w.service.sled
      ∧ w.doneAction.service.closed = w.service.closed ∧ w.doneAction.service.current = none
      ∧ w.doneAction.service.pending = w.service.pending
      ∧ w.doneAction.service.stack = popAction w.service.stack :=
  ⟨rfl, rfl, rfl, rfl, rfl, rfl, rfl, rfl, rfl, rfl, rfl⟩

@[simp] theorem Work.setCapped_service (w : Work) (b : Bool) :
    (w.setCapped b).service = { w.service with capped := b } := rfl

/-- The DONE of a sheet spit. -/
theorem sheetSpit_done {s : State} {h : HeadRequest} {a : CurrentAction} (hpin : s.mode.resetPin = false)
    (hh : s.service.head = some h) (hc : s.service.current = some a) (ha : a.action = .sheetSpit) :
    ∃ t, Completes (.headDone h.number) s t
      ∧ t.keepWet.pointer = (a.block + 1) % 48 ∧ t.mode = s.mode
      ∧ (∀ c, DeductsVolume s t .spit c (a.volumes.get c))
      ∧ (s.service.capped = false → s.service.sled = .standing .park →
          s.service.closed ≠ some .cap → t.service.capped = false) := by
  have hbody : (Work.begin s).headAnswered = (Work.begin s).doneAction.spitDone a :=
    Work.headAnswered_spit (w := Work.begin s) hc ha
  refine ⟨_, completes_body rfl hpin, ?_⟩
  rw [body_headDone_answers hh, hbody]
  have pointer : ((Work.begin s).doneAction.spitDone a).finish.keepWet.pointer = (a.block + 1) % 48 := by
    rw [Work.finish_chosen _ |>.2.1, (Work.chosen_onward _).keepWet.2.1]
    rfl
  refine ⟨pointer, by simp, Work.spitDone_deducts (s := s) (w := (Work.begin s).doneAction) rfl rfl rfl a, fun hcap hsled hclosed => ?_⟩
  have stands : ((Work.begin s).doneAction.spitDone a).CapStands false := by
    simp [Work.CapStands, Work.spitDone, flipPlace, hcap, hsled, hclosed]
  exact Work.finish_capped stands

/-- The DONE of a purge. -/
theorem purge_done {s : State} {h : HeadRequest} {a : CurrentAction} {heavy : Bool} {set : ChannelSet}
    (hpin : s.mode.resetPin = false) (hh : s.service.head = some h) (hc : s.service.current = some a)
    (ha : a.action = .purge heavy set) :
    ∃ t, Completes (.headDone h.number) s t ∧ t.mode = s.mode
      ∧ (∀ c, set.get c = true →
          Deducts s t .purge c (a.volumes.get c) (s.ink.get c).residue (a.volumes.get c))
      ∧ (∀ c, set.get c = false →
          t.ink.get c = s.ink.get c ∧ t.tally.channels.get c = s.tally.channels.get c)
      ∧ (s.service.sled = .standing .cap → s.service.closed ≠ some .park →
          t.service.capped = true)
      ∧ (s.mode.mode = .run → s.nozzle.blocked = false → s.onlyAction →
          ∀ c, s.enabled c = true → (t.refill.get c).state ≠ .held) := by
  have hbody : (Work.begin s).headAnswered = ((Work.begin s).doneAction.setCapped true).purgeDone set a.volumes :=
    Work.headAnswered_purge (w := Work.begin s) hc ha
  refine ⟨_, completes_body rfl hpin, ?_⟩
  rw [body_headDone_answers hh, hbody]
  refine ⟨by simp, fun c hset => ?_, fun c hset => ?_, fun hsled hclosed => ?_, fun hrun hb honly c hon => ?_⟩
  · have gave := Work.purgeDone_gave (s := s) (w := (Work.begin s).doneAction.setCapped true) rfl rfl rfl a.volumes hset
    exact gave.deducts
  · have same := ((Work.begin s).doneAction.setCapped true).deductPurges_unlisted set a.volumes hset
    simpa [Work.purgeDone] using same
  · have stands : (((Work.begin s).doneAction.setCapped true).purgeDone set a.volumes).CapStands true := by
      simp [Work.CapStands, flipPlace, hsled, hclosed]
    exact Work.finish_capped stands
  · obtain ⟨hpending, q, hstack, hlen⟩ := honly
    have idle : (((Work.begin s).doneAction.setCapped true).deductPurges set a.volumes).purgeRunning = false := by
      simp [State.purgeRunning]
    refine Work.finish_not_held ?_ (Work.chosen_noPurge ⟨fun src hs => ?_, fun q' hq => ?_, ?_⟩ ?_).2.2
    · rw [Work.purgeDone, Work.releaseRefill_get (by simpa using hrun) idle
        ((State.enabled_congr (by simp) c).trans hon)]
      exact RefillChannel.released_state _
    · simp [hpending, PerSource.fill] at hs
    · obtain ⟨acts, hacts⟩ : ∃ x, q.actions = [x] := List.length_eq_one_iff.1 hlen
      simp [hstack, popAction, hacts] at hq
    · rw [State.purgeRunning_congr (t := (((Work.begin s).doneAction.setCapped true).deductPurges set a.volumes).toState)]
      · exact idle
      · simp [Work.purgeDone]
    · simpa using hb

/-- Settles O57, a clause at a time: a RESULT, the way to PARK, a sheet spit and a purge. -/
theorem headAnswersAreTaken : Obligations.HeadAnswersAreTaken := by
  unfold Obligations.HeadAnswersAreTaken
  intro s h a hpin hh hc
  refine ⟨fun groups g l hk hg => ?_, fun ha hsled hclosed => ?_, sheetSpit_done hpin hh hc,
    fun heavy set => purge_done hpin hh hc⟩
  · have taken : body (.headResult h.number g l) (Work.begin s)
        = { Work.begin s with service := { s.service with
            current := some { a with results := insertResult g l a.results } } } := by
      simp only [body, Work.takeResult, Work.begin_state, hh, hk, hg, hc, true_and, if_true, Option.map_some]
    have := completes_body (i := .headResult h.number g l) rfl hpin
    rwa [taken, Work.finish_quiet rfl rfl rfl rfl rfl rfl rfl rfl rfl rfl rfl] at this
  · refine ⟨_, completes_body rfl hpin, ?_⟩
    have hbody : (Work.begin s).headAnswered = { (Work.begin s).answered.setStage .inbound with
        service := { ((Work.begin s).answered.setStage .inbound).service with motion := some .park }, drive := true } :=
      (Work.headAnswered_park (w := Work.begin s) hc ha).trans (Work.goPark_away hsled hclosed)
    rw [body_headDone_answers hh, hbody]
    obtain ⟨hservice, hbands⟩ := Work.finish_drive
      (w := { (Work.begin s).answered.setStage .inbound with
        service := { ((Work.begin s).answered.setStage .inbound).service with motion := some .park }, drive := true })
      rfl rfl rfl rfl rfl rfl rfl
    rw [hservice]
    refine ⟨rfl, rfl, ?_, ⟨by simp; rfl, by simp; rfl, hbands, by simp; rfl⟩⟩
    simp [Work.answered, hc]

end Sys2Proof.Machine
end

section
/-! PROOFS. A flow pulse: its credit, its count in the flow window or as a leak, and the lockouts. -/

namespace Sys2Proof.Machine

/-! ### The credit of a pulse (R2, R14, R15) -/

theorem Work.credit_off {w : Work} {c : Channel} (h : w.enabled c = false) : w.credit c = w := by
  simp [Work.credit, h]

theorem Work.credit_ink_unknown {w : Work} {c : Channel} (h : (w.ink.get c).state = .unknown) :
    (w.credit c).ink = w.ink := by
  refine PerChannel.eq_of_get fun d => ?_
  rw [Work.credit_ink]
  split
  · rename_i hd
    simp [InkChannel.credited, h, hd]
  · rfl

theorem TallyChannel.credited_refilled (t : TallyChannel) (x : InkChannel) (f top : Nat) :
    (t.credited x true f top).refilled = Nat.min 4294967295 (t.refilled + f) := by
  have plus : (t.plus .refilled f).amount .refilled = Nat.min 4294967295 (t.amount .refilled + f) :=
    t.plus_amount_same .refilled f
  have booked : ∀ d, ((t.plus .refilled f).booked d).amount .refilled = Nat.min 4294967295 (t.amount .refilled + f) :=
    fun d => by rw [(TallyChannel.booked_fields _ d).1, plus]
  unfold TallyChannel.credited
  rw [if_neg (by simp)]
  (repeat' split)
  · exact booked _
  · exact plus
  · exact booked _

theorem InkChannel.credited_full (x : InkChannel) (on : Bool) (f top : Nat) : (x.credited on f top).full = x.full := by
  unfold InkChannel.credited
  split <;> rfl

/-! ### The pulse at refill control (R32, R35) -/

theorem Work.countPulse_open {w : Work} {c : Channel} (h : (w.refill.get c).state = .opened) :
    (w.countPulse c).refill.get c = { w.refill.get c with
        window := (w.refill.get c).window.map fun f => { f with pulses := Nat.min 65535 (f.pulses + 1) } }
      ∧ (w.countPulse c).raised = w.raised := by
  simp only [Work.countPulse, h]
  split
  · rename_i f hf
    exact ⟨by simp [Work.putRefill, hf], rfl⟩
  · rename_i hf
    refine ⟨?_, rfl⟩
    rw [hf, Option.map_none, ← hf, ← h]

theorem Work.countPulse_closed {w : Work} {c : Channel} (h : (w.refill.get c).state ≠ .opened)
    (hq : w.mode.started = false ∨ (w.refill.get c).leakPulse.leakCount ≤ w.sec1.leakLimit) :
    w.countPulse c = w.putRefill c (w.refill.get c).leakPulse := by
  have within : (w.mode.started && decide (w.sec1.leakLimit < (w.refill.get c).leakPulse.leakCount)) = false := by
    rcases hq with hq | hq
    · simp [hq]
    · simp [Nat.not_lt.2 hq]
  simp only [Work.countPulse, within, Bool.false_eq_true, if_false]

theorem Work.countPulse_leaks {w : Work} {c : Channel} (h : (w.refill.get c).state ≠ .opened)
    (hs : w.mode.started = true) (hl : w.sec1.leakLimit < (w.refill.get c).leakPulse.leakCount) :
    w.countPulse c = ((w.putRefill c { (w.refill.get c).leakPulse.lock with leakCount := 0, leakWindow := none }).raise
      .valveLeak (.channel c)).marksChanged c (w.refill.get c) := by
  simp only [Work.countPulse, hs, hl, decide_true, Bool.and_self, if_true]

theorem RefillChannel.leakPulse_fields (x : RefillChannel) :
    x.leakPulse.state = x.state ∧ x.leakPulse.lockedMark = x.lockedMark
      ∧ x.leakPulse.leakCount = (if x.leakWindow = none then 1 else Nat.min 256 (x.leakCount + 1))
      ∧ x.leakPulse.leakWindow = some (x.leakWindow.getD 1000) := by
  unfold RefillChannel.leakPulse
  split <;> simp_all [Config.leakWindowTicks]

/-- The lock leaves a channel LOCKED, or HELD as it was, and leaves its leak count and window. -/
theorem RefillChannel.lock_fields (x : RefillChannel) :
    x.lock.lockedMark = true ∧ (x.lock.state = .locked ∨ x.lock.state = .held)
      ∧ x.lock.leakCount = x.leakCount ∧ x.lock.leakWindow = x.leakWindow
      ∧ (x.state = .opened → x.lock.waited = 0 ∧ x.lock.window = none) := by
  unfold RefillChannel.lock
  split <;> simp_all

theorem RefillChannel.hold_fields (x : RefillChannel) :
    x.hold.state = .held ∧ x.hold.lockedMark = x.lockedMark ∧ x.hold.starvedMark = x.starvedMark
      ∧ x.hold.leakCount = x.leakCount ∧ x.hold.leakWindow = x.leakWindow
      ∧ (x.waited = 0 → x.hold.waited = 0) ∧ (x.window = none → x.hold.window = none) := by
  unfold RefillChannel.hold
  split <;> simp_all

/-- A channel that the body leaves LOCKED or HELD ends the event so, its marks, leak count and leak window kept. -/
theorem Work.finish_locked {w : Work} {c : Channel} {z : RefillChannel} (hz : w.overfillTests.refill.get c = z)
    (h : z.state = .locked ∨ z.state = .held) :
    ((w.finish.refill.get c).state = .locked ∨ (w.finish.refill.get c).state = .held)
      ∧ (w.finish.refill.get c).lockedMark = z.lockedMark
      ∧ (w.finish.refill.get c).leakCount = z.leakCount ∧ (w.finish.refill.get c).leakWindow = z.leakWindow
      ∧ (z.waited = 0 → (w.finish.refill.get c).waited = 0)
      ∧ (z.window = none → (w.finish.refill.get c).window = none) := by
  obtain ⟨x, hx, settles⟩ := w.finish_refill_get c
  rw [hz] at hx
  have kept : (x.state = .locked ∨ x.state = .held) ∧ x.lockedMark = z.lockedMark ∧ x.leakCount = z.leakCount
      ∧ x.leakWindow = z.leakWindow ∧ (z.waited = 0 → x.waited = 0) ∧ (z.window = none → x.window = none) := by
    rcases hx with rfl | ⟨-, rfl⟩
    · exact ⟨h, rfl, rfl, rfl, id, id⟩
    · obtain ⟨hs, hl, -, hn, hw, hwait, hwin⟩ := z.hold_fields
      exact ⟨.inr hs, hl, hn, hw, hwait, hwin⟩
  obtain ⟨d, e, hy⟩ := settles.stands (by rcases kept.1 with h | h <;> simp [h])
    (by rcases kept.1 with h | h <;> simp [h]) (by rcases kept.1 with h | h <;> simp [h])
  rw [hy]
  exact kept

/-- A channel whose valve is open as the body leaves it and at the end of the event keeps its flow window. -/
theorem Work.finish_window {w : Work} {c : Channel} (ho : (w.refill.get c).state = .opened)
    (hy : (w.finish.refill.get c).state = .opened) :
    (w.finish.refill.get c).window = (w.refill.get c).window := by
  have hz := w.overfillTests_refill c
  by_cases hov : w.overfills c
  · rw [if_pos hov] at hz
    rcases (Work.finish_locked hz (w.refill.get c).lock_fields.2.1).1 with h | h <;> simp [h] at hy
  · rw [if_neg hov] at hz
    obtain ⟨x, hx, settles⟩ := w.finish_refill_get c
    rw [hz] at hx
    rcases hx with rfl | ⟨-, rfl⟩
    · exact settles.window ho hy
    · have hheld := (w.refill.get c).hold_fields.1
      obtain ⟨d, e, h⟩ := settles.stands (by simp [hheld]) (by simp [hheld]) (by simp [hheld])
      simp [h, hheld] at hy

/-- The LOCKED mark at the end of an event is the overfill test's. -/
theorem Work.finish_lockedMark (w : Work) (c : Channel) :
    (w.finish.refill.get c).lockedMark = (w.overfillTests.refill.get c).lockedMark := by
  obtain ⟨x, hx, settles⟩ := w.finish_refill_get c
  rw [settles.marks.1]
  rcases hx with rfl | ⟨-, rfl⟩
  · rfl
  · exact (RefillChannel.hold_fields _).2.1

/-- A channel whose valve is closed as the body leaves it: the event opens it, its leak count and window cleared,
or keeps them. -/
theorem Work.finish_closed {w : Work} {c : Channel} (ho : (w.refill.get c).state ≠ .opened) :
    (w.finish.refill.get c).state = .opened ∧ (w.ink.get c).full.state ≠ .wet
        ∧ (w.finish.refill.get c).leakCount = 0 ∧ (w.finish.refill.get c).leakWindow = none
      ∨ (w.finish.refill.get c).state ≠ .opened
        ∧ (w.finish.refill.get c).leakCount = (w.refill.get c).leakCount
        ∧ (w.finish.refill.get c).leakWindow = (w.refill.get c).leakWindow := by
  obtain ⟨x, hx, settles⟩ := w.finish_refill_get c
  rw [Work.overfillTests_refill, if_neg fun h => ho h.1] at hx
  rcases hx with rfl | ⟨-, rfl⟩
  · exact settles.closed ho
  · obtain ⟨hs, -, -, hn, hw, -⟩ := (w.refill.get c).hold_fields
    have closed := settles.closed (by simp [hs])
    rwa [hn, hw] at closed

/-! ### The statement's clauses -/

/-- The body of a pulse of channel `c`. -/
def State.pulsed (s : State) (c : Channel) : Work := ((Work.begin s).credit c).countPulse c

theorem completes_flowPulse {s : State} (hpin : s.mode.resetPin = false) (c : Channel) :
    Completes (.flowPulse c) s (s.pulsed c).finish := completes_body rfl hpin

@[simp] theorem State.pulsed_frame (s : State) (c : Channel) :
    (s.pulsed c).mode = s.mode ∧ (s.pulsed c).pre = s ∧ (s.pulsed c).faults = s.faults
      ∧ (s.pulsed c).tally = ((Work.begin s).credit c).tally ∧ (s.pulsed c).ink = ((Work.begin s).credit c).ink := by
  simp [State.pulsed]

theorem State.pulsed_ink_ne (s : State) {c d : Channel} (h : d ≠ c) : (s.pulsed c).ink.get d = s.ink.get d := by
  simp [Work.credit_ink, h]

/-- Only the pulse's own channel can overfill. -/
theorem State.pulsed_overfills {s : State} {c d : Channel} (h : (s.pulsed c).overfills d) : d = c := by
  by_contra hne
  have same := s.pulsed_ink_ne hne
  exact h.2.2.1 (by rw [same, (s.pulsed_frame c).2.1])

/-- The pulse's channel overfills as the statement puts it. -/
theorem State.pulsed_overfills_iff {s : State} {c : Channel} (ho : ((s.pulsed c).refill.get c).state = .opened) :
    (s.pulsed c).overfills c ↔ ((s.pulsed c).ink.get c).estimate ≠ (s.ink.get c).estimate
      ∧ (s.ink.get c).full.state ≠ .wet
      ∧ Nat.min ((s.reservoir c).fullLevel + (s.reservoir c).tolerance) (s.reservoir c).capacity
        ≤ ((s.pulsed c).ink.get c).estimate := by
  have full : ((s.pulsed c).ink.get c).full = (s.ink.get c).full := by
    simp [Work.credit_ink, InkChannel.credited_full]
  have level : (s.pulsed c).overfillLevel c
      = Nat.min ((s.reservoir c).fullLevel + (s.reservoir c).tolerance) (s.reservoir c).capacity := by
    rw [State.overfillLevel, State.reservoir_congr (s.pulsed_frame c).1]
  have pre : (s.pulsed c).pre = s := (s.pulsed_frame c).2.1
  simp only [Work.overfills, ho, full, level, pre, true_and]
  tauto

/-- The ledgers after a pulse. -/
theorem flowPulse_credits {s : State} {c : Channel} (hpin : s.mode.resetPin = false) :
    ∃ t, Completes (.flowPulse c) s t ∧ t.mode = s.mode
      ∧ (∀ d, d ≠ c → t.ink.get d = s.ink.get d ∧ t.tally.channels.get d = s.tally.channels.get d)
      ∧ (s.enabled c = false → t.ink = s.ink ∧ t.tally = s.tally)
      ∧ (s.enabled c = true → (s.ink.get c).state = .unknown → t.ink = s.ink)
      ∧ (s.enabled c = true → (s.ink.get c).state = .known →
          t.ink.get c = { s.ink.get c with
            estimate := Nat.min ((s.ink.get c).estimate + (s.reservoir c).credit)
              (s.reservoir c).capacity })
      ∧ (s.enabled c = true →
          (t.tally.channels.get c).refilled
            = Nat.min 4294967295
                ((s.tally.channels.get c).refilled + (s.reservoir c).credit)) := by
  refine ⟨_, completes_flowPulse hpin c, ?_⟩
  have hi : (s.pulsed c).finish.ink = ((Work.begin s).credit c).ink := by simp
  have ht : (s.pulsed c).finish.tally = ((Work.begin s).credit c).tally := by simp
  rw [hi, ht]
  refine ⟨by simp, fun d hd => ?_, fun hoff => ?_, fun _ hu => ?_, fun hon hk => ?_, fun hon => ?_⟩
  · simp [Work.credit_ink, Work.credit_tally, hd]
  · rw [Work.credit_off (w := Work.begin s) hoff]
    exact ⟨rfl, rfl⟩
  · exact Work.credit_ink_unknown (w := Work.begin s) hu
  · simp [Work.credit_ink, InkChannel.credited, hon, hk]
  · rw [Work.credit_tally, if_pos rfl, show (Work.begin s).enabled c = true from hon]
    exact TallyChannel.credited_refilled _ _ _ _

/-- A pulse with the valve open. -/
theorem flowPulse_open {s : State} {c : Channel} (hpin : s.mode.resetPin = false)
    (ho : (s.refill.get c).state = .opened) :
    ∃ t, Completes (.flowPulse c) s t
      ∧ (∀ f, (s.refill.get c).window = some f → (t.refill.get c).state = .opened →
          (t.refill.get c).window = some { f with pulses := Nat.min 65535 (f.pulses + 1) })
      ∧ ((t.ink.get c).estimate ≠ (s.ink.get c).estimate → (s.ink.get c).full.state ≠ .wet →
          Nat.min ((s.reservoir c).fullLevel + (s.reservoir c).tolerance) (s.reservoir c).capacity
            ≤ (t.ink.get c).estimate →
          FaultCode.overfill ∈ t.faults.active ∧ (t.refill.get c).lockedMark = true
          ∧ (t.refill.get c).waited = 0 ∧ (t.refill.get c).window = none
          ∧ ((t.refill.get c).state = .locked ∨ (t.refill.get c).state = .held))
      ∧ ((t.ink.get c).estimate = (s.ink.get c).estimate ∨ (s.ink.get c).full.state = .wet
          ∨ (t.ink.get c).estimate
            < Nat.min ((s.reservoir c).fullLevel + (s.reservoir c).tolerance)
                (s.reservoir c).capacity →
          (t.refill.get c).lockedMark = (s.refill.get c).lockedMark
          ∧ (FaultCode.overfill ∈ t.faults.active → FaultCode.overfill ∈ s.faults.active)) := by
  refine ⟨_, completes_flowPulse hpin c, ?_⟩
  have ho' : (((Work.begin s).credit c).refill.get c).state = .opened := by simpa using ho
  obtain ⟨hx, hr⟩ := Work.countPulse_open ho'
  have hx' : (s.pulsed c).refill.get c = { s.refill.get c with
      window := (s.refill.get c).window.map fun f => { f with pulses := Nat.min 65535 (f.pulses + 1) } } := by
    rw [State.pulsed, hx]
    simp
  have hopen : ((s.pulsed c).refill.get c).state = .opened := by rw [hx']; exact ho
  have hovf := State.pulsed_overfills_iff hopen
  have hi : (s.pulsed c).finish.ink = (s.pulsed c).ink := by simp
  rw [hi]
  refine ⟨fun f hf hy => ?_, fun hmoved hwet hlevel => ?_, fun hno => ?_⟩
  · rw [Work.finish_window hopen hy, hx', hf]
    rfl
  · have hov : (s.pulsed c).overfills c := hovf.2 ⟨hmoved, hwet, hlevel⟩
    obtain ⟨hmark, hstate, -, -, hlocked⟩ := RefillChannel.lock_fields ((s.pulsed c).refill.get c)
    obtain ⟨hwaited, hwindow⟩ := hlocked hopen
    have hz := (s.pulsed c).overfillTests_refill c
    rw [if_pos hov] at hz
    obtain ⟨hy, hm, -, -, hwait, hwin⟩ := Work.finish_locked hz hstate
    exact ⟨((s.pulsed c).finish_active _).2 (.inr (Work.overfillTests_raises hov)), hm.trans hmark, hwait hwaited,
      hwin hwindow, hy⟩
  · have hov : ¬ (s.pulsed c).overfills c := fun h => by
      obtain ⟨hmoved, hwet, hlevel⟩ := hovf.1 h
      rcases hno with h | h | h
      · exact hmoved h
      · exact hwet h
      · exact absurd hlevel (Nat.not_le.2 h)
    refine ⟨?_, fun hactive => ?_⟩
    · rw [Work.finish_lockedMark, Work.overfillTests_refill, if_neg hov, hx']
    · have only : Work.RaisesOnly (· = .tallyOverflow) (Work.begin s) (s.pulsed c) :=
        ((Work.begin s).credit_raisesOnly (P := (· = .tallyOverflow)) c rfl).trans (.same hr)
      rcases Work.finish_active_only only hactive with h | h | ⟨-, d, h⟩
      · simpa using h
      · cases h
      · exact absurd (State.pulsed_overfills h ▸ h) hov

/-- A leak pulse beyond the limit. -/
theorem flowPulse_leaks {s : State} {c : Channel} (hpin : s.mode.resetPin = false) (hs : s.mode.started = true)
    (ho : (s.refill.get c).state ≠ .opened) (hn : s.sec1.leakLimit ≤ (s.refill.get c).leakCount)
    (hl : s.sec1.leakLimit ≤ 255) (hw : (s.refill.get c).leakWindow.isSome = true) :
    ∃ t, Completes (.flowPulse c) s t ∧ FaultCode.valveLeak ∈ t.faults.active
      ∧ (t.refill.get c).lockedMark = true ∧ (t.refill.get c).leakCount = 0
      ∧ (t.refill.get c).leakWindow = none
      ∧ ((t.refill.get c).state = .locked ∨ (t.refill.get c).state = .held) := by
  refine ⟨_, completes_flowPulse hpin c, ?_⟩
  have beyond : s.sec1.leakLimit < (s.refill.get c).leakPulse.leakCount := by
    rw [(s.refill.get c).leakPulse_fields.2.2.1, if_neg (fun h => by simp [h] at hw)]
    exact Nat.lt_min.2 ⟨by omega, by omega⟩
  generalize hx : s.refill.get c = x at *
  have he : s.pulsed c = ((((Work.begin s).credit c).putRefill c
      { x.leakPulse.lock with leakCount := 0, leakWindow := none }).raise .valveLeak (.channel c)).marksChanged c x := by
    have leaks := Work.countPulse_leaks (w := (Work.begin s).credit c) (c := c) (by simpa [hx] using ho) (by simpa using hs)
      (by simpa [State.sec1, hx] using beyond)
    simpa [State.pulsed, hx] using leaks
  have hz : (s.pulsed c).refill.get c = { x.leakPulse.lock with leakCount := 0, leakWindow := none } := by
    rw [he]
    simp [Work.putRefill]
  have hstate : ((s.pulsed c).refill.get c).state = .locked ∨ ((s.pulsed c).refill.get c).state = .held := by
    rw [hz]
    exact x.leakPulse.lock_fields.2.1
  have hzo := (s.pulsed c).overfillTests_refill c
  rw [if_neg fun h => by rcases hstate with e | e <;> simp [h.1] at e] at hzo
  obtain ⟨hy, hm, hc, hwin, -, -⟩ := Work.finish_locked hzo hstate
  rw [hz] at hm hc hwin
  refine ⟨?_, hm.trans x.leakPulse.lock_fields.1, hc, hwin, hy⟩
  refine Work.finish_raised (r := { code := .valveLeak, detail := .channel c }) ?_
  rw [he]
  simp [Work.raise]

/-- A leak pulse within the limit, or before the first START. -/
theorem flowPulse_counted {s : State} {c : Channel} (hpin : s.mode.resetPin = false)
    (ho : (s.refill.get c).state ≠ .opened) (hn : (s.refill.get c).leakCount ≤ 255)
    (hq : s.mode.started = false
      ∨ (if (s.refill.get c).leakWindow = none then 1 else (s.refill.get c).leakCount + 1) ≤ s.sec1.leakLimit) :
    ∃ t, Completes (.flowPulse c) s t
      ∧ (∀ f ∈ t.faults.active, f = .tallyOverflow ∨ f ∈ s.faults.active)
      ∧ (t.refill.get c).lockedMark = (s.refill.get c).lockedMark
      ∧ ((t.refill.get c).state ≠ .opened →
          (t.refill.get c).leakCount
              = (if (s.refill.get c).leakWindow = none then 1 else (s.refill.get c).leakCount + 1)
          ∧ (t.refill.get c).leakWindow = some ((s.refill.get c).leakWindow.getD 1000))
      ∧ ((t.refill.get c).state = .opened →
          (t.refill.get c).leakCount = 0 ∧ (t.refill.get c).leakWindow = none) := by
  refine ⟨_, completes_flowPulse hpin c, ?_⟩
  obtain ⟨hstate, hmark, hcount, hwindow⟩ := (s.refill.get c).leakPulse_fields
  rw [show Nat.min 256 ((s.refill.get c).leakCount + 1) = (s.refill.get c).leakCount + 1 from
    Nat.min_eq_right (by omega)] at hcount
  have he : s.pulsed c = ((Work.begin s).credit c).putRefill c (s.refill.get c).leakPulse := by
    have counted := Work.countPulse_closed (w := (Work.begin s).credit c) (c := c) (by simpa using ho)
      (by simpa [hcount, State.sec1] using hq)
    simpa [State.pulsed] using counted
  have hz : (s.pulsed c).refill.get c = (s.refill.get c).leakPulse := by
    rw [he]
    simp [Work.putRefill]
  have closed : ((s.pulsed c).refill.get c).state ≠ .opened := by rwa [hz, hstate]
  have hov : ∀ d, ¬ (s.pulsed c).overfills d := fun d h => closed (State.pulsed_overfills h ▸ h).1
  have only : Work.RaisesOnly (· = .tallyOverflow) (Work.begin s) (s.pulsed c) := by
    rw [he]
    exact ((Work.begin s).credit_raisesOnly (P := (· = .tallyOverflow)) c rfl).trans (.same rfl)
  refine ⟨fun f hf => ?_, ?_, fun hy => ?_, fun hy => ?_⟩
  · rcases Work.finish_active_only only hf with h | h | ⟨-, d, h⟩
    · exact .inr (by simpa using h)
    · exact .inl h
    · exact absurd h (hov d)
  · rw [Work.finish_lockedMark, Work.overfillTests_refill, if_neg (hov c), hz, hmark]
  · rcases Work.finish_closed closed with ⟨h, -⟩ | ⟨-, h, h'⟩
    · exact absurd h hy
    · rw [h, h', hz]
      exact ⟨hcount, hwindow⟩
  · rcases Work.finish_closed closed with ⟨-, -, h⟩ | ⟨h, -⟩
    · exact h
    · exact absurd hy h

/-- Settles O47, by the credit, and by the valve open, a leak beyond the limit and a leak within it. -/
theorem flowPulseCreditsAndLocks : Obligations.FlowPulseCreditsAndLocks := by
  unfold Obligations.FlowPulseCreditsAndLocks
  exact ⟨fun _ _ hpin => flowPulse_credits hpin, fun _ _ hpin ho => flowPulse_open hpin ho,
    fun _ _ hpin hs ho hn hl hw => flowPulse_leaks hpin hs ho hn hl hw, fun _ _ hpin ho hn hq => flowPulse_counted hpin ho hn hq⟩

end Sys2Proof.Machine
end

section
/-! PROOFS. Level marks: the sample of a tick, a debounced change with its reconciliation, and the first settling. -/

namespace Sys2Proof.Machine

/-! ### The sample of a tick (R3) -/

theorem InkChannel.sampled_mark (x : InkChannel) (m : MarkName) : x.sampled.mark m = (x.mark m).sampled := by
  cases m <;> rfl

theorem Mark.sampled_fields (k : Mark) :
    k.sampled.state = k.state ∧ k.sampled.raw = k.raw ∧ k.sampled.sample = k.raw
      ∧ (k.state ≠ .settling → markReading k.raw = k.state → k.sampled.count = 0)
      ∧ (k.state ≠ .settling → markReading k.raw ≠ k.state → k.sampled.count = Nat.min 20 (k.count + 1))
      ∧ (k.state = .settling → k.raw = k.sample → k.sampled.count = Nat.min 20 (k.count + 1))
      ∧ (k.state = .settling → k.raw ≠ k.sample → k.sampled.count = 1) := by
  unfold Mark.sampled
  cases hs : k.state <;> simp +contextual [Config.debounceTicks]

theorem mem_dueWhen {b : Bool} {i c : Instr} : i ∈ dueWhen b c ↔ b = true ∧ i = c := by
  cases b <;> simp [dueWhen]

/-- A command is the event of a level mark. -/
def Instr.ofMark : Instr → Bool
  | .markSettled _ _ _ | .markChange _ _ _ => true
  | _ => false

theorem RefillChannel.dueEvents_ofMark {x : RefillChannel} {c : Channel} {i : Instr} (h : i ∈ x.dueEvents c) :
    Instr.ofMark i = false := by
  simp only [RefillChannel.dueEvents, List.mem_append, mem_dueWhen] at h
  rcases h with ((⟨-, rfl⟩ | ⟨-, rfl⟩) | ⟨-, rfl⟩) | ⟨-, rfl⟩ <;> rfl

theorem State.dueSteps_ofMark {s : State} {i : Instr} (h : i ∈ s.dueSteps) : Instr.ofMark i = false := by
  unfold State.dueSteps at h
  (repeat' split at h)
  · rw [List.eq_of_mem_replicate h]
    rfl
  all_goals simp at h

/-- The mark events that a tick brings due are those of the marks. -/
theorem State.mem_dueEvents {s t : State} {i : Instr} (hi : Instr.ofMark i = true) :
    i ∈ s.dueEvents t ↔ ∃ c m, i ∈ ((t.ink.get c).mark m).due c m := by
  constructor
  · intro h
    simp only [State.dueEvents, List.mem_append, mem_dueWhen, List.mem_flatMap] at h
    obtain h | h := h
    swap
    · simp [State.dueSteps_ofMark h] at hi
    rcases h with (((((((((h | h) | h) | h) | h) | h) | h) | h) | h) | h) | h
    · obtain ⟨c, -, h | h⟩ := h
      · exact ⟨c, .low, h⟩
      · exact ⟨c, .full, h⟩
    · obtain ⟨c, -, h⟩ := h
      simp [RefillChannel.dueEvents_ofMark h] at hi
    all_goals simp [h.2, Instr.ofMark] at hi
  · rintro ⟨c, m, h⟩
    have marks : i ∈ Channel.all.flatMap fun c => (t.ink.get c).low.due c .low ++ (t.ink.get c).full.due c .full := by
      refine List.mem_flatMap.2 ⟨c, Channel.mem_all c, ?_⟩
      cases m
      · exact List.mem_append_left _ h
      · exact List.mem_append_right _ h
    simp only [State.dueEvents, List.mem_append]
    tauto

theorem Mark.mem_due {k : Mark} {c : Channel} {m : MarkName} {i : Instr} :
    i ∈ k.due c m ↔ 20 ≤ k.count
      ∧ i = if k.state = .settling then .markSettled c m k.sample else .markChange c m k.sample := by
  unfold Mark.due
  split
  · rename_i h
    cases hs : k.state <;> simp [show 20 ≤ k.count from h]
  · rename_i h
    simp [show ¬ 20 ≤ k.count from h]

theorem State.tick_mark {s : State} (h : s.mode.resetPin = false) (c : Channel) (m : MarkName) :
    (s.tick.ink.get c).mark m = ((s.ink.get c).mark m).sampled := by
  simp [State.tick, h, State.aged, InkChannel.sampled_mark]

/-- The mark events on the queue after a tick of an empty one. -/
theorem State.tick_due {s : State} (h : s.mode.resetPin = false) (hp : s.pending = []) {i : Instr}
    (hi : Instr.ofMark i = true) :
    i ∈ s.tick.pending ↔ ∃ c m, i ∈ ((s.ink.get c).mark m).sampled.due c m := by
  have hq : s.tick.pending = s.dueEvents s.aged := by simp [State.tick, h, hp]
  rw [hq, State.mem_dueEvents hi]
  simp [State.aged, InkChannel.sampled_mark]

/-- The sample of one mark at a tick. -/
theorem tick_samples {s : State} (c : Channel) (m : MarkName) (hp : s.pending = []) (hpin : s.mode.resetPin = false) :
    ∃ t k', step s = Host.Outcome.next t ∧ (t.ink.get c).mark m = k'
      ∧ k' = ((s.ink.get c).mark m).sampled
      ∧ (20 ≤ k'.count → k'.state = .settling → Instr.markSettled c m k'.sample ∈ t.pending)
      ∧ (20 ≤ k'.count → k'.state ≠ .settling → Instr.markChange c m k'.sample ∈ t.pending)
      ∧ (k'.count < 20 → ∀ w, Instr.markSettled c m w ∉ t.pending ∧ Instr.markChange c m w ∉ t.pending) := by
  have hstep : step s = Host.Outcome.next s.tick := by simp [step, hp]
  refine ⟨_, _, hstep, rfl, s.tick_mark hpin c m, ?_⟩
  rw [s.tick_mark hpin]
  generalize hk : ((s.ink.get c).mark m).sampled = k
  refine ⟨fun hn hs => ?_, fun hn hs => ?_, fun hn w => ⟨fun hm => ?_, fun hm => ?_⟩⟩
  · exact (State.tick_due hpin hp rfl).2 ⟨c, m, Mark.mem_due.2 (by simp [hk, hn, hs])⟩
  · exact (State.tick_due hpin hp rfl).2 ⟨c, m, Mark.mem_due.2 (by simp [hk, hn, hs])⟩
  all_goals
    obtain ⟨d, n, hd⟩ := (State.tick_due hpin hp rfl).1 hm
    obtain ⟨h20, he⟩ := Mark.mem_due.1 hd
    split at he <;> simp_all
    omega

/-! ### Events that move no estimate -/

theorem Work.overfillTests_still {w : Work}
    (h : ∀ c, (w.ink.get c).estimate = (w.pre.ink.get c).estimate) : w.overfillTests = w := by
  have off : ∀ c, w.overfillTest c = w := fun c => Work.overfillTest_off fun ho => ho.2.2.1 (h c)
  simp [Work.overfillTests, Channel.all, off]

/-- An event that moves no estimate, calls for nothing at its end and leaves the guard line, the refill channels
and the move as they were ends in the state its body left. -/
theorem Work.finish_still {w : Work} (hi : ∀ c, (w.ink.get c).estimate = (w.pre.ink.get c).estimate)
    (hr : w.raised = []) (hc : w.cover = false) (hg : w.guardDue = false) (hl : w.classes = false)
    (hp : w.peersHeard = false) (hb : w.boundary = false) (hd : w.drive = false)
    (eg : w.pre.bands.guard = w.bands.guard) (er : w.pre.refill = w.refill)
    (em : w.pre.feed.move = w.feed.move) : w.finish = w.toState := by
  have purges : w.purgeInkMoved = false := by simp [Work.purgeInkMoved, hi]
  have settled : w.settle = w := by
    simp [Work.settle, Work.overfillTests_still hi, Work.faultStage_none hr, Work.coverStage_off hc,
      Work.guardStage_off hg, Work.arbiterStage, hb, purges, Work.refillStage_off hl hp, Work.driveStage_off hd]
  simp [Work.finish, settled, Work.earlyStage_off (earlyChange_eq eg er em)]

theorem Mark.filtered_eq_false {k : Mark} {wet : Bool} (h : k.count < 20 ∨ k.sample ≠ wet) : k.filtered wet = false := by
  rcases h with h | h
  · simp [Mark.filtered, Config.debounceTicks, Nat.not_le.2 h]
  · simp [Mark.filtered, h]

/-- An event of a mark with fewer than 20 samples behind it changes nothing. -/
theorem markEvents_unfiltered {s : State} {c : Channel} {m : MarkName} {wet : Bool}
    (h : ((s.ink.get c).mark m).count < 20 ∨ ((s.ink.get c).mark m).sample ≠ wet) :
    Completes (.markChange c m wet) s s ∧ Completes (.markSettled c m wet) s s := by
  have off := Mark.filtered_eq_false h
  have quiet : (Work.begin s).finish = s :=
    Work.finish_quiet rfl rfl rfl rfl rfl rfl rfl rfl rfl rfl rfl
  cases hpin : s.mode.resetPin
  · refine ⟨(completes_body rfl hpin).trans ?_, (completes_body rfl hpin).trans ?_⟩ <;>
      simp [body, off, quiet]
  · exact ⟨(exec_body _ s rfl).trans (event_held hpin _), (exec_body _ s rfl).trans (event_held hpin _)⟩

/-- The first reading of a mark that is SETTLING. -/
theorem markSettled_takes {s : State} {c : Channel} {m : MarkName} {wet : Bool} (hpin : s.mode.resetPin = false)
    (hn : 20 ≤ ((s.ink.get c).mark m).count) (hw : ((s.ink.get c).mark m).sample = wet)
    (hs : ((s.ink.get c).mark m).state = .settling) :
    Completes (.markSettled c m wet) s
      { s with ink := s.ink.set c ((s.ink.get c).putMark m
          { (s.ink.get c).mark m with state := markReading wet, count := 0 }) } := by
  have taken : body (.markSettled c m wet) (Work.begin s)
      = { Work.begin s with ink := s.ink.set c ((s.ink.get c).settleMark m wet) } := by
    simp [body, Mark.filtered, Config.debounceTicks, hn, hw, hs]
  have same : ∀ d, ((s.ink.set c ((s.ink.get c).settleMark m wet)).get d).estimate = (s.ink.get d).estimate := fun d => by
    rw [PerChannel.get_set]
    split <;> simp [*]
  have done := completes_body (i := .markSettled c m wet) rfl hpin
  rwa [taken, Work.finish_still same rfl rfl rfl rfl rfl rfl rfl rfl rfl rfl] at done

/-! ### A debounced change (R4, R16, R31) -/

/-- The body of a change of a mark, as far as the reconciliation. -/
def State.remarked (s : State) (c : Channel) (m : MarkName) (wet : Bool) : Work :=
  ((Work.begin s).putInk c ((s.ink.get c).settleMark m wet)).markRefill c m wet

theorem completes_markChange {s : State} {c : Channel} {m : MarkName} {wet : Bool} (hpin : s.mode.resetPin = false)
    (hn : 20 ≤ ((s.ink.get c).mark m).count) (hw : ((s.ink.get c).mark m).sample = wet)
    (hs : ((s.ink.get c).mark m).state ≠ .settling) (hne : ((s.ink.get c).mark m).state ≠ markReading wet) :
    Completes (.markChange c m wet) s ((s.remarked c m wet).markReconcile c m wet).finish := by
  have taken : body (.markChange c m wet) (Work.begin s) = (s.remarked c m wet).markReconcile c m wet := by
    simp [body, Mark.filtered, Config.debounceTicks, hn, hw, hs, hne, State.remarked]
  have done := completes_body (i := .markChange c m wet) rfl hpin
  rwa [taken] at done

@[simp] theorem State.remarked_frame (s : State) (c : Channel) (m : MarkName) (wet : Bool) :
    (s.remarked c m wet).mode = s.mode ∧ (s.remarked c m wet).pre = s ∧ (s.remarked c m wet).faults = s.faults
      ∧ (s.remarked c m wet).tally = s.tally ∧ (s.remarked c m wet).raised = []
      ∧ (s.remarked c m wet).ink = s.ink.set c ((s.ink.get c).settleMark m wet) := by
  simp [State.remarked, Work.putInk]

theorem RefillChannel.fullWet_state (x : RefillChannel) : x.fullWet.state ≠ .opened := by
  unfold RefillChannel.fullWet
  split <;> simp_all

theorem State.remarked_refill (s : State) (c : Channel) :
    ((s.remarked c .full true).refill.get c).state ≠ .opened := by
  simpa [State.remarked, Work.markRefill, Work.putRefill] using RefillChannel.fullWet_state _

/-- A reconciliation raises DRIFT EXCESS beyond the tolerance alone. -/
theorem Work.reconcile_raisesOnly (w : Work) (c : Channel) (level : Nat) :
    Work.RaisesOnly (fun f => f = .tallyOverflow
      ∨ f = .driftExcess ∧ (w.reservoir c).tolerance < ((level : Int) - (w.ink.get c).estimate).natAbs) w
      (w.reconcile c level) := by
  have adjusted : ∀ (P : FaultCode → Prop), P .tallyOverflow → Work.RaisesOnly P w
      ((w.putInk c { w.ink.get c with estimate := level }).adjust c ((level : Int) - (w.ink.get c).estimate)) :=
    fun P h => .trans (.same rfl) (Work.adjust_raisesOnly _ _ _ h)
  simp only [Work.reconcile]
  split
  · rename_i h
    exact (adjusted _ (.inl rfl)).trans (Work.raise_raisesOnly _ _ (.inr ⟨rfl, h⟩))
  · exact adjusted _ (.inl rfl)

theorem Work.reconcile_drift {w : Work} {c : Channel} {level : Nat}
    (h : (w.reservoir c).tolerance < ((level : Int) - (w.ink.get c).estimate).natAbs) :
    { code := .driftExcess, detail := .channel c } ∈ (w.reconcile c level).raised := by
  simp [Work.reconcile, h, Work.raise]

theorem Work.anchor_raisesOnly (w : Work) (c : Channel) :
    Work.RaisesOnly (· = .tallyOverflow) w (w.anchor c) :=
  .trans (.same rfl) (Work.adjust_raisesOnly (P := (· = .tallyOverflow)) _ _ _ rfl)

/-- The level that a mark stands for (R1). -/
def State.levelOf (s : State) (c : Channel) : MarkName → Nat
  | .low => (s.reservoir c).lowLevel
  | .full => (s.reservoir c).fullLevel

/-- What a change of a mark does to an enabled KNOWN channel. -/
theorem Work.markReconcile_known {w : Work} {c : Channel} (hon : w.enabled c = true)
    (hk : (w.ink.get c).state = .known) (m : MarkName) (wet : Bool) :
    w.markReconcile c m wet = w.reconcile c (w.levelOf c m) := by
  cases m <;> simp [Work.markReconcile, hon, hk, State.levelOf]

theorem Work.markReconcile_anchor {w : Work} {c : Channel} (hon : w.enabled c = true)
    (hu : (w.ink.get c).state = .unknown) : w.markReconcile c .full true = w.anchor c := by
  simp [Work.markReconcile, hon, hu]

theorem Work.markReconcile_none {w : Work} {c : Channel} {m : MarkName} {wet : Bool}
    (h : w.enabled c = false ∨ (w.ink.get c).state = .unknown ∧ (m = .low ∨ wet = false)) :
    w.markReconcile c m wet = w := by
  rcases h with h | ⟨h, rfl | rfl⟩
  · simp [Work.markReconcile, h]
  · simp [Work.markReconcile, h]
  · cases m <;> simp [Work.markReconcile, h]

/-- A change of a mark moves the estimate and the estimate state of its own channel at most. -/
theorem Work.markReconcile_ink (w : Work) (c : Channel) (m : MarkName) (wet : Bool) :
    (∃ e st, (w.markReconcile c m wet).ink.get c = { w.ink.get c with estimate := e, state := st })
      ∧ ∀ d, d ≠ c → (w.markReconcile c m wet).ink.get d = w.ink.get d := by
  have none : (w.enabled c = false ∨ (w.ink.get c).state = .unknown ∧ (m = .low ∨ wet = false)) →
      (∃ e st, (w.markReconcile c m wet).ink.get c = { w.ink.get c with estimate := e, state := st })
        ∧ ∀ d, d ≠ c → (w.markReconcile c m wet).ink.get d = w.ink.get d := fun h => by
    rw [Work.markReconcile_none h]
    exact ⟨⟨_, _, rfl⟩, fun _ _ => rfl⟩
  cases hon : w.enabled c
  · exact none (.inl hon)
  · cases hk : (w.ink.get c).state
    · cases m
      · exact none (.inr ⟨hk, .inl rfl⟩)
      · cases wet
        · exact none (.inr ⟨hk, .inr rfl⟩)
        · rw [Work.markReconcile_anchor hon hk]
          exact ⟨⟨_, _, by rw [Work.anchor_ink, if_pos rfl]⟩, fun d hd => by rw [Work.anchor_ink, if_neg hd]⟩
    · rw [Work.markReconcile_known hon hk]
      exact ⟨⟨_, _, by rw [Work.reconcile_ink, if_pos rfl]⟩, fun d hd => by rw [Work.reconcile_ink, if_neg hd]⟩

theorem InkChannel.mark_moved (x : InkChannel) (e : Nat) (st : EstimateState) (m : MarkName) :
    ({ x with estimate := e, state := st } : InkChannel).mark m = x.mark m := by cases m <;> rfl

section
variable {s : State} {c : Channel} {m : MarkName} {wet : Bool}

theorem State.remarked_enabled : (s.remarked c m wet).enabled c = s.enabled c :=
  State.enabled_congr (s.remarked_frame c m wet).1 c

theorem State.remarked_state : ((s.remarked c m wet).ink.get c).state = (s.ink.get c).state := by simp

/-- The ink of an enabled channel after a change of one of its marks. -/
theorem markChange_ink {t : State} (ht : t.ink = ((s.remarked c m wet).markReconcile c m wet).ink) :
    ((t.ink.get c).mark m).state = markReading wet ∧ ((t.ink.get c).mark m).count = 0
      ∧ (t.ink.get c).residue = (s.ink.get c).residue ∧ ∀ d, d ≠ c → t.ink.get d = s.ink.get d := by
  obtain ⟨⟨e, st, he⟩, hd⟩ := (s.remarked c m wet).markReconcile_ink c m wet
  rw [ht]
  refine ⟨?_, ?_, by simp [he], fun d hne => ?_⟩
  · rw [he, InkChannel.mark_moved]
    simp
  · rw [he, InkChannel.mark_moved]
    simp [InkChannel.settleMark]
  · rw [hd d hne]
    simp [PerChannel.get_set_ne _ hne]

/-- A KNOWN channel's estimate and adjusted tally after a change of one of its marks. -/
theorem markChange_known (hon : s.enabled c = true) (hk : (s.ink.get c).state = .known) :
    (((s.remarked c m wet).markReconcile c m wet).finish.ink.get c).state = .known
      ∧ (((s.remarked c m wet).markReconcile c m wet).finish.ink.get c).estimate = s.levelOf c m
      ∧ (((s.remarked c m wet).markReconcile c m wet).finish.tally.channels.get c).adjusted
          = max (-2147483648) (min 2147483647 ((s.tally.channels.get c).adjusted
              + ((s.levelOf c m : Int) - (s.ink.get c).estimate)))
      ∧ ((s.reservoir c).tolerance < ((s.levelOf c m : Int) - (s.ink.get c).estimate).natAbs →
          FaultCode.driftExcess ∈ ((s.remarked c m wet).markReconcile c m wet).finish.faults.active)
      ∧ (((s.levelOf c m : Int) - (s.ink.get c).estimate).natAbs ≤ (s.reservoir c).tolerance →
          FaultCode.driftExcess ∈ ((s.remarked c m wet).markReconcile c m wet).finish.faults.active →
          FaultCode.driftExcess ∈ s.faults.active) := by
  have hv := Work.markReconcile_known (w := s.remarked c m wet) (State.remarked_enabled.trans hon) (State.remarked_state.trans hk) m wet
  have hres : (s.remarked c m wet).reservoir c = s.reservoir c := State.reservoir_congr (s.remarked_frame c m wet).1 c
  have hlevel : (s.remarked c m wet).levelOf c m = s.levelOf c m := by cases m <;> simp [State.levelOf, hres]
  have hest : ((s.remarked c m wet).ink.get c).estimate = (s.ink.get c).estimate := by simp
  rw [hv, hlevel]
  refine ⟨?_, ?_, ?_, fun hlt => ?_, fun hle hd => ?_⟩
  · simp [Work.reconcile_ink, hk]
  · simp [Work.reconcile_ink]
  · simp [Work.reconcile_tally, TallyChannel.booked_adjusted]
  · refine Work.finish_raised (r := { code := .driftExcess, detail := .channel c }) (Work.reconcile_drift ?_)
    rwa [hres, hest]
  · have only := (s.remarked c m wet).reconcile_raisesOnly c (s.levelOf c m)
    rw [hres, hest] at only
    have begun : Work.RaisesOnly (fun f => f = .tallyOverflow ∨ f = .driftExcess
        ∧ (s.reservoir c).tolerance < ((s.levelOf c m : Int) - (s.ink.get c).estimate).natAbs) (Work.begin s)
        (s.remarked c m wet) := .same (s.remarked_frame c m wet).2.2.2.2.1
    rcases Work.finish_active_only (begun.trans only) hd with h | (h | ⟨-, h⟩) | ⟨h, -⟩
    · simpa using h
    · cases h
    · exact absurd h (Nat.not_lt.2 hle)
    · cases h

/-- A change of a mark of an UNKNOWN channel raises no DRIFT EXCESS. -/
theorem markChange_unknown_drift (hon : s.enabled c = true) (hu : (s.ink.get c).state = .unknown)
    (hd : FaultCode.driftExcess ∈ ((s.remarked c m wet).markReconcile c m wet).finish.faults.active) :
    FaultCode.driftExcess ∈ s.faults.active := by
  have begun : Work.RaisesOnly (· = .tallyOverflow) (Work.begin s) (s.remarked c m wet) :=
    .same (s.remarked_frame c m wet).2.2.2.2.1
  have only : Work.RaisesOnly (· = .tallyOverflow) (Work.begin s) ((s.remarked c m wet).markReconcile c m wet) := by
    have hu' := State.remarked_state (m := m) (wet := wet) |>.trans hu
    by_cases h : m = .low ∨ wet = false
    · rwa [Work.markReconcile_none (.inr ⟨hu', h⟩)]
    · simp only [not_or, Bool.not_eq_false] at h
      obtain ⟨hm, rfl⟩ := h
      obtain rfl : m = .full := by cases m <;> simp_all
      rw [Work.markReconcile_anchor (State.remarked_enabled.trans hon) hu']
      exact begun.trans (Work.anchor_raisesOnly _ _)
  rcases Work.finish_active_only only hd with h | h | ⟨h, -⟩
  · simpa using h
  · cases h
  · cases h

/-- A FULL mark that turns WET leaves the valve closed. -/
theorem markChange_closes :
    (((s.remarked c .full true).markReconcile c .full true).finish.refill.get c).state ≠ .opened := by
  have hr : ((s.remarked c .full true).markReconcile c .full true).refill = (s.remarked c .full true).refill := by simp
  have hwet := (markChange_ink (s := s) (c := c) (m := .full) (wet := true) (t := _) rfl).1
  rcases Work.finish_closed (w := (s.remarked c .full true).markReconcile c .full true) (c := c)
    (by rw [hr]; exact s.remarked_refill c) with ⟨-, h, -⟩ | ⟨h, -⟩
  · exact absurd hwet h
  · exact h

end

/-- Settles O46: the sample of a tick, an event without its samples, a change of an enabled and of a disabled
channel's mark, and a settling. -/
theorem marksReconcileAndSettle : Obligations.MarksReconcileAndSettle := by
  unfold Obligations.MarksReconcileAndSettle
  refine ⟨fun s c m k hp hpin hk => ?_, fun s c m wet h => markEvents_unfiltered h,
    fun s c m wet hpin hon hn hw hs hne => ?_, fun s c m wet hpin hoff hn hw hs hne => ?_,
    fun s c m wet hpin hn hw hs => markSettled_takes hpin hn hw hs⟩
  · obtain ⟨t, k', hstep, hmark, rfl, hsettled, hchange, hno⟩ := tick_samples c m hp hpin
    rw [hk] at hmark hsettled hchange hno
    obtain ⟨hstate, hraw, hsample, hequal, hdiffer, hsame, hother⟩ := k.sampled_fields
    rw [hstate, hsample] at hsettled hchange
    exact ⟨t, _, hstep, hmark, hstate, hraw, hsample, hequal, hdiffer, hsame, hother, hsettled, hchange, hno⟩
  · refine ⟨_, completes_markChange hpin hn hw hs hne, ?_⟩
    have ht : ((s.remarked c m wet).markReconcile c m wet).finish.ink = ((s.remarked c m wet).markReconcile c m wet).ink := by
      simp
    obtain ⟨hstate, hcount, hres, hothers⟩ := markChange_ink ht
    refine ⟨by simp, hstate, hcount, hres, hothers, fun hk => ?_, fun hu => markChange_unknown_drift hon hu,
      fun hu hm => ?_, fun hu hm hw' => ?_, fun hm hw' => ?_⟩
    · obtain ⟨h1, h2, h3, h4, h5⟩ := markChange_known (m := m) (wet := wet) hon hk
      rw [h2]
      refine ⟨h1, by cases m <;> rfl, h3, h4, h5⟩
    · rw [Work.markReconcile_none (.inr ⟨State.remarked_state.trans hu, hm⟩)]
      exact ⟨by simp, by simp [InkChannel.settleMark]⟩
    · subst hm hw'
      rw [Work.markReconcile_anchor (State.remarked_enabled.trans hon) (State.remarked_state.trans hu)]
      have hres : (s.remarked c .full true).reservoir c = s.reservoir c :=
        State.reservoir_congr (s.remarked_frame c .full true).1 c
      simp [Work.anchor_ink, Work.anchor_tally, TallyChannel.booked_adjusted, hres]
    · subst hm hw'
      exact markChange_closes
  · refine ⟨_, completes_markChange hpin hn hw hs hne, ?_⟩
    rw [Work.markReconcile_none (.inl (State.remarked_enabled.trans hoff))]
    exact ⟨by simp, by simp, by simp [InkChannel.settleMark]⟩

end Sys2Proof.Machine
end

section
/-! PROOFS. A START taken: what each block does (R22, R37, R88, R126, R150, R166, R196). -/

namespace Sys2Proof.Machine

/-! ### The estimates (R22) -/

/-- A channel's ink after a START, its FULL mark looked at. -/
def InkChannel.started (x : InkChannel) (was on : Bool) (r : Reservoir) : InkChannel :=
  let y := x.refit was on r.capacity
  if y.anchors on then { y with estimate := r.fullLevel, state := .known } else y

/-- A channel's tallies after a START, its ink having stood as `x`. -/
def TallyChannel.started (t : TallyChannel) (x : InkChannel) (was on : Bool) (r : Reservoir) : TallyChannel :=
  let y := x.refit was on r.capacity
  let u := t.refit x was on r.capacity
  if y.anchors on then u.booked ((r.fullLevel : Int) - y.estimate) else u

theorem InkChannel.started_stays (x : InkChannel) (r : Reservoir) (h : x.state = .known) :
    x.started true true r = { x with estimate := Nat.min x.estimate r.capacity } := by
  simp [InkChannel.started, InkChannel.refit, InkChannel.anchors, h]

theorem InkChannel.started_leaves (x : InkChannel) (r : Reservoir) :
    x.started true false r = { x with estimate := 0, residue := 0, state := .unknown } := by
  simp [InkChannel.started, InkChannel.refit, InkChannel.anchors]

/-- A channel that was not enabled and KNOWN, at 0: its FULL mark anchors it, or it is UNKNOWN. -/
theorem InkChannel.started_anew {x : InkChannel} {was : Bool} (r : Reservoir) (hs : ¬ (was = true ∧ x.state = .known))
    (he : x.estimate = 0) (hr : x.residue = 0) :
    x.started was true r = if x.full.state = .wet then { x with estimate := r.fullLevel, state := .known }
      else { x with state := .unknown } := by
  cases x with | mk e d st low full =>
  obtain rfl : e = 0 := he
  obtain rfl : d = 0 := hr
  cases was
  · simp [InkChannel.started, InkChannel.refit, InkChannel.anchors]
  · cases st
    · simp [InkChannel.started, InkChannel.refit, InkChannel.anchors]
    · simp at hs

/-- The clamp of the adjusted tally moves nothing in its range. -/
theorem clamp_of_fits {a : Int} (h : -2147483648 ≤ a ∧ a ≤ 2147483647) : max (-2147483648) (min 2147483647 a) = a := by
  omega

theorem TallyChannel.started_adjusted {t : TallyChannel} {x : InkChannel} {was on : Bool} (r : Reservoir)
    (h : was = true ∨ x.estimate = 0 ∧ on = true) (hu : was = true → x.state = .unknown → x.estimate = 0)
    (hf : -2147483648 ≤ t.adjusted ∧ t.adjusted ≤ 2147483647) :
    (t.started x was on r).adjusted = max (-2147483648) (min 2147483647
      (t.adjusted + (((x.started was on r).estimate : Int) - x.estimate))) := by
  have clamped := clamp_of_fits hf
  cases was
  · obtain ⟨he, rfl⟩ : x.estimate = 0 ∧ on = true := h.resolve_left (by simp)
    by_cases hw : x.full.state = .wet <;>
      simp [TallyChannel.started, InkChannel.started, TallyChannel.refit, InkChannel.refit, InkChannel.anchors, hw, he,
        TallyChannel.booked_adjusted, clamped]
  · cases on
    · simp [TallyChannel.started, InkChannel.started, TallyChannel.refit, InkChannel.refit, InkChannel.anchors,
        TallyChannel.booked_adjusted]
    · cases hst : x.state
      · have he := hu rfl hst
        by_cases hw : x.full.state = .wet <;>
          simp [TallyChannel.started, InkChannel.started, TallyChannel.refit, InkChannel.refit, InkChannel.anchors, hw,
            he, hst, TallyChannel.booked_adjusted, clamped]
      · by_cases hlt : r.capacity < x.estimate
        · simp [TallyChannel.started, InkChannel.started, TallyChannel.refit, InkChannel.refit, InkChannel.anchors, hst,
            hlt, TallyChannel.booked_adjusted]
        · have hmin : Nat.min x.estimate r.capacity = x.estimate := Nat.min_eq_left (Nat.le_of_not_lt hlt)
          simp [TallyChannel.started, InkChannel.started, TallyChannel.refit, InkChannel.refit, InkChannel.anchors, hst,
            hlt, hmin, clamped]

theorem startsInk_of {s t : State} {c : Channel} {r : Reservoir} (hr : s.mode.held.sec0.reservoir.get c = r)
    (hi : t.ink.get c = (s.ink.get c).started (s.enabled c) (t.enabled c) r)
    (ht : (t.tally.channels.get c).adjusted
      = ((s.tally.channels.get c).started (s.ink.get c) (s.enabled c) (t.enabled c) r).adjusted) : StartsInk s t c := by
  rw [StartsInk, hi, ht, hr]
  refine ⟨fun hon ⟨hwas, hk⟩ => ?_, fun hwas hoff => ?_, fun hon hs he hres => ?_, fun h hu hf => ?_⟩
  · rw [hwas, hon, InkChannel.started_stays _ _ hk]
  · rw [hwas, hoff, InkChannel.started_leaves]
  · rw [hon, InkChannel.started_anew _ hs he hres]
  · exact TallyChannel.started_adjusted r h hu hf

/-- What the event of a START has left as it was when every channel's ink has been worked. -/
theorem Work.startedInk_frame (w : Work) :
    w.startedInk.refill = w.refill ∧ w.startedInk.feed = w.feed ∧ w.startedInk.keepWet = w.keepWet
      ∧ w.startedInk.nozzle = w.nozzle ∧ w.startedInk.link = w.link ∧ w.startedInk.faults = w.faults
      ∧ w.startedInk.pre = w.pre ∧ w.startedInk.drive = true
      ∧ w.startedInk.service.current = w.service.current := by
  have h := foldl_keeps (fun v c => v.startInk (w.mode.inForce.sec0.enabled.get c) c : Work → _ → Work)
    (fun v : Work => (v.refill, v.feed, v.keepWet, v.nozzle, v.link, v.faults, v.pre, v.drive, v.service.current))
    (fun b a => by simp)
  simp only [Prod.mk.injEq] at h
  obtain ⟨h1, h2, h3, h4, h5, h6, h7, h8, h9⟩ := h Channel.all w.enterRun
  exact ⟨h1, h2, h3, h4, h5, h6, h7, h8, h9⟩

theorem Work.startInk_tallyRest (w : Work) (was : Bool) (c : Channel) :
    { (w.startInk was c).tally with channels := w.tally.channels } = w.tally := by
  simp only [Work.startInk]
  (repeat' split) <;> rfl

/-- The tally unit's settings and marks after a START (R166). -/
theorem Work.startedInk_tally (w : Work) :
    { w.startedInk.tally with channels := w.tally.channels } = w.tally.started w.mode.held.sec3.initial := by
  refine foldl_invariant (fun (v : Work) c => v.startInk (w.mode.inForce.sec0.enabled.get c) c)
    (fun v => { v.tally with channels := w.tally.channels } = w.tally.started w.mode.held.sec3.initial)
    (fun v c h => ?_) Channel.all w.enterRun rfl
  have step := v.startInk_tallyRest (w.mode.inForce.sec0.enabled.get c) c
  rw [← h, ← step]

theorem Work.startInk_raisesOnly (w : Work) (was : Bool) (c : Channel) :
    Work.RaisesOnly (· = .tallyOverflow) w (w.startInk was c) := by
  have adjusted : ∀ (y : InkChannel) (d : Int),
      Work.RaisesOnly (· = .tallyOverflow) w ((w.putInk c y).adjust c d) := fun y d =>
    .trans (.same rfl) (Work.adjust_raisesOnly (P := (· = .tallyOverflow)) _ _ _ rfl)
  have refitted : Work.RaisesOnly (· = .tallyOverflow) w (w.refitInk was c) := by
    unfold Work.refitInk
    (repeat' split)
    · exact adjusted _ _
    · exact .same rfl
    · exact adjusted _ _
    · exact .same rfl
    · exact .same rfl
  rw [Work.startInk_eq]
  split
  · exact refitted.trans (Work.anchor_raisesOnly _ _)
  · exact refitted

theorem Work.startedInk_raisesOnly (w : Work) : Work.RaisesOnly (· = .tallyOverflow) w w.startedInk := by
  refine foldl_invariant (fun (v : Work) c => v.startInk (w.mode.inForce.sec0.enabled.get c) c)
    (fun v => Work.RaisesOnly (· = .tallyOverflow) w v) (fun v c h => h.trans (Work.startInk_raisesOnly ..))
    Channel.all w.enterRun (.same rfl)

/-! ### The link (R181, R182, R196) -/

theorem allStations_nodup : allStations.Nodup := by decide

theorem mem_allStations (n : StationNo) : n ∈ allStations := by revert n; decide

/-- A station's entry and what decides its age limit. -/
def Work.peerView (w : Work) (n : StationNo) : PeerEntry × ModeControl := (w.link.peers.get n, w.mode)

/-- A station entry once one that is due has become LOST (R181). -/
def State.agedOut (s : State) (n : StationNo) : PeerEntry :=
  if s.peerDue n then { s.link.peers.get n with presence := .lost } else s.link.peers.get n

/-- One station's part of `losePeers`. -/
def Work.loseDue (stations : StationSet) (w : Work) (n : StationNo) : Work :=
  if stations.get n && w.peerDue n then w.losePeer n else w

theorem Work.losePeers_eq (w : Work) (stations : StationSet) :
    w.losePeers stations = allStations.foldl (Work.loseDue stations) w := rfl

/-- A station entry made LOST, with nothing raised. -/
def Work.lostPeer (w : Work) (n : StationNo) : Work :=
  ({ w with link := { w.link with
      peers := w.link.peers.set n { w.link.peers.get n with presence := .lost } } } : Work).peersChanged

/-- PEER LOST is raised only with a sheet in progress (R75). -/
theorem Work.losePeer_cases (w : Work) (n : StationNo) :
    w.losePeer n = w.lostPeer n
      ∨ w.sheetInProgress = true ∧ w.losePeer n = (w.lostPeer n).raise .peerLost (.station n) := by
  have concerned : ∀ b, (if b = true then (w.lostPeer n).raise .peerLost (.station n) else w.lostPeer n) = w.losePeer n →
      (b = true → w.sheetInProgress = true) → w.losePeer n = w.lostPeer n
        ∨ w.sheetInProgress = true ∧ w.losePeer n = (w.lostPeer n).raise .peerLost (.station n) := by
    rintro (_ | _) he hs
    · exact .inl he.symm
    · exact .inr ⟨hs rfl, he.symm⟩
  refine concerned _ rfl fun hb => ?_
  split at hb
  · exact ((Bool.and_eq_true ..).mp hb).1
  · cases hb

theorem Work.losePeer_peers (w : Work) (n k : StationNo) :
    (w.losePeer n).link.peers.get k
      = if k = n then { w.link.peers.get n with presence := .lost } else w.link.peers.get k := by
  rcases w.losePeer_cases n with h | ⟨-, h⟩ <;> rw [h] <;> exact PerStation.get_set ..

theorem Work.loseDue_view (w : Work) (n k : StationNo) :
    (Work.loseDue (PerStation.fill true) w n).peerView k
      = if k = n then (w.agedOut n, w.mode) else w.peerView k := by
  by_cases hd : w.peerDue n
  · by_cases hk : k = n <;> simp [Work.loseDue, Work.peerView, State.agedOut, hd, Work.losePeer_peers, hk]
  · by_cases hk : k = n <;> simp [Work.loseDue, Work.peerView, State.agedOut, hd, hk]

theorem Work.losePeers_get (w : Work) (n : StationNo) :
    (w.losePeers (PerStation.fill true)).link.peers.get n = w.agedOut n := by
  have at_ := foldl_at (Work.loseDue (PerStation.fill true)) Work.peerView
    (fun v a b hne => by rw [Work.loseDue_view, if_neg hne])
    (fun v u a h => by
      simp only [Work.peerView, Prod.mk.injEq] at h
      obtain ⟨hp, hm⟩ := h
      have due : v.peerDue a = u.peerDue a := by
        unfold State.peerDue State.lostAge State.sec1
        rw [hp, hm]
      simp only [Work.loseDue_view, if_true, State.agedOut, due, hp, hm])
    allStations_nodup (mem_allStations n) w
  rw [Work.loseDue_view, if_pos rfl] at at_
  rw [Work.losePeers_eq]
  exact congrArg Prod.fst at_

/-- With no sheet in progress a LOST entry raises nothing. -/
theorem Work.losePeers_raised {w : Work} (h : w.sheetInProgress = false) (stations : StationSet) :
    (w.losePeers stations).raised = w.raised := by
  have step : ∀ (v : Work) (n : StationNo), (v.sheetInProgress = false ∧ v.raised = w.raised) →
      (Work.loseDue stations v n).sheetInProgress = false ∧ (Work.loseDue stations v n).raised = w.raised := by
    rintro v n ⟨hs, hr⟩
    unfold Work.loseDue
    split
    · rcases v.losePeer_cases n with e | ⟨hp, -⟩
      · rw [e]
        exact ⟨hs, hr⟩
      · simp [hs] at hp
    · exact ⟨hs, hr⟩
  have run := foldl_invariant (Work.loseDue stations) (fun v => v.sheetInProgress = false ∧ v.raised = w.raised) step
    allStations w ⟨h, rfl⟩
  rw [Work.losePeers_eq]
  exact run.2

theorem Work.losePeers_drive {w : Work} (h : w.drive = true) (stations : StationSet) :
    (w.losePeers stations).drive = true := by
  refine foldl_invariant (Work.loseDue stations) (fun v : Work => v.drive = true) (fun v n hv => ?_) allStations w h
  unfold Work.loseDue
  split
  · rcases v.losePeer_cases n with e | ⟨-, e⟩ <;> rw [e] <;> rfl
  · exact hv

/-- The link apart from its station entries. -/
def Work.linkRest (w : Work) : Link := { w.link with peers := PerStation.fill PeerEntry.absentEntry }

theorem Work.losePeers_linkRest (w : Work) (stations : StationSet) :
    (w.losePeers stations).linkRest = w.linkRest := by
  refine foldl_keeps (Work.loseDue stations) Work.linkRest (fun v n => ?_) allStations w
  unfold Work.loseDue
  split
  · rcases v.losePeer_cases n with e | ⟨-, e⟩ <;> rw [e] <;> rfl
  · rfl

theorem Work.losePeers_link (w : Work) (stations : StationSet) :
    (w.losePeers stations).link.statusDue = w.link.statusDue
      ∧ (w.losePeers stations).link.controller = w.link.controller
      ∧ (w.losePeers stations).link.errorWindow = w.link.errorWindow := by
  have h := w.losePeers_linkRest stations
  have due := congrArg Link.statusDue h
  have controller := congrArg Link.controller h
  have window := congrArg Link.errorWindow h
  exact ⟨due, controller, window⟩

/-- The STATUS slot due where the status period in force is reached (R196). -/
def Work.statusTest (w : Work) : Work :=
  if w.sec1.statusPeriod ≤ w.link.periodCount then w.statusDueNow else w

theorem Work.statusTest_facts (w : Work) :
    w.statusTest.link.statusDue = (w.link.statusDue || decide (w.sec1.statusPeriod ≤ w.link.periodCount))
      ∧ w.statusTest.link.peers = w.link.peers ∧ w.statusTest.link.controller = w.link.controller
      ∧ w.statusTest.link.errorWindow = w.link.errorWindow ∧ w.statusTest.feed = w.feed ∧ w.statusTest.mode = w.mode
      ∧ w.statusTest.raised = w.raised ∧ w.statusTest.drive = w.drive ∧ w.statusTest.service = w.service := by
  unfold Work.statusTest
  split <;> simp [Work.statusDueNow, *]

/-- The controller entry once one that is due has become LOST (R182). -/
def State.controllerAged (s : State) : ControllerEntry :=
  if s.controllerDue then { s.link.controller with presence := .lost } else s.link.controller

/-- The controller entry made LOST where it is due (R182). -/
def Work.controllerTest (w : Work) : Work := if w.controllerDue then w.loseController else w

theorem Work.raiseCapIdle_facts (w : Work) :
    w.raiseCapIdle.raised = w.raised ∧ w.raiseCapIdle.drive = w.drive
      ∧ w.raiseCapIdle.service.current = w.service.current ∧ w.raiseCapIdle.link = w.link := by
  unfold Work.raiseCapIdle
  split <;> exact ⟨rfl, rfl, rfl, rfl⟩

theorem Work.controllerTest_facts (w : Work) :
    w.controllerTest.link.statusDue = w.link.statusDue ∧ w.controllerTest.link.peers = w.link.peers
      ∧ (w.sheetInProgress = false → w.controllerTest.raised = w.raised)
      ∧ (w.drive = true → w.controllerTest.drive = true)
      ∧ w.controllerTest.service.current = w.service.current
      ∧ w.controllerTest.link.controller = w.controllerAged
      ∧ w.controllerTest.link.errorWindow = w.link.errorWindow := by
  simp only [Work.controllerTest, Work.loseController, State.controllerAged]
  split
  · split
    · rename_i hs
      exact ⟨rfl, rfl, fun h => by simp [h] at hs, fun _ => rfl, rfl, rfl, rfl⟩
    · obtain ⟨hr, hd, hc, hl⟩ := ({ w with link := { w.link with
          controller := { w.link.controller with presence := .lost } } } : Work).peersChanged.raiseCapIdle_facts
      exact ⟨by rw [hl]; rfl, by rw [hl]; rfl, fun _ => hr, fun _ => hd, hc, by rw [hl]; rfl, by rw [hl]; rfl⟩
  · exact ⟨rfl, rfl, fun _ => rfl, id, rfl, rfl, rfl⟩

theorem Work.startLink_eq (w : Work) :
    w.startLink = (w.statusTest.losePeers (PerStation.fill true)).controllerTest := rfl

/-- The link's part of a START. -/
theorem Work.startLink_facts (w : Work) :
    w.startLink.link.statusDue = (w.link.statusDue || decide (w.sec1.statusPeriod ≤ w.link.periodCount))
      ∧ (∀ n, w.startLink.link.peers.get n = w.agedOut n)
      ∧ (w.sheetInProgress = false → w.startLink.raised = w.raised)
      ∧ (w.drive = true → w.startLink.drive = true)
      ∧ w.startLink.service.current = w.service.current
      ∧ w.startLink.link.controller = w.controllerAged
      ∧ w.startLink.link.errorWindow = w.link.errorWindow := by
  obtain ⟨sdue, speers, scontroller, swindow, sfeed, smode, sraised, sdrive, sservice⟩ := w.statusTest_facts
  obtain ⟨ldue, lcontroller, lwindow⟩ := w.statusTest.losePeers_link (PerStation.fill true)
  obtain ⟨cdue, cpeers, craised, cdrive, ccurrent, ccontroller, cwindow⟩ :=
    (w.statusTest.losePeers (PerStation.fill true)).controllerTest_facts
  rw [Work.startLink_eq]
  refine ⟨?_, fun n => ?_, fun hs => ?_, fun hd => ?_, ?_, ?_, ?_⟩
  · rw [cdue, ldue, sdue]
  · rw [cpeers, Work.losePeers_get]
    unfold State.agedOut State.peerDue State.lostAge State.sec1
    rw [speers, smode]
  · have hs' : w.statusTest.sheetInProgress = false := by
      rw [← hs]
      simp [State.sheetInProgress, sfeed]
    rw [craised (by rw [← hs']; simp [State.sheetInProgress]), Work.losePeers_raised hs', sraised]
  · exact cdrive (Work.losePeers_drive (sdrive.trans hd) _)
  · rw [ccurrent]
    simp [sservice]
  · have due : (w.statusTest.losePeers (PerStation.fill true)).controllerDue = w.controllerDue := by
      unfold State.controllerDue State.sec1
      rw [lcontroller, scontroller, (Work.losePeers_frame ..).2.2.2.2.2.2.2.2.1, smode]
    rw [ccontroller, State.controllerAged, State.controllerAged, due, lcontroller, scontroller]
  · rw [cwindow, lwindow, swindow]

end Sys2Proof.Machine
end

section
/-! PROOFS. A START taken: its blocks together, the end of its event, and the statement (R196). -/

namespace Sys2Proof.Machine

/-! ### What the body of a START leaves -/

/-- The work of a START up to the link. -/
def Work.startBlocks (w : Work) : Work :=
  ((w.startedInk.revalue.releaseRefill).startKeepWet).startNozzle w.anyUncovered

theorem Work.takeStart_eq (w : Work) : w.takeStart = w.startBlocks.startLink := rfl

theorem Work.startNozzle_nozzle (w : Work) (before : Bool) :
    (w.startNozzle before).nozzle = { w.nozzle with
      armed := w.sec3.autoRecovery
      ladders := PerChannel.gen fun c => if w.enabled c then w.nozzle.ladders.get c else Ladder.reset } := by
  simp [Work.startNozzle]

theorem Work.raiseRecovery_raised (w : Work) : w.raiseRecovery.raised = w.raised := by simp

theorem Work.startNozzle_raisesOnly (w : Work) (before : Bool) :
    Work.RaisesOnly (· = .columnUncovered) w (w.startNozzle before) := by
  have uncovered : ∀ v : Work, v.raised = w.raised →
      Work.RaisesOnly (· = .columnUncovered) w (v.raiseUncovered before) := fun v hv => by
    unfold Work.raiseUncovered
    split
    · split
      · exact .same hv
      · exact .trans (.same hv) (v.raise_raisesOnly _ rfl)
    · exact .same hv
  unfold Work.startNozzle
  refine Work.RaisesOnly.trans ?_ (.same (Work.raiseRecovery_raised _))
  exact uncovered _ rfl

theorem Work.startKeepWet_keepWet (w : Work) :
    w.startKeepWet.keepWet.counter = some w.sec3.keepWetInterval ∧ w.startKeepWet.keepWet.cappedTicks = 0
      ∧ w.startKeepWet.keepWet.pointer = w.keepWet.pointer ∧ w.startKeepWet.keepWet.missed = w.keepWet.missed
      ∧ w.startKeepWet.keepWet.dry = w.keepWet.dry := by
  simp only [Work.startKeepWet]
  split <;> exact ⟨rfl, rfl, rfl, rfl, rfl⟩

/-- The release passes a disabled channel over. -/
theorem Work.releaseRefill_off {w : Work} {c : Channel} (h : w.enabled c = false) :
    w.releaseRefill.refill.get c = w.refill.get c := by
  unfold Work.releaseRefill
  split
  · simp [h]
  · rfl

theorem Work.startBlocks_frame (w : Work) :
    w.startBlocks.mode = w.mode.running ∧ w.startBlocks.feed = w.feed ∧ w.startBlocks.link = w.link
      ∧ w.startBlocks.drive = true ∧ w.startBlocks.faults = w.faults
      ∧ w.startBlocks.refill = w.startedInk.revalue.releaseRefill.refill := by
  obtain ⟨-, feed, -, -, link, faults, -, drive, -⟩ := w.startedInk_frame
  simp [Work.startBlocks, Work.startedInk_mode, feed, link, faults, drive]

theorem Work.startBlocks_refill (w : Work) (c : Channel) :
    (w.mode.held.sec0.enabled.get c = false → w.startBlocks.refill.get c = w.refill.get c)
      ∧ (w.purgeRunning = false → w.mode.held.sec0.enabled.get c = true →
          w.startBlocks.refill.get c = (w.refill.get c).released) := by
  obtain ⟨refill, -, -, -, -, -, -, -, current⟩ := w.startedInk_frame
  obtain ⟨-, -, -, -, -, released⟩ := w.startBlocks_frame
  have mode : w.startedInk.revalue.mode = w.mode.running := w.startedInk_mode
  have on : w.startedInk.revalue.enabled c = w.mode.held.sec0.enabled.get c := by
    rw [State.enabled, mode]
    rfl
  have kept : w.startedInk.revalue.refill = w.refill := refill
  rw [released, ← kept, ← on]
  refine ⟨Work.releaseRefill_off, fun hp => Work.releaseRefill_get (by rw [mode]; rfl) ?_⟩
  rw [← hp]
  exact State.purgeRunning_congr current

theorem Work.startBlocks_keepWet (w : Work) :
    w.startBlocks.keepWet.counter = some w.mode.held.sec3.first.keepWetInterval
      ∧ w.startBlocks.keepWet.cappedTicks = 0 ∧ w.startBlocks.keepWet.pointer = w.keepWet.pointer
      ∧ w.startBlocks.keepWet.missed = w.keepWet.missed ∧ w.startBlocks.keepWet.dry = w.keepWet.dry := by
  have started := w.startedInk.revalue.releaseRefill.startKeepWet_keepWet
  obtain ⟨-, -, keepWet, -⟩ := w.startedInk_frame
  have kept : w.startBlocks.keepWet = w.startedInk.revalue.releaseRefill.startKeepWet.keepWet := by
    simp [Work.startBlocks]
  rw [kept]
  simpa [State.sec3, Work.startedInk_mode, keepWet, ModeControl.running] using started

theorem Work.startBlocks_nozzle (w : Work) :
    w.startBlocks.nozzle = { w.nozzle with
      armed := w.mode.held.sec3.first.autoRecovery
      ladders := PerChannel.gen fun c =>
        if w.mode.held.sec0.enabled.get c then w.nozzle.ladders.get c else Ladder.reset } := by
  obtain ⟨-, -, -, nozzle, -⟩ := w.startedInk_frame
  rw [Work.startBlocks, Work.startNozzle_nozzle]
  simp [State.sec3, State.enabled, Work.startedInk_mode, nozzle, ModeControl.running]

theorem Work.startBlocks_raisesOnly (w : Work) :
    Work.RaisesOnly (fun f => f = .tallyOverflow ∨ f = .columnUncovered) w w.startBlocks := by
  have ink := w.startedInk_raisesOnly.mono (Q := fun f => f = .tallyOverflow ∨ f = .columnUncovered) fun _ => .inl
  have kept : Work.RaisesOnly (fun f => f = .tallyOverflow ∨ f = .columnUncovered) w.startedInk
      w.startedInk.revalue.releaseRefill.startKeepWet := .same (by simp)
  exact ink.trans (kept.trans ((Work.startNozzle_raisesOnly ..).mono fun _ => .inr))

theorem State.peerDue_iff (s : State) (n : StationNo) :
    s.peerDue n = true ↔ (s.link.peers.get n).presence = .present ∧ s.lostAge ≤ (s.link.peers.get n).age := by
  simp [State.peerDue]

theorem State.controllerDue_iff (s : State) :
    s.controllerDue = true ↔ s.mode.started = true ∧ s.link.controller.presence = .present
      ∧ s.sec1.controllerTimeout ≤ s.link.controller.age := by
  simp [State.controllerDue, and_assoc]

theorem State.agedOut_eq (s : State) (n : StationNo) :
    s.agedOut n = if (s.link.peers.get n).presence = .present
        ∧ 3 * s.mode.inForce.sec1.statusPeriod ≤ (s.link.peers.get n).age
      then { s.link.peers.get n with presence := .lost } else s.link.peers.get n :=
  if_congr (s.peerDue_iff n) rfl rfl

/-- Once started, the station ages the controller entry by the timeout in force. -/
theorem State.controllerAged_eq {s : State} (h : s.mode.started = true) :
    s.controllerAged = if s.link.controller.presence = .present
        ∧ s.mode.inForce.sec1.controllerTimeout ≤ s.link.controller.age
      then { s.link.controller with presence := .lost } else s.link.controller :=
  if_congr (s.controllerDue_iff.trans (and_iff_right h)) rfl rfl

/-- What the body of a START leaves, block by block. -/
structure Work.StartTaken (s : State) (w : Work) : Prop where
  mode : w.mode = s.mode.running
  ink : ∀ c, w.ink.get c = (s.ink.get c).started (s.enabled c) (s.mode.held.sec0.enabled.get c)
    (s.mode.held.sec0.reservoir.get c)
  tallies : ∀ c, w.tally.channels.get c = (s.tally.channels.get c).started (s.ink.get c) (s.enabled c)
    (s.mode.held.sec0.enabled.get c) (s.mode.held.sec0.reservoir.get c)
  tally : { w.tally with channels := s.tally.channels } = s.tally.started s.mode.held.sec3.initial
  keepWet : w.keepWet.counter = some s.mode.held.sec3.first.keepWetInterval ∧ w.keepWet.cappedTicks = 0
    ∧ w.keepWet.pointer = s.keepWet.pointer ∧ w.keepWet.missed = s.keepWet.missed
    ∧ w.keepWet.dry = s.keepWet.dry
  nozzle : w.nozzle = { s.nozzle with
    armed := s.mode.held.sec3.first.autoRecovery
    ladders := PerChannel.gen fun c =>
      if s.mode.held.sec0.enabled.get c then s.nozzle.ladders.get c else Ladder.reset }
  disabled : ∀ c, s.mode.held.sec0.enabled.get c = false → w.refill.get c = s.refill.get c
  released : s.purgeRunning = false → ∀ c, s.mode.held.sec0.enabled.get c = true →
    w.refill.get c = (s.refill.get c).released
  feed : w.feed = s.feed
  drive : w.drive = true
  faults : w.faults = s.faults
  raised : s.sheetInProgress = false →
    Work.RaisesOnly (fun f => f = .tallyOverflow ∨ f = .columnUncovered) (Work.begin s) w
  statusDue : w.link.statusDue
    = (s.link.statusDue || decide (s.mode.held.sec1.statusPeriod ≤ s.link.periodCount))
  peers : ∀ n, w.link.peers.get n =
    if (s.link.peers.get n).presence = .present
        ∧ 3 * s.mode.held.sec1.statusPeriod ≤ (s.link.peers.get n).age then
      { s.link.peers.get n with presence := .lost }
    else s.link.peers.get n
  controller : w.link.controller =
    if s.link.controller.presence = .present
        ∧ s.mode.held.sec1.controllerTimeout ≤ s.link.controller.age then
      { s.link.controller with presence := .lost }
    else s.link.controller
  errorWindow : w.link.errorWindow = s.link.errorWindow

theorem takeStart_taken (s : State) : (Work.begin s).takeStart.StartTaken s := by
  obtain ⟨ink, tally, mode⟩ := (Work.begin s).takeStart_ledger
  obtain ⟨bmode, bfeed, blink, bdrive, bfaults, -⟩ := (Work.begin s).startBlocks_frame
  obtain ⟨due, peers, raised, drive, -, controller, window⟩ := (Work.begin s).startBlocks.startLink_facts
  refine
    { mode := mode
      ink := fun c => ?_
      tallies := fun c => ?_
      tally := ?_
      keepWet := ?_
      nozzle := ?_
      disabled := fun c => ?_
      released := fun hp c => ?_
      feed := ?_
      drive := drive bdrive
      faults := ?_
      raised := fun hs => ?_
      statusDue := ?_
      peers := fun n => ?_
      controller := ?_
      errorWindow := ?_ }
  · rw [ink, ((Work.begin s).startedInk_get c).1, Work.startInk_ink, if_pos rfl]
    rfl
  · rw [tally, ((Work.begin s).startedInk_get c).2, Work.startInk_tally, if_pos rfl]
    rfl
  · rw [tally]
    exact (Work.begin s).startedInk_tally
  · rw [Work.takeStart_eq, (Work.startLink_frame _).2.2.2.2.1]
    exact (Work.begin s).startBlocks_keepWet
  · rw [Work.takeStart_eq, (Work.startLink_frame _).2.2.2.2.2.1]
    exact (Work.begin s).startBlocks_nozzle
  · rw [Work.takeStart_eq, (Work.startLink_frame _).2.1]
    exact ((Work.begin s).startBlocks_refill c).1
  · rw [Work.takeStart_eq, (Work.startLink_frame _).2.1]
    exact ((Work.begin s).startBlocks_refill c).2 hp
  · rw [Work.takeStart_eq, (Work.startLink_frame _).2.2.2.1, bfeed]
    rfl
  · rw [Work.takeStart_eq, (Work.startLink_frame _).2.2.2.2.2.2.2.2.1, bfaults]
    rfl
  · have none : (Work.begin s).startBlocks.sheetInProgress = false := by
      rw [← hs, State.sheetInProgress, bfeed]
      rfl
    exact (Work.begin s).startBlocks_raisesOnly.trans (.same (raised none))
  · rw [Work.takeStart_eq, due, State.sec1, bmode, blink]
    rfl
  · rw [Work.takeStart_eq, peers, State.agedOut_eq, bmode, blink]
    rfl
  · rw [Work.takeStart_eq, controller, State.controllerAged_eq (by rw [bmode]; rfl), bmode, blink]
    rfl
  · rw [Work.takeStart_eq, window, blink]
    rfl

/-! ### The end of the event of a START -/

/-- A STATUS that the end of an event makes due goes with an early request. -/
theorem Work.finish_statusDue {w : Work} (h : w.finish.link.statusDue = true) :
    w.link.statusDue = true ∨ w.finish.link.early = true := by
  have settled : w.settle.link.statusDue = w.link.statusDue := by
    have stage : w.settle.link = w.overfillTests.faultStage.link := by simp [Work.settle]
    rw [stage, (Work.faultStage_link _).2.2.2.2.1]
    simp
  rw [← settled]
  rw [Work.finish_eq] at h ⊢
  generalize w.settle = v at h ⊢
  by_cases he : earlyChange v.pre v.toState = true
  · exact .inr (by simp [he, Link.requestEarly])
  · exact .inl (by simpa [he] using h)

/-- In RUN, with no sheet-stop fault active and no move in progress, the station drives FHOLD no longer (R76). -/
theorem State.drivenFeed_released {s : State} (hrun : s.mode.mode = .run) (hstop : s.sheetStopped = false)
    (hmove : s.moveInProgress = false) : s.drivenFeed.fholdDrive = false := by
  have bound : s.boundMoveInProgress = false := by
    revert hmove
    unfold State.moveInProgress State.boundMoveInProgress
    (repeat' split) <;> simp
  have wanted : ∀ t : State, t.mode.mode = .run → t.sheetStopped = false → t.moveInProgress = false →
      t.boundMoveInProgress = false → t.feed.readinessHold = false → t.fholdWanted = false := by
    intro t run stop move bound hold
    simp [State.fholdWanted, State.inRun, run, stop, move, bound, hold]
  exact wanted _ hrun hstop hmove bound (by simp [State.holdsForReadiness, hmove])

theorem Work.finish_fhold {w : Work} (hd : w.drive = true) (hrun : w.mode.mode = .run)
    (hstop : w.finish.sheetStopped = false) (hmove : w.moveInProgress = false) :
    w.finish.feed.fholdDrive = false := by
  have driven : w.finish.feed = w.chosen.refillStage.drivenFeed := by
    rw [w.finish_settled.2.2.2.1, Work.settle_eq, Work.driveStage]
    simp [w.chosen_onward.drive hd]
  have feed : w.chosen.refillStage.feed = w.feed := by simp
  rw [driven]
  refine State.drivenFeed_released (by simpa using hrun) ?_ ?_
  · rw [← hstop, State.sheetStopped, State.sheetStopped]
    simp
  · rw [← hmove, State.moveInProgress, State.moveInProgress, feed]

/-! ### The statement -/

theorem Work.StartTaken.outcome {s : State} {w : Work} (h : w.StartTaken s) (ref : Nat) :
    (w.outcome .start ref .accepted).StartTaken s :=
  ⟨h.mode, h.ink, h.tallies, h.tally, h.keepWet, h.nozzle, h.disabled, h.released, h.feed, h.drive, h.faults, h.raised,
    h.statusDue, h.peers, h.controller, h.errorWindow⟩

theorem RefillChannel.released_held {x : RefillChannel} (h : x.state = .held) :
    x.released.state = (if x.lockedMark then .locked else if x.starvedMark then .starved else .idle) := by
  simp [RefillChannel.released, h]

section
variable {s : State} {w : Work} (h : w.StartTaken s) (c : Channel)
include h

theorem Work.StartTaken.enabled : w.finish.enabled c = s.mode.held.sec0.enabled.get c := by
  rw [State.enabled, w.finish_frame.2.2.1, h.mode]
  rfl

theorem Work.StartTaken.startsInk : StartsInk s w.finish c := by
  obtain ⟨ink, tally, -⟩ := w.finish_frame
  refine startsInk_of rfl ?_ ?_
  · rw [ink, h.ink, h.enabled]
  · rw [tally, h.tallies, h.enabled]

/-- A disabled channel stays HELD. -/
theorem Work.StartTaken.stays_held (hx : (s.refill.get c).state = .held) (hoff : w.finish.enabled c = false) :
    (w.finish.refill.get c).state = .held := by
  have kept := h.disabled c (h.enabled c ▸ hoff)
  have hw : (w.refill.get c).state = .held := by rw [kept, hx]
  have shut : ¬ w.overfills c := fun ho => by
    obtain ⟨opened, -⟩ := ho
    simp [hw] at opened
  obtain ⟨x, hx, settles⟩ := w.finish_refill_get c
  rw [Work.overfillTests_refill, if_neg shut] at hx
  have held : x.state = .held := by
    rcases hx with rfl | ⟨-, rfl⟩
    · exact hw
    · exact (w.refill.get c).hold_fields.1
  obtain ⟨d, e, hy⟩ := settles.stands (by simp [held]) (by simp [held]) (by simp [held])
  rw [hy]
  exact held

/-- An enabled channel leaves HELD for the state that its marks call for, where no purge runs (R37). -/
theorem Work.StartTaken.leaves_held (hp : s.purgeRunning = false) (hq : w.finish.purgeRunning = false)
    (hx : (s.refill.get c).state = .held) (hon : w.finish.enabled c = true) :
    ((s.refill.get c).lockedMark = true → (w.finish.refill.get c).state = .locked)
      ∧ ((s.refill.get c).lockedMark = false → (s.refill.get c).starvedMark = true →
          (w.finish.refill.get c).state = .starved)
      ∧ ((s.refill.get c).lockedMark = false → (s.refill.get c).starvedMark = false →
          (w.finish.refill.get c).state = .idle ∨ (w.finish.refill.get c).state = .want
            ∨ (w.finish.refill.get c).state = .opened) := by
  have left : (w.refill.get c).state = _ :=
    (congrArg RefillChannel.state (h.released hp c (h.enabled c ▸ hon))).trans (RefillChannel.released_held hx)
  have shut : ¬ w.overfills c := fun ho => by
    obtain ⟨opened, -⟩ := ho
    rw [left] at opened
    revert opened
    (repeat' split) <;> simp
  obtain ⟨x, hx, settles⟩ := w.finish_refill_get c
  rw [Work.overfillTests_refill, if_neg shut] at hx
  obtain rfl := hx.resolve_right fun k => by simp [hq] at k
  have stands : ∀ st, st = RefillState.locked ∨ st = .starved → (w.refill.get c).state = st →
      (w.finish.refill.get c).state = st := fun st hst he => by
    obtain ⟨d, e, hy⟩ := settles.stands (by rcases hst with rfl | rfl <;> simp [he])
      (by rcases hst with rfl | rfl <;> simp [he]) (by rcases hst with rfl | rfl <;> simp [he])
    rw [hy]
    exact he
  refine ⟨fun hl => ?_, fun hl hs => ?_, fun hl hs => settles.of_idle ?_⟩
  · exact stands _ (.inl rfl) (by simp [left, hl])
  · exact stands _ (.inr rfl) (by simp [left, hl, hs])
  · simp [left, hl, hs]

/-- No sheet-stop fault becomes active with no sheet in progress. -/
theorem Work.StartTaken.unstopped (hsheet : s.sheetInProgress = false) (hstop : s.sheetStopped = false) :
    w.finish.sheetStopped = false := by
  simp only [State.sheetStopped, List.any_eq_false, Bool.not_eq_true] at hstop ⊢
  intro f hf
  rcases Work.finish_active_only (h.raised hsheet) hf with stood | (rfl | rfl) | ⟨rfl, -⟩
  · exact hstop f (h.faults ▸ stood)
  all_goals rfl

end

/-- Settles O38: each block's work at START, then what the end of the event makes of it. -/
theorem startPutsTheConfigurationInForce : Obligations.StartPutsTheConfigurationInForce := by
  unfold Obligations.StartPutsTheConfigurationInForce
  intro s ref hpin hpass
  have taken := (takeStart_taken s).outcome ref
  refine ⟨_, completes_body rfl hpin, ?_⟩
  have work : body (.start ref) (Work.begin s) = (Work.begin s).takeStart.outcome .start ref .accepted := by
    simp only [body]
    rw [show (Work.begin s).startRefusal = none from hpass]
  rw [work]
  generalize (Work.begin s).takeStart.outcome .start ref .accepted = w at taken ⊢
  obtain ⟨-, ftally, fmode, -⟩ := w.finish_frame
  obtain ⟨fnozzle, fkeepWet, -⟩ := w.finish_chosen
  obtain ⟨-, fwindow, -, -, fdue, -, -, -, fpeers, fcontroller, -⟩ := w.finish_link
  obtain ⟨-, nfailed, nissue, narmed⟩ := w.chosen_onward.nozzle
  obtain ⟨kcounter, kpointer, kmissed, kdry⟩ := w.chosen_onward.keepWet
  obtain ⟨counter, capped, pointer, missed, dry⟩ := taken.keepWet
  have tally := taken.tally
  have tpending := congrArg Tally.pendingCopy tally
  have tinForce := congrArg Tally.inForce tally
  have tprior := congrArg Tally.prior tally
  have tstart := congrArg Tally.startInPeriod tally
  have tleading := congrArg Tally.leadingSeen tally
  have ttrailing := congrArg Tally.trailingSeen tally
  have toutstanding := congrArg Tally.outstanding tally
  rw [ftally, fmode, fnozzle, fkeepWet, fwindow, fpeers, fcontroller]
  refine ⟨taken.mode, tinForce, tprior.trans tinForce.symm, tpending, tstart, tleading, ttrailing, toutstanding,
    kcounter.trans counter, w.chosen_onward.capped capped, kpointer.trans pointer, kmissed.trans missed,
    kdry.trans dry, narmed.trans (by rw [taken.nozzle]), nfailed.trans (by rw [taken.nozzle]),
    nissue.trans (by rw [taken.nozzle]), fun c hoff => w.chosen_onward.ladder c ?_, taken.startsInk,
    taken.stays_held, fun hp hq c => taken.leaves_held c hp hq, fun hsheet hmove hstop => ?_, fun hd => fdue ?_,
    fun hd => ?_, taken.peers, taken.controller, taken.errorWindow⟩
  · have off := taken.enabled c ▸ hoff
    simp [taken.nozzle, off]
  · refine Work.finish_fhold taken.drive (by rw [taken.mode]; rfl) (taken.unstopped hsheet hstop) ?_
    rw [← hmove, State.moveInProgress, State.moveInProgress, taken.feed]
  · rw [taken.statusDue]
    simpa using hd
  · rcases Work.finish_statusDue hd with due | early
    · rw [taken.statusDue] at due
      rcases (Bool.or_eq_true ..).mp due with hs | hp
      · exact .inl hs
      · exact .inr (.inl (by simpa using hp))
    · exact .inr (.inr early)

end Sys2Proof.Machine
end

section
/-! SUPPORT. The action in progress and the mask level: which operations leave both as they were (R91, R103). -/

namespace Sys2Proof.Machine

/-! ### Requests (R102) -/

@[simp] theorem Work.request_hand (w : Work) (src : Source) :
    (w.request src).service.current = w.service.current ∧ (w.request src).service.mask = w.service.mask := ⟨rfl, rfl⟩

@[simp] theorem Work.withdraw_hand (w : Work) (src : Source) :
    (w.withdraw src).service.current = w.service.current ∧ (w.withdraw src).service.mask = w.service.mask := ⟨rfl, rfl⟩

@[simp] theorem Work.setCapped_hand (w : Work) (b : Bool) :
    (w.setCapped b).service.current = w.service.current ∧ (w.setCapped b).service.mask = w.service.mask := ⟨rfl, rfl⟩

@[simp] theorem Work.raiseRecovery_hand (w : Work) :
    w.raiseRecovery.service.current = w.service.current ∧ w.raiseRecovery.service.mask = w.service.mask := by
  unfold Work.raiseRecovery
  split <;> simp

@[simp] theorem Work.withdrawRecovery_hand (w : Work) :
    w.withdrawRecovery.service.current = w.service.current
      ∧ w.withdrawRecovery.service.mask = w.service.mask := by
  unfold Work.withdrawRecovery
  split <;> simp

@[simp] theorem Work.putLadders_hand (w : Work) (l : PerChannel Ladder) :
    (w.putLadders l).service.current = w.service.current ∧ (w.putLadders l).service.mask = w.service.mask := by
  simp [Work.putLadders]

@[simp] theorem Work.screenRecovery_hand (w : Work) :
    w.screenRecovery.service.current = w.service.current ∧ w.screenRecovery.service.mask = w.service.mask := by
  simp [Work.screenRecovery]

@[simp] theorem Work.marksChanged_hand (w : Work) (c : Channel) (x : RefillChannel) :
    (w.marksChanged c x).service.current = w.service.current
      ∧ (w.marksChanged c x).service.mask = w.service.mask := by
  simp only [Work.marksChanged]
  split <;> simp

@[simp] theorem Work.setActive_hand (w : Work) (l : List FaultCode) :
    (w.setActive l).service.current = w.service.current ∧ (w.setActive l).service.mask = w.service.mask := by
  simp only [Work.setActive]
  (repeat' split) <;> simp

@[simp] theorem Work.raiseCapIdle_hand (w : Work) :
    w.raiseCapIdle.service.current = w.service.current ∧ w.raiseCapIdle.service.mask = w.service.mask := by
  unfold Work.raiseCapIdle
  split <;> simp

/-! ### Refill and CLEAR (R32 to R39) -/

@[simp] theorem Work.countPulse_hand (w : Work) (c : Channel) :
    (w.countPulse c).service.current = w.service.current ∧ (w.countPulse c).service.mask = w.service.mask := by
  simp only [Work.countPulse]
  (repeat' split) <;> simp

@[simp] theorem Work.windowEnd_hand (w : Work) (c : Channel) (f : FlowWindow) :
    (w.windowEnd c f).service.current = w.service.current ∧ (w.windowEnd c f).service.mask = w.service.mask := by
  simp only [Work.windowEnd]
  split <;> simp

/-- A run of the tests of R145 over the channels. -/
theorem Work.marksChangedAll_hand (t : PerChannel RefillChannel) (w : Work) :
    (Channel.all.foldl (fun v c => v.marksChanged c (t.get c)) w).service.current = w.service.current
      ∧ (Channel.all.foldl (fun v c => v.marksChanged c (t.get c)) w).service.mask = w.service.mask :=
  ⟨foldl_keeps _ (fun v : Work => v.service.current) (fun _ _ => by simp) _ _,
    foldl_keeps _ (fun v : Work => v.service.mask) (fun _ _ => by simp) _ _⟩

@[simp] theorem Work.clearStarved_hand (w : Work) (set : ChannelSet) :
    (w.clearStarved set).service.current = w.service.current
      ∧ (w.clearStarved set).service.mask = w.service.mask := Work.marksChangedAll_hand _ _

@[simp] theorem Work.clearLocked_hand (w : Work) :
    w.clearLocked.service.current = w.service.current ∧ w.clearLocked.service.mask = w.service.mask :=
  Work.marksChangedAll_hand _ _

@[simp] theorem Work.takeClear_hand (w : Work) (ref : Nat) (faults : Bool) (ladders starved : ChannelSet) :
    (w.takeClear ref faults ladders starved).service.current = w.service.current
      ∧ (w.takeClear ref faults ladders starved).service.mask = w.service.mask := by
  simp only [Work.takeClear, Work.clearParts, Work.clearLadders, Work.clearFaultsPart]
  (repeat' split) <;> simp

/-! ### Sheets and steps (R53, R69, R75, R108) -/

@[simp] theorem Work.setUnder_hand (w : Work) (b : Bool) :
    (w.setUnder b).service.current = w.service.current ∧ (w.setUnder b).service.mask = w.service.mask := by
  simp only [Work.setUnder]
  (repeat' split) <;> simp

@[simp] theorem Work.setPhase_hand (w : Work) (p : Phase) :
    (w.setPhase p).service.current = w.service.current ∧ (w.setPhase p).service.mask = w.service.mask := by
  simp only [Work.setPhase, Work.phaseEffects]
  (repeat' split) <;> simp

@[simp] theorem Work.positionEvent_hand (w : Work) :
    w.positionEvent.service.current = w.service.current ∧ w.positionEvent.service.mask = w.service.mask := by
  have tests : ∀ v : Work, v.underTest.leaveTest.service.current = v.service.current
      ∧ v.underTest.leaveTest.service.mask = v.service.mask := fun v => by
    simp only [Work.leaveTest, Work.underTest]
    (repeat' split) <;> simp
  simp only [Work.positionEvent]
  split <;> simp [tests]

@[simp] theorem Work.takeSheet_hand (w : Work) (r : SheetRecord) :
    (w.takeSheet r).service.current = w.service.current ∧ (w.takeSheet r).service.mask = w.service.mask := by
  simp only [Work.takeSheet]
  (repeat' split) <;> simp

@[simp] theorem Work.takeAbort_hand (w : Work) :
    w.takeAbort.service.current = w.service.current ∧ w.takeAbort.service.mask = w.service.mask := by
  simp [Work.takeAbort, Work.removeSheetStops]

@[simp] theorem Work.takeLeading_hand (w : Work) :
    w.takeLeading.service.current = w.service.current ∧ w.takeLeading.service.mask = w.service.mask := by
  simp [Work.takeLeading]

@[simp] theorem Work.takeTrailing_hand (w : Work) :
    w.takeTrailing.service.current = w.service.current ∧ w.takeTrailing.service.mask = w.service.mask := by
  simp [Work.takeTrailing]

/-! ### Orders, expiries, the link, START (R111, R117, R182, R196) -/

@[simp] theorem Work.takeService_hand (w : Work) (ref : Nat) (a : Action) (fits : Bool) :
    (w.takeService ref a fits).service.current = w.service.current
      ∧ (w.takeService ref a fits).service.mask = w.service.mask := by
  simp only [Work.takeService]
  (repeat' split) <;> simp

@[simp] theorem Work.expiry_hand (w : Work) :
    w.expiry.service.current = w.service.current ∧ w.expiry.service.mask = w.service.mask := by
  simp only [Work.expiry, Work.missedExpiry]
  (repeat' split) <;> simp

@[simp] theorem Work.loseController_hand (w : Work) :
    w.loseController.service.current = w.service.current ∧ w.loseController.service.mask = w.service.mask := by
  simp only [Work.loseController]
  split <;> simp

@[simp] theorem Work.hearBeacon_hand (w : Work) (stopping : Bool) :
    (w.hearBeacon stopping).service.current = w.service.current
      ∧ (w.hearBeacon stopping).service.mask = w.service.mask := by
  simp only [Work.hearBeacon]
  (repeat' split) <;> simp

@[simp] theorem Work.takeStart_hand (w : Work) :
    w.takeStart.service.current = w.service.current ∧ w.takeStart.service.mask = w.service.mask := by
  have ink : w.startedInk.service = w.enterRun.service :=
    foldl_keeps _ (fun v : Work => v.service) (fun _ _ => by simp) _ _
  have keepWet : ∀ v : Work, v.startKeepWet.service.current = v.service.current
      ∧ v.startKeepWet.service.mask = v.service.mask := fun v => by
    simp only [Work.startKeepWet]
    split <;> simp
  have controller : ∀ v : Work, v.controllerTest.service.current = v.service.current
      ∧ v.controllerTest.service.mask = v.service.mask := fun v => by
    unfold Work.controllerTest
    split <;> simp
  simp [Work.takeStart_eq, Work.startLink_eq, Work.startBlocks, Work.startNozzle, Work.statusTest_facts, keepWet,
    controller, ink, Work.enterRun]

/-! ### The bodies -/

/-- The commands that may end an action or take it further: the answers of the sled and of the head driver, and the
action's time limit (R94, R96, R100). -/
def movesAction : Instr → Bool
  | .sledArrival _ | .headResult _ _ _ | .headDone _ | .actionTimeout => true
  | _ => false

/-- Every other command leaves the action in progress. -/
theorem body_current {i : Instr} (w : Work) (h : movesAction i = false) :
    (body i w).service.current = w.service.current := by
  cases i
  case sledArrival | headResult | headDone | actionTimeout => simp [movesAction] at h
  all_goals
    simp only [body]
  any_goals
    (repeat' split) <;> simp

/-! ### The routes of the actions (R96 to R100) -/

@[simp] theorem Work.endAction_hand (w : Work) :
    w.endAction.service.current = none ∧ w.endAction.service.mask = w.service.mask := ⟨rfl, rfl⟩

@[simp] theorem Work.popStack_hand (w : Work) :
    w.popStack.service.current = w.service.current ∧ w.popStack.service.mask = w.service.mask := ⟨rfl, rfl⟩

@[simp] theorem Work.checkDone_hand (w : Work) (a : CurrentAction) (groups : List Nat) (ended : Option Sequence) :
    (w.checkDone a groups ended).service.current = w.service.current
      ∧ (w.checkDone a groups ended).service.mask = w.service.mask := by
  simp only [Work.checkDone, Work.checkEvent, Work.forcedDone]
  (repeat' split) <;> simp

/-- The action in progress is over once it completes. -/
@[simp] theorem Work.complete_hand (w : Work) :
    w.complete.service.current = none ∧ w.complete.service.mask = w.service.mask := by
  simp only [Work.complete]
  split
  · simp [*]
  · split <;> simp

/-- The action in progress is the one before, at whatever stage, or none. -/
def Work.KeepsAction (v w : Work) : Prop :=
  ∀ b, w.service.current = some b → ∃ a, v.service.current = some a ∧ b.action = a.action

theorem Work.goPark_keepsAction (w : Work) : w.KeepsAction w.goPark := by
  intro b hb
  simp only [Work.goPark] at hb
  split at hb
  · simp at hb
  · simp only [Work.commandSled_current, Work.setStage_current, Option.map_eq_some_iff] at hb
    obtain ⟨a, ha, rfl⟩ := hb
    exact ⟨a, ha, rfl⟩

theorem Work.sendHead_keepsAction (w : Work) (k : HeadKind) : w.KeepsAction (w.sendHead k) := by
  intro b hb
  simp only [Work.sendHead, Work.setStage_current, Option.map_eq_some_iff] at hb
  obtain ⟨a, ha, rfl⟩ := hb
  exact ⟨a, ha, rfl⟩

theorem Work.reached_keepsAction (w : Work) : w.KeepsAction w.reached := by
  obtain e | e | e | ⟨k, e⟩ := w.reached_cases <;> rw [e]
  · exact fun b hb => ⟨b, hb, rfl⟩
  · exact fun b hb => by simp at hb
  · exact Work.goPark_keepsAction _
  · exact w.sendHead_keepsAction k

theorem Work.firstLeg_keepsAction (w : Work) (p : SledPlace) : w.KeepsAction (w.firstLeg p) := by
  intro b hb
  simp only [Work.firstLeg] at hb
  split at hb
  · simpa using Work.reached_keepsAction _ b hb
  · exact ⟨b, by simpa using hb, rfl⟩

/-- Whatever is in progress once an action has started is that action. -/
theorem Work.startAction_current (w : Work) (a : Action) {b : CurrentAction}
    (h : (w.startAction a).service.current = some b) : b.action = a := by
  have leg : ∀ (v : Work) (p : SledPlace), (∃ c, v.service.current = some c ∧ c.action = a) →
      (v.firstLeg p).service.current = some b → b.action = a := by
    rintro v p ⟨c, hc, ha⟩ hb
    obtain ⟨d, hd, he⟩ := Work.firstLeg_keepsAction v p b hb
    rw [he, ← ha, Option.some.inj (hd.symm.trans hc)]
  cases a
  case sheetSpit =>
    obtain ⟨d, hd, he⟩ := Work.sendHead_keepsAction _ _ b h
    rw [he, ← Option.some.inj hd]
  all_goals exact leg _ _ ⟨_, rfl, rfl⟩ h

end Sys2Proof.Machine
end

section
/-! PROOFS. Outside RUN, and while a purge runs, every refill channel is HELD. -/

namespace Sys2Proof.Machine

/-! ### The valves through an event (R28, R36, R37) -/

/-- Where the valves must stay closed after as they had to before, channels that were HELD being HELD still. -/
theorem State.valvesHeld_of {s t : State} (h : s.valvesHeld)
    (hp : t.mode.mode ≠ .run ∨ t.purgeRunning = true → s.mode.mode ≠ .run ∨ s.purgeRunning = true)
    (hr : ∀ c, (s.refill.get c).state = .held → (t.refill.get c).state = .held) : t.valvesHeld :=
  fun ht c => hr c (h (hp ht) c)

/-- The mode and the action in progress as they were. -/
theorem State.valvesHeld_congr {s t : State} (h : s.valvesHeld) (hm : t.mode.mode = s.mode.mode)
    (hc : t.service.current = s.service.current)
    (hr : ∀ c, (s.refill.get c).state = .held → (t.refill.get c).state = .held) : t.valvesHeld :=
  State.valvesHeld_of h (by rw [hm, State.purgeRunning_congr hc]; exact id) hr

/-- In RUN with no purge the valves are free. -/
theorem State.valvesHeld_free {s : State} (hm : s.mode.mode = .run) (hp : s.purgeRunning = false) : s.valvesHeld :=
  fun h => by simp [hm, hp] at h

theorem Work.holdRefill_held (w : Work) (c : Channel) : (w.holdRefill.refill.get c).state = .held := by
  rw [show w.holdRefill.refill = heldAll w.refill from rfl, heldAll, PerChannel.get_gen]
  exact (RefillChannel.hold_fields _).1

/-- A release of the channels is made only where the valves are free. -/
theorem Work.releaseRefill_valvesHeld {w : Work} (h : w.valvesHeld) : w.releaseRefill.valvesHeld := by
  by_cases hf : (w.inRun && !w.purgeRunning) = true
  · simp only [Bool.and_eq_true, State.inRun, decide_eq_true_eq, Bool.not_eq_true'] at hf
    refine State.valvesHeld_free (by simpa using hf.1) ?_
    rw [← hf.2]
    exact State.purgeRunning_congr (by simp)
  · rwa [Work.releaseRefill, if_neg hf]

theorem RefillChannel.lock_held {x : RefillChannel} (h : x.state = .held) : x.lock.state = .held := by
  simp [RefillChannel.lock, h]

/-- A HELD channel has no valve to close for an overfill. -/
theorem Work.overfillTests_held {w : Work} {c : Channel} (h : (w.refill.get c).state = .held) :
    (w.overfillTests.refill.get c).state = .held := by
  rw [Work.overfillTests_refill, if_neg fun ho => by simp [Work.overfills, h] at ho]
  exact h

/-- The start of a purge leaves every channel HELD (R36). -/
theorem Work.startPurge_held (w : Work) (heavy : Bool) (set : ChannelSet) (c : Channel) :
    ((w.startAction (.purge heavy set)).refill.get c).state = .held := by
  have held : (w.startAction (.purge heavy set)).HeldOr (heldAll w.refill) :=
    (arbiterClosed_heldOr (heldAll w.refill)).firstLeg (w := (w.launch (.purge heavy set)).holdRefill) (p := .cap)
      (.inl rfl) rfl rfl (by simp) (by simp)
  rw [Work.HeldOr, heldAll_heldAll] at held
  rw [held.elim id (·.2), heldAll, PerChannel.get_gen]
  exact (RefillChannel.hold_fields _).1

/-- An action that starts in RUN is a purge, which holds every channel, or leaves the valves free. -/
theorem Work.startAction_valvesHeld {w : Work} (hm : w.mode.mode = .run) (a : Action) :
    (w.startAction a).valvesHeld := by
  by_cases ha : ∃ heavy set, a = .purge heavy set
  · obtain ⟨heavy, set, rfl⟩ := ha
    exact fun _ => w.startPurge_held heavy set
  · refine State.valvesHeld_free (by simpa using hm) ?_
    unfold State.purgeRunning
    split
    · rename_i b hb
      obtain rfl := w.startAction_current a hb
      split
      · exact absurd ⟨_, _, ‹_›⟩ ha
      · rfl
    · rfl

theorem Work.beginSource_valvesHeld {w : Work} (hm : w.mode.mode = .run) (h : w.valvesHeld) (src : Source) :
    (w.beginSource src).valvesHeld := by
  simp only [Work.beginSource]
  split
  · exact h
  · split <;> exact Work.startAction_valvesHeld (by simpa using hm) _

theorem Work.beginTop_valvesHeld {w : Work} (hm : w.mode.mode = .run) (a : Action) : (w.beginTop a).valvesHeld := by
  simp only [Work.beginTop]
  split <;> exact Work.startAction_valvesHeld hm _

/-- The arbiter starts actions in RUN alone (R101). -/
theorem State.mayStart_run {s : State} (h : s.mayStart = true) : s.mode.mode = .run := by
  simp only [State.mayStart, State.inRun, Bool.and_eq_true, decide_eq_true_eq] at h
  exact h.1.1

theorem Work.arbitrate_valvesHeld (n : Nat) {w : Work} (h : w.valvesHeld) : (Work.arbitrate n w).valvesHeld := by
  induction n generalizing w with
  | zero => exact h
  | succ n ih =>
    have asked : (if w.uncapNeeded then w.request .uncapNeed else w).valvesHeld := by
      split
      · exact h
      · exact h
    simp only [Work.arbitrate]
    generalize (if w.uncapNeeded then w.request .uncapNeed else w) = v at asked ⊢
    split
    · exact asked
    · rename_i hm
      have hm : v.mode.mode = .run := State.mayStart_run (by simpa using hm)
      have screened : (if v.service.pending.get .recovery then v.screenRecovery else v).valvesHeld
          ∧ (if v.service.pending.get .recovery then v.screenRecovery else v).mode.mode = .run := by
        split
        · exact ⟨State.valvesHeld_congr asked (by simp) (by simp) (by simp), by simpa using hm⟩
        · exact ⟨asked, hm⟩
      generalize (if v.service.pending.get .recovery then v.screenRecovery else v) = u at screened ⊢
      obtain ⟨hu, hm⟩ := screened
      (repeat' split)
      · exact ih (Work.beginSource_valvesHeld hm hu _)
      · exact ih (Work.beginTop_valvesHeld hm _)
      · exact hu

theorem Work.arbiterStage_valvesHeld {w : Work} (h : w.valvesHeld) : w.arbiterStage.valvesHeld := by
  simp only [Work.arbiterStage]
  (repeat' split)
  · exact Work.arbitrate_valvesHeld 16 h
  · exact Work.arbitrate_valvesHeld 16 h
  · exact h

/-- The end of an event keeps the valves closed that its body left so. -/
theorem Work.finish_valvesHeld {w : Work} (h : w.valvesHeld) : w.finish.valvesHeld := by
  have guarded : w.overfillTests.faultStage.coverStage.guardStage.valvesHeld := by
    obtain ⟨p, hs, -⟩ := w.guarded_rescreened
    exact State.valvesHeld_congr h (by simp) (by rw [hs]) fun c hc => by simpa using Work.overfillTests_held hc
  have chosen : w.chosen.valvesHeld := Work.arbiterStage_valvesHeld guarded
  refine State.valvesHeld_congr chosen (by simp) (by simp) fun c hc => ?_
  obtain ⟨d, e, hy⟩ := (w.chosen.refillStage_settles c).stands (by simp [hc]) (by simp [hc]) (by simp [hc])
  rw [Work.finish_refill, hy]
  exact hc

/-- The mode, the refill channels and the action in progress, but for its stage and its RESULTs, as they were. -/
theorem State.valvesHeld_keeps {v w : Work} (h : v.valvesHeld) (k : v.KeepsAction w) (hm : w.mode = v.mode)
    (hr : w.refill = v.refill) : w.valvesHeld := by
  refine State.valvesHeld_of h (fun hp => ?_) fun c hc => by rwa [hr]
  rw [hm] at hp
  refine hp.imp_right fun hp => ?_
  unfold State.purgeRunning at hp
  split at hp
  · rename_i b hb
    obtain ⟨a, ha, e⟩ := k b hb
    simpa [State.purgeRunning, ha, ← e] using hp
  · cases hp

/-! ### The answers of the sled and of the head driver, and the time limit (R94 to R100) -/

/-- With no action in progress afterwards and the mode kept, what was HELD must stay so outside RUN alone. -/
theorem State.valvesHeld_idle {s t : State} (h : s.valvesHeld) (hm : t.mode.mode = s.mode.mode)
    (hc : t.service.current = none)
    (hr : ∀ c, (s.refill.get c).state = .held → (t.refill.get c).state = .held) : t.valvesHeld := by
  refine State.valvesHeld_of h (fun ht => .inl ?_) hr
  have none : t.purgeRunning = false := by simp [State.purgeRunning, hc]
  rw [none, hm] at ht
  exact ht.resolve_right (by simp)

theorem Work.endAction_valvesHeld {w : Work} (h : w.valvesHeld) : w.endAction.valvesHeld :=
  State.valvesHeld_idle h rfl rfl fun _ => id

/-- A completed action leaves the valves as they were, but that a purge done releases them. -/
theorem Work.complete_valvesHeld {w : Work} (h : w.valvesHeld) : w.complete.valvesHeld := by
  have ended : w.endAction.valvesHeld := Work.endAction_valvesHeld h
  simp only [Work.complete]
  split
  · exact h
  · split
    case h_8 =>
      refine Work.releaseRefill_valvesHeld (State.valvesHeld_congr ended ?_ ?_ ?_) <;> simp
    all_goals refine State.valvesHeld_congr ended ?_ ?_ ?_ <;> simp

theorem Work.goPark_valvesHeld {w : Work} (h : w.valvesHeld) : w.goPark.valvesHeld := by
  have sent : ((w.setStage .inbound).commandSled .park).valvesHeld := by
    refine State.valvesHeld_keeps h (fun b hb => ?_) (by simp) (by simp)
    simp only [Work.commandSled_current, Work.setStage_current, Option.map_eq_some_iff] at hb
    obtain ⟨a, ha, rfl⟩ := hb
    exact ⟨a, ha, rfl⟩
  simp only [Work.goPark]
  split
  · exact Work.complete_valvesHeld sent
  · exact sent

theorem Work.reached_valvesHeld {w : Work} (h : w.valvesHeld) : w.reached.valvesHeld := by
  obtain e | e | e | ⟨k, e⟩ := w.reached_cases <;> rw [e]
  · exact h
  · exact Work.complete_valvesHeld h
  · exact Work.goPark_valvesHeld (State.valvesHeld_congr h rfl rfl fun _ => id)
  · exact State.valvesHeld_keeps h (w.sendHead_keepsAction k) (by simp) (by simp)

theorem Work.headAnswered_valvesHeld {w : Work} (h : w.valvesHeld) : w.headAnswered.valvesHeld := by
  have answered : ({ w with service := { w.service with head := none } } : Work).valvesHeld :=
    State.valvesHeld_congr h rfl rfl fun _ => id
  obtain e | e | e := w.headAnswered_cases <;> rw [e]
  · exact answered
  · exact Work.goPark_valvesHeld answered
  · exact Work.complete_valvesHeld answered

theorem Work.takeResult_valvesHeld {w : Work} (number g : Nat) (missed : List Nat) (h : w.valvesHeld) :
    (w.takeResult number g missed).valvesHeld := by
  refine State.valvesHeld_keeps h (fun b hb => ?_) (by simp) (by simp)
  unfold Work.takeResult at hb
  (repeat' split at hb)
  case isTrue =>
    simp only [Option.map_eq_some_iff] at hb
    obtain ⟨a, ha, rfl⟩ := hb
    exact ⟨a, ha, rfl⟩
  all_goals exact ⟨b, hb, rfl⟩

theorem Work.fail_valvesHeld {w : Work} (h : w.valvesHeld) : w.fail.valvesHeld := by
  have failed : (({ w.endAction with
      service := { w.endAction.service with sled := .unknown, stopped := true } } : Work).raise .serviceTimeout
      .none).valvesHeld := State.valvesHeld_congr (Work.endAction_valvesHeld h) rfl rfl fun _ => id
  simp only [Work.fail]
  split
  · exact Work.releaseRefill_valvesHeld failed
  · exact failed

/-- A START is taken in CONFIG, where every channel is HELD, and releases none while a purge runs (R37, R195). -/
theorem Work.takeStart_valvesHeld {w : Work} (hm : w.mode.mode = .config) (h : w.valvesHeld) :
    w.takeStart.valvesHeld := by
  have current : w.takeStart.purgeRunning = w.purgeRunning := State.purgeRunning_congr (by simp)
  obtain ⟨refill, -, -, -, -, -, -, -, blocks⟩ := w.startedInk_frame
  intro hp c
  have run : w.takeStart.mode.mode = .run := by rw [w.takeStart_ledger.2.2]; rfl
  have purge : w.purgeRunning = true := by simpa [run, current] using hp
  have off : w.startedInk.revalue.releaseRefill = w.startedInk.revalue := by
    have : w.startedInk.revalue.purgeRunning = true := by
      rw [← purge]
      exact State.purgeRunning_congr blocks
    simp [Work.releaseRefill, this]
  have kept : w.takeStart.refill = w.refill := by
    rw [Work.takeStart_eq]
    simp [Work.startBlocks, off, refill]
  rw [kept]
  exact h (.inl (by simp [hm])) c

theorem Work.hearOwnNumber_valvesHeld {w : Work} (h : w.valvesHeld) : w.hearOwnNumber.valvesHeld := by
  unfold Work.hearOwnNumber
  split
  · exact h
  · intro _ c
    simpa [Work.enterHalted] using Work.holdRefill_held _ c

/-! ### Channels that stay HELD (R31 to R39) -/

theorem RefillChannel.leakPulse_held {x : RefillChannel} (h : x.state = .held) :
    x.leakPulse.state = .held ∧ x.leakPulse.lock.state = .held :=
  have hs : x.leakPulse.state = .held := x.leakPulse_fields.1.trans h
  ⟨hs, RefillChannel.lock_held hs⟩

/-- A channel replaced by one that is HELD where the channel was. -/
theorem Work.putRefill_held {w : Work} {d : Channel} {x : RefillChannel}
    (hx : (w.refill.get d).state = .held → x.state = .held) {c : Channel} (h : (w.refill.get c).state = .held) :
    ((w.putRefill d x).refill.get c).state = .held := by
  rw [Work.putRefill, PerChannel.get_set]
  split
  · rename_i e
    exact hx (e ▸ h)
  · exact h

theorem Work.countPulse_held {w : Work} (d : Channel) {c : Channel} (h : (w.refill.get c).state = .held) :
    ((w.countPulse d).refill.get c).state = .held := by
  simp only [Work.countPulse]
  split
  · split
    · exact Work.putRefill_held (fun hd => by simp_all) h
    · exact h
  · split
    · simpa using Work.putRefill_held (x := { (w.refill.get d).leakPulse.lock with leakCount := 0, leakWindow := none })
        (fun hd => (RefillChannel.leakPulse_held hd).2) h
    · exact Work.putRefill_held (fun hd => (RefillChannel.leakPulse_held hd).1) h

theorem Work.markRefill_held {w : Work} (d : Channel) (m : MarkName) (wet : Bool) {c : Channel}
    (h : (w.refill.get c).state = .held) : ((w.markRefill d m wet).refill.get c).state = .held := by
  simp only [Work.markRefill]
  (repeat' split)
  · exact Work.putRefill_held (fun hd => by simp [RefillChannel.fullWet, hd]) h
  all_goals exact h

/-- A run of the tests of R145 over the channels leaves them. -/
theorem Work.marksChangedAll_refill (t : PerChannel RefillChannel) (w : Work) :
    (Channel.all.foldl (fun v c => v.marksChanged c (t.get c)) w).refill = w.refill :=
  foldl_keeps _ (fun v : Work => v.refill) (fun _ _ => by simp) _ _

theorem Work.clearStarved_refill (w : Work) (set : ChannelSet) (c : Channel) :
    (w.clearStarved set).refill.get c
      = if set.get c then (w.refill.get c).clearStarved else w.refill.get c := by
  rw [Work.clearStarved, Work.marksChangedAll_refill]
  simp

theorem Work.clearLocked_refill (w : Work) (c : Channel) :
    w.clearLocked.refill.get c = (w.refill.get c).clearLocked := by
  rw [Work.clearLocked, Work.marksChangedAll_refill]
  simp

theorem Work.takeClear_held {w : Work} (ref : Nat) (faults : Bool) (ladders starved : ChannelSet) {c : Channel}
    (h : (w.refill.get c).state = .held) :
    ((w.takeClear ref faults ladders starved).refill.get c).state = .held := by
  have unstarved : ((w.clearStarved starved).refill.get c).state = .held := by
    rw [Work.clearStarved_refill]
    split
    · unfold RefillChannel.clearStarved
      split <;> simp [h]
    · exact h
  have unlocked : ∀ v : Work, (v.refill.get c).state = .held →
      (v.clearFaultsPart.refill.get c).state = .held := fun v hv => by
    simp [Work.clearFaultsPart, Work.clearLocked_refill, RefillChannel.clearLocked, hv]
  simp only [Work.takeClear, Work.clearParts]
  split
  · exact h
  · (repeat' split) <;> simp [*]

/-- The commands that move the mode (R174, R195). -/
def movesMode : Instr → Bool
  | .start _ | .duplicateStationHeard | .peerStatusHeard _ _ => true
  | _ => false

theorem Work.takeSection_mode (w : Work) (ref : Nat) (m : ModeControl) (clamped : Bool) :
    (w.takeSection ref m clamped).mode = m := rfl

theorem body_mode {i : Instr} (w : Work) (h : movesMode i = false) : (body i w).mode.mode = w.mode.mode := by
  cases i
  case start | duplicateStationHeard | peerStatusHeard => simp [movesMode] at h
  all_goals
    simp only [body]
  any_goals
    (repeat' split) <;> simp [Work.takeSection_mode]

/-- A channel that is HELD stays so in every command that neither ends an action nor moves the mode. -/
theorem body_held {i : Instr} {w : Work} {c : Channel} (ha : movesAction i = false) (hm : movesMode i = false)
    (h : (w.refill.get c).state = .held) : ((body i w).refill.get c).state = .held := by
  cases i
  case sledArrival | headResult | headDone | actionTimeout => simp [movesAction] at ha
  case start | duplicateStationHeard | peerStatusHeard => simp [movesMode] at hm
  case clearFaults | clearLadder | clearLineStarved | clearOrder =>
    simp only [body]
    split
    · exact Work.takeClear_held _ _ _ _ h
    · exact h
  case flowPulse d => exact Work.countPulse_held d (by simpa using h)
  case flowWindowEnd d =>
    simp only [body]
    (repeat' split)
    · rename_i ho _ _
      simp only [Work.windowEnd]
      split
      · simpa using Work.putRefill_held (fun hd => by simp_all) h
      · exact Work.putRefill_held (fun hd => by simp_all) h
    all_goals exact h
  case backoffEnd d =>
    simp only [body, Work.backoffOver]
    (repeat' split)
    · exact Work.putRefill_held (fun hd => by simp_all) h
    · exact Work.putRefill_held (fun hd => by simp_all) h
    · exact h
  case leakWindowEnd d =>
    simp only [body]
    split
    · refine Work.putRefill_held ?_ h
      exact id
    · exact h
  case markChange d m wet =>
    simp only [body]
    split
    · exact h
    · simpa using Work.markRefill_held (w := w.putInk d _) d m wet h
  all_goals
    simp only [body]
  any_goals
    (repeat' split) <;> simp [h]

/-- The body of a command keeps the valves closed. -/
theorem body_valvesHeld {i : Instr} {w : Work} (h : w.valvesHeld) : (body i w).valvesHeld := by
  cases ha : movesAction i <;> cases hm : movesMode i
  case false.false => exact State.valvesHeld_congr h (body_mode w hm) (body_current w ha) fun _ => body_held ha hm
  case false.true =>
    cases i
    case start =>
      simp only [body]
      split
      · exact State.valvesHeld_congr h rfl rfl fun _ => id
      · rename_i hs
        exact State.valvesHeld_congr (Work.takeStart_valvesHeld (startRefusal_none hs).1 h) (by simp) (by simp) (by simp)
    case duplicateStationHeard => exact Work.hearOwnNumber_valvesHeld h
    case peerStatusHeard =>
      simp only [body]
      split
      · exact Work.hearOwnNumber_valvesHeld h
      · exact State.valvesHeld_congr h (by simp) (by simp) (by simp)
    all_goals simp [movesMode] at hm
  all_goals
    cases i
    case sledArrival =>
      simp only [body]
      split
      · exact Work.reached_valvesHeld (State.valvesHeld_congr h rfl rfl fun _ => id)
      · exact State.valvesHeld_congr h rfl rfl fun _ => id
    case headResult => exact Work.takeResult_valvesHeld _ _ _ h
    case headDone =>
      simp only [body]
      (repeat' split)
      · exact Work.headAnswered_valvesHeld h
      all_goals exact h
    case actionTimeout =>
      simp only [body]
      split
      · exact Work.fail_valvesHeld h
      · exact h
    all_goals simp [movesAction] at ha

/-! ### Every step (R36, R37, R197, R198) -/

/-- Settles O8: a body keeps the valves closed and so does the end of its event; power-on and RESTART leave every
channel HELD, and a tick moves neither the mode nor an action nor a refill state. -/
theorem stepKeepsValvesHeld : Obligations.StepKeepsValvesHeld := by
  intro s t h hstep
  have queued : ∀ l, ({ s with pending := l } : State).valvesHeld := fun _ => h
  obtain rfl | ⟨l, rfl⟩ | ⟨l, n, p, pin, rfl⟩ | ⟨l, ref, straps, rfl⟩ | ⟨l, i, -, rfl⟩ := step_cases hstep
  · unfold State.tick
    split
    · exact h
    · exact State.valvesHeld_congr h rfl rfl fun c hc => by simpa [State.aged, RefillChannel.aged] using hc
  · exact queued l
  · intro _ c
    simp [State.poweredOn, State.reset, RefillChannel.reset]
  · refine Work.finish_valvesHeld fun _ c => ?_
    exact Work.holdRefill_held _ c
  · exact Work.finish_valvesHeld (body_valvesHeld (queued l))

end Sys2Proof.Machine
end

section
/-! SUPPORT. The groups and the armed flag of nozzle health, the mask level, and the line-starved marks: which
operations leave them (R33, R103, R131, R134, R141). -/

namespace Sys2Proof.Machine

/-! ### Operations that reach nozzle health for its ladders or its block condition alone -/

@[simp] theorem Work.putLadders_groups (w : Work) (l : PerChannel Ladder) :
    (w.putLadders l).nozzle.groups = w.nozzle.groups ∧ (w.putLadders l).nozzle.armed = w.nozzle.armed := by
  simp [Work.putLadders]

@[simp] theorem Work.marksChanged_groups (w : Work) (c : Channel) (x : RefillChannel) :
    (w.marksChanged c x).nozzle.groups = w.nozzle.groups
      ∧ (w.marksChanged c x).nozzle.armed = w.nozzle.armed := by
  obtain ⟨groups, -, -, armed⟩ := (w.marksChanged_onward c x).nozzle
  exact ⟨groups, armed⟩

@[simp] theorem Work.setActive_groups_armed (w : Work) (l : List FaultCode) :
    (w.setActive l).nozzle.groups = w.nozzle.groups ∧ (w.setActive l).nozzle.armed = w.nozzle.armed := by
  obtain ⟨groups, -, -, armed⟩ := (w.setActive_onward l).nozzle
  exact ⟨groups, armed⟩

/-- A run of the tests of R145 over the channels. -/
theorem Work.marksChangedAll_groups (t : PerChannel RefillChannel) (w : Work) :
    (Channel.all.foldl (fun v c => v.marksChanged c (t.get c)) w).nozzle.groups = w.nozzle.groups
      ∧ (Channel.all.foldl (fun v c => v.marksChanged c (t.get c)) w).nozzle.armed = w.nozzle.armed :=
  ⟨foldl_keeps _ (fun v : Work => v.nozzle.groups) (fun _ _ => by simp) _ _,
    foldl_keeps _ (fun v : Work => v.nozzle.armed) (fun _ _ => by simp) _ _⟩

@[simp] theorem Work.clearStarved_groups (w : Work) (set : ChannelSet) :
    (w.clearStarved set).nozzle.groups = w.nozzle.groups ∧ (w.clearStarved set).nozzle.armed = w.nozzle.armed :=
  Work.marksChangedAll_groups _ _

@[simp] theorem Work.clearLocked_groups (w : Work) :
    w.clearLocked.nozzle.groups = w.nozzle.groups ∧ w.clearLocked.nozzle.armed = w.nozzle.armed :=
  Work.marksChangedAll_groups _ _

@[simp] theorem Work.takeClear_groups (w : Work) (ref : Nat) (faults : Bool) (ladders starved : ChannelSet) :
    (w.takeClear ref faults ladders starved).nozzle.groups = w.nozzle.groups
      ∧ (w.takeClear ref faults ladders starved).nozzle.armed = w.nozzle.armed := by
  simp only [Work.takeClear, Work.clearParts, Work.clearLadders, Work.clearFaultsPart]
  (repeat' split) <;> simp

@[simp] theorem Work.countPulse_groups (w : Work) (c : Channel) :
    (w.countPulse c).nozzle.groups = w.nozzle.groups ∧ (w.countPulse c).nozzle.armed = w.nozzle.armed := by
  simp only [Work.countPulse]
  (repeat' split) <;> simp

@[simp] theorem Work.windowEnd_groups (w : Work) (c : Channel) (f : FlowWindow) :
    (w.windowEnd c f).nozzle.groups = w.nozzle.groups ∧ (w.windowEnd c f).nozzle.armed = w.nozzle.armed := by
  simp only [Work.windowEnd]
  split <;> simp

@[simp] theorem Work.loadNotice_groups (w : Work) :
    w.loadNotice.nozzle.groups = w.nozzle.groups ∧ w.loadNotice.nozzle.armed = w.nozzle.armed := by
  unfold Work.loadNotice
  split <;> exact ⟨rfl, rfl⟩

@[simp] theorem Work.endFrame_groups (w : Work) (t : TxFrame) :
    (w.endFrame t).nozzle.groups = w.nozzle.groups ∧ (w.endFrame t).nozzle.armed = w.nozzle.armed := by
  simp only [Work.endFrame]
  (repeat' split) <;> simp

/-! ### The retirement of a record and a check (R50, R131, R134) -/

@[simp] theorem Work.bumpGroups_armed (w : Work) : w.bumpGroups.nozzle.armed = w.nozzle.armed := rfl

@[simp] theorem Work.retire_armed (w : Work) (r : BandRecord) : (w.retire r).nozzle.armed = w.nozzle.armed := by
  simp [Work.retire]

@[simp] theorem Work.retirePrinting_armed (w : Work) : w.retirePrinting.nozzle.armed = w.nozzle.armed := by
  unfold Work.retirePrinting
  split <;> simp

@[simp] theorem Work.removeCurrent_armed (w : Work) : w.removeCurrent.nozzle.armed = w.nozzle.armed := by
  simp only [Work.removeCurrent]
  split <;> simp

@[simp] theorem Work.positionTests_armed (w : Work) : w.positionTests.nozzle.armed = w.nozzle.armed := by
  have retired : ∀ base pos, (w.retireAt base pos).nozzle.armed = w.nozzle.armed := fun base pos => by
    unfold Work.retireAt
    (repeat' split) <;> simp
  have started : ∀ (v : Work) base pos, (v.startAt base pos).nozzle.armed = v.nozzle.armed := fun v base pos => by
    unfold Work.startAt
    (repeat' split) <;> simp
  unfold Work.positionTests
  split
  · rfl
  · rw [started, retired]

@[simp] theorem Work.positionEvent_armed (w : Work) : w.positionEvent.nozzle.armed = w.nozzle.armed := by
  simp only [Work.positionEvent]
  split <;> simp

@[simp] theorem Work.sheetQueue_armed (w : Work) (n len : Nat) :
    (w.sheetQueue n len).nozzle.armed = w.nozzle.armed := by simp [Work.sheetQueue]

@[simp] theorem Work.takeSheet_armed (w : Work) (r : SheetRecord) : (w.takeSheet r).nozzle.armed = w.nozzle.armed := by
  simp only [Work.takeSheet]
  (repeat' split) <;> simp

@[simp] theorem Work.takeAbort_armed (w : Work) : w.takeAbort.nozzle.armed = w.nozzle.armed := by
  simp [Work.takeAbort, Work.removeSheetStops]

theorem CheckWork.confirm_armed (k : CheckWork) (c : Channel) (g gi n : Nat) :
    (k.confirm c g gi n).nozzle.armed = k.nozzle.armed := by
  simp only [CheckWork.confirm]
  split <;> rfl

theorem CheckWork.group_armed (k : CheckWork) (result : Nat × List Nat) :
    (k.group result).nozzle.armed = k.nozzle.armed := by
  simp only [CheckWork.group]
  (repeat' split)
  · rfl
  · rfl
  · exact foldl_keeps _ (fun k : CheckWork => k.nozzle.armed) (fun _ _ => CheckWork.confirm_armed ..) _ _

@[simp] theorem Work.checkEvent_armed (w : Work) (results : List (Nat × List Nat)) (served : Option Channel) :
    (w.checkEvent results served).nozzle.armed = w.nozzle.armed := by
  have read : ∀ k : CheckWork, (results.foldl CheckWork.group k).nozzle.armed = k.nozzle.armed := fun k =>
    foldl_keeps _ (fun k : CheckWork => k.nozzle.armed) CheckWork.group_armed _ _
  simp only [Work.checkEvent]
  (repeat' split) <;> simp [Nozzle.restated, read]

/-! ### The routes of the actions (R96 to R100) -/

@[simp] theorem Work.checkDone_armed (w : Work) (a : CurrentAction) (groups : List Nat) (ended : Option Sequence) :
    (w.checkDone a groups ended).nozzle.armed = w.nozzle.armed := by
  simp only [Work.checkDone]
  (repeat' split) <;> simp

/-- A completed action leaves the armed flag. -/
@[simp] theorem Work.complete_armed (w : Work) : w.complete.nozzle.armed = w.nozzle.armed := by
  simp only [Work.complete]
  (repeat' split) <;> simp

@[simp] theorem Work.goPark_armed_mask (w : Work) :
    w.goPark.nozzle.armed = w.nozzle.armed ∧ w.goPark.service.mask = w.service.mask := by
  have command : ∀ v : Work, (v.commandSled .park).service.mask = v.service.mask := fun v => by
    unfold Work.commandSled
    split <;> rfl
  simp only [Work.goPark]
  split <;> simp [command] <;> rfl

@[simp] theorem Work.reached_armed_mask (w : Work) :
    w.reached.nozzle.armed = w.nozzle.armed ∧ w.reached.service.mask = w.service.mask := by
  obtain e | e | e | ⟨k, e⟩ := w.reached_cases <;> rw [e] <;> simp
  rfl

@[simp] theorem Work.headAnswered_armed_mask (w : Work) :
    w.headAnswered.nozzle.armed = w.nozzle.armed ∧ w.headAnswered.service.mask = w.service.mask := by
  obtain e | e | e := w.headAnswered_cases <;> rw [e] <;> simp

/-! ### The line-starved marks (R33, R38) -/

theorem RefillChannel.starvedMark_kept (x : RefillChannel) :
    x.lock.starvedMark = x.starvedMark ∧ x.hold.starvedMark = x.starvedMark
      ∧ x.released.starvedMark = x.starvedMark ∧ x.fullWet.starvedMark = x.starvedMark
      ∧ x.leakPulse.starvedMark = x.starvedMark := by
  unfold RefillChannel.lock RefillChannel.hold RefillChannel.released RefillChannel.fullWet RefillChannel.leakPulse
  refine ⟨?_, ?_, ?_, ?_, ?_⟩ <;> split <;> rfl

theorem Work.putRefill_starved (w : Work) {d : Channel} {x : RefillChannel}
    (hx : x.starvedMark = (w.refill.get d).starvedMark) (c : Channel) :
    ((w.putRefill d x).refill.get c).starvedMark = (w.refill.get c).starvedMark := by
  rw [Work.putRefill, PerChannel.get_set]
  split
  · simp [*]
  · rfl

@[simp] theorem Work.holdRefill_starved (w : Work) (c : Channel) :
    (w.holdRefill.refill.get c).starvedMark = (w.refill.get c).starvedMark := by
  simp [Work.holdRefill, RefillChannel.starvedMark_kept]

@[simp] theorem Work.releaseRefill_starved (w : Work) (c : Channel) :
    (w.releaseRefill.refill.get c).starvedMark = (w.refill.get c).starvedMark := by
  unfold Work.releaseRefill
  split
  · rw [PerChannel.get_gen]
    split <;> simp [RefillChannel.starvedMark_kept]
  · rfl

@[simp] theorem Work.countPulse_starved (w : Work) (d c : Channel) :
    ((w.countPulse d).refill.get c).starvedMark = (w.refill.get c).starvedMark := by
  simp only [Work.countPulse]
  (repeat' split)
  · exact w.putRefill_starved (by rfl) c
  · rfl
  · simpa using w.putRefill_starved
      (x := { (w.refill.get d).leakPulse.lock with leakCount := 0, leakWindow := none })
      (by simp [RefillChannel.starvedMark_kept]) c
  · exact w.putRefill_starved (by simp [RefillChannel.starvedMark_kept]) c

@[simp] theorem Work.backoffOver_starved (w : Work) (d c : Channel) :
    ((w.backoffOver d).refill.get c).starvedMark = (w.refill.get c).starvedMark := by
  simp only [Work.backoffOver]
  split <;> exact w.putRefill_starved (by rfl) c

@[simp] theorem Work.markRefill_starved (w : Work) (d : Channel) (m : MarkName) (wet : Bool) (c : Channel) :
    ((w.markRefill d m wet).refill.get c).starvedMark = (w.refill.get c).starvedMark := by
  simp only [Work.markRefill]
  (repeat' split)
  · exact w.putRefill_starved (by simp [RefillChannel.starvedMark_kept]) c
  all_goals rfl

/-- The end of a flow window marks its own channel alone. -/
theorem Work.windowEnd_starved (w : Work) {d c : Channel} (f : FlowWindow) (h : c ≠ d) :
    ((w.windowEnd d f).refill.get c).starvedMark = (w.refill.get c).starvedMark := by
  simp only [Work.windowEnd]
  split <;> simp [Work.putRefill, PerChannel.get_set, h]

@[simp] theorem Work.complete_starved (w : Work) (c : Channel) :
    (w.complete.refill.get c).starvedMark = (w.refill.get c).starvedMark := by
  simp only [Work.complete]
  split
  · rfl
  · split <;> simp [Work.purgeDone]

@[simp] theorem Work.goPark_starved (w : Work) (c : Channel) :
    (w.goPark.refill.get c).starvedMark = (w.refill.get c).starvedMark := by
  simp only [Work.goPark]
  split <;> simp

@[simp] theorem Work.reached_starved (w : Work) (c : Channel) :
    (w.reached.refill.get c).starvedMark = (w.refill.get c).starvedMark := by
  obtain e | e | e | ⟨k, e⟩ := w.reached_cases <;> rw [e] <;> simp

@[simp] theorem Work.headAnswered_starved (w : Work) (c : Channel) :
    (w.headAnswered.refill.get c).starvedMark = (w.refill.get c).starvedMark := by
  obtain e | e | e := w.headAnswered_cases <;> rw [e] <;> simp

@[simp] theorem Work.fail_starved (w : Work) (c : Channel) :
    (w.fail.refill.get c).starvedMark = (w.refill.get c).starvedMark := by
  simp only [Work.fail]
  split <;> simp

@[simp] theorem Work.takeStart_starved (w : Work) (c : Channel) :
    (w.takeStart.refill.get c).starvedMark = (w.refill.get c).starvedMark := by
  obtain ⟨refill, -⟩ := w.startedInk_frame
  rw [Work.takeStart_eq]
  simp [Work.startBlocks, refill]

@[simp] theorem Work.hearOwnNumber_starved (w : Work) (c : Channel) :
    (w.hearOwnNumber.refill.get c).starvedMark = (w.refill.get c).starvedMark := by
  unfold Work.hearOwnNumber
  split <;> simp [Work.enterHalted]

/-- The end of an event leaves every line-starved mark. -/
theorem Work.finish_starved (w : Work) (c : Channel) :
    (w.finish.refill.get c).starvedMark = (w.refill.get c).starvedMark := by
  obtain ⟨x, hx, settles⟩ := w.finish_refill_get c
  have tested : (w.overfillTests.refill.get c).starvedMark = (w.refill.get c).starvedMark := by
    rw [Work.overfillTests_refill]
    split <;> simp [RefillChannel.starvedMark_kept]
  rw [settles.marks.2, ← tested]
  rcases hx with rfl | ⟨-, rfl⟩
  · rfl
  · exact (RefillChannel.starvedMark_kept _).2.1

end Sys2Proof.Machine
end

section
/-! PROOFS. Which commands change feed control, the mask level, the spit pointer with the missed spits and the
dry-suspect blocks, the nozzle groups, the armed flag and the line-starved marks. -/

namespace Sys2Proof.Machine

/-! ### The bodies -/

theorem body_keepsFeed {i : Instr} (w : Work) (h : i.movesSheet = false) : (body i w).feed = w.feed := by
  cases i
  case feed | sheet | abortSheet | stepDue | encoderCount | leadingEdge | trailingEdge | skewWindowEnd
    | fholdAsserted | fholdReleased | peerStatusHeard | duplicateStationHeard => simp [Instr.movesSheet] at h
  all_goals
    simp only [body]
  any_goals
    (repeat' split) <;> simp

theorem body_keepsMask {i : Instr} (w : Work) (h : ∀ ref level, i ≠ .setMask ref level) :
    (body i w).service.mask = w.service.mask := by
  cases i
  case setMask ref level => exact absurd rfl (h ref level)
  case sledArrival place =>
    simp only [body, Work.arriveAt]
    split <;> simp
  case headResult =>
    simp only [body, Work.takeResult]
    (repeat' split) <;> rfl
  case actionTimeout =>
    simp only [body, Work.fail]
    (repeat' split) <;> simp
  all_goals
    simp only [body]
  any_goals
    (repeat' split) <;> simp

theorem body_keepsPointer {i : Instr} (w : Work) (h : i.spitsOrChecks = false) :
    (body i w).keepWet.pointer = w.keepWet.pointer ∧ (body i w).keepWet.missed = w.keepWet.missed
      ∧ (body i w).keepWet.dry = w.keepWet.dry := by
  cases i
  case headDone | sledArrival | keepWetExpiry => simp [Instr.spitsOrChecks] at h
  case start =>
    simp only [body]
    split
    · simp
    · obtain ⟨-, -, pointer, missed, dry⟩ := w.startBlocks_keepWet
      simp [Work.takeStart_eq, pointer, missed, dry]
  case duplicateStationHeard | peerStatusHeard =>
    simp only [body, Work.hearOwnNumber, Work.enterHalted]
    (repeat' split) <;> simp
  all_goals
    simp only [body]
  any_goals
    (repeat' split) <;> simp

theorem body_keepsGroups {i : Instr} (w : Work) (h : i.touchesGroups = false) :
    (body i w).nozzle.groups = w.nozzle.groups := by
  cases i
  case headDone | sledArrival | encoderCount | abortSheet | sheet => simp [Instr.touchesGroups] at h
  case start =>
    simp only [body]
    split
    · simp
    · simp [Work.takeStart_eq, Work.startBlocks_nozzle]
  all_goals
    simp only [body]
  any_goals
    (repeat' split) <;> simp

theorem body_keepsArmed {i : Instr} (w : Work) (h : ∀ ref, i ≠ .start ref) :
    (body i w).nozzle.armed = w.nozzle.armed := by
  cases i
  case start ref => exact absurd rfl (h ref)
  case sledArrival place =>
    simp only [body, Work.arriveAt]
    split <;> simp
  all_goals
    simp only [body]
  any_goals
    (repeat' split) <;> simp

theorem body_keepsStarved {i : Instr} (w : Work) {c : Channel} (hf : i ≠ .flowWindowEnd c)
    (hc : clearRequest i = none) : ((body i w).refill.get c).starvedMark = (w.refill.get c).starvedMark := by
  cases i
  case clearFaults | clearLadder | clearLineStarved | clearOrder => simp [clearRequest] at hc
  case flowWindowEnd d =>
    have hd : c ≠ d := by
      rintro rfl
      exact hf rfl
    simp only [body]
    (repeat' split)
    · exact w.windowEnd_starved _ hd
    all_goals rfl
  case leakWindowEnd d =>
    simp only [body]
    split
    · exact w.putRefill_starved (by rfl) c
    · rfl
  case sledArrival place =>
    simp only [body, Work.arriveAt]
    split <;> simp
  all_goals
    simp only [body]
  any_goals
    (repeat' split) <;> simp

/-! ### The end of an event, and the statement -/

/-- The mask level stands at `m`. -/
def Work.MaskStands (m : Nat) (w : Work) : Prop := w.service.mask = m

theorem arbiterClosed_maskStands (m : Nat) : ArbiterClosed (Work.MaskStands m) where
  request h := h
  screen {w} h := (Work.screenRecovery_hand w).2.trans h
  push {w src acts ch} h _ _ _ := by
    unfold Work.requestStarted
    split
    · exact (Work.raiseRecovery_hand _).2.trans h
    · exact h
    · exact h
  launch h _ _ := h
  hold h _ := h
  command {w p} h := by
    unfold Work.commandSled
    split <;> exact h
  stage h := h
  head h := h
  wiper h := h
  ended h _ := h
  pop h := h
  capped h _ := h
  idle h := h

theorem Work.finish_mask (w : Work) : w.finish.service.mask = w.service.mask := by
  obtain ⟨p, hs, -⟩ := w.guarded_rescreened
  have guarded : w.overfillTests.faultStage.coverStage.guardStage.MaskStands w.service.mask := by
    rw [Work.MaskStands, hs]
  have chosen : w.chosen.MaskStands w.service.mask := (arbiterClosed_maskStands _).arbiterStage guarded
  rw [w.finish_chosen.2.2.1]
  exact chosen

theorem Feed.eq_of_rest {f g : Feed} (h : f.rest = g.rest) :
    { f with fholdDrive := g.fholdDrive, readinessHold := g.readinessHold } = g := by
  cases f
  cases g
  simpa [Feed.rest] using h

/-- Settles O16: each body, and the end of its event, leaves what the clause speaks of. -/
theorem onlyTheseEventsChangeFeedServiceAndNozzles : Obligations.OnlyTheseEventsChangeFeedServiceAndNozzles := by
  intro i s t hc hp hr
  have hs : special i = false := by
    cases i <;> simp_all [special, Instr.powersOn, Instr.restarts]
  obtain ⟨-, rfl⟩ | ⟨-, rfl⟩ := completes_cases hs hc
  · exact ⟨fun _ => rfl, fun _ => rfl, fun _ => ⟨rfl, rfl, rfl⟩, fun _ => rfl, fun _ => rfl, fun _ _ _ => rfl⟩
  obtain ⟨-, pointer, missed, dry⟩ := (body i (Work.begin s)).chosen_onward.keepWet
  refine ⟨fun h => ?_, fun h => ?_, fun h => ?_, fun h => ?_, fun h => ?_, fun c hf hc => ?_⟩
  · refine Feed.eq_of_rest ?_
    rw [Work.finish_feed, body_keepsFeed _ h]
    rfl
  · rw [Work.finish_mask, body_keepsMask _ h]
    rfl
  · simpa [pointer, missed, dry] using body_keepsPointer (Work.begin s) h
  · simpa using body_keepsGroups (Work.begin s) h
  · simpa using body_keepsArmed (Work.begin s) h
  · rw [Work.finish_starved, body_keepsStarved _ hf hc]
    rfl

end Sys2Proof.Machine
end

section
/-! PROOFS. The end of a flow window: its sample, the average, the new window, and starvation. -/

namespace Sys2Proof.Machine

/-! ### Events that move no ink -/

/-- An event that moves no ink and calls neither for coverage nor for the guard line leaves the ledgers. -/
theorem Work.finish_sameLedgers {s : State} {w : Work} (hi : w.ink = s.ink) (ht : w.tally = s.tally)
    (hb : w.bands = s.bands) (hm : w.mode = s.mode) (hc : w.cover = false) (hg : w.guardDue = false) :
    SameLedgers s w.finish := by
  have covered : w.overfillTests.faultStage.coverStage = w.overfillTests.faultStage :=
    Work.coverStage_off (by simpa using hc)
  have guarded : w.overfillTests.faultStage.guardStage = w.overfillTests.faultStage :=
    Work.guardStage_off (by simpa using hg)
  refine ⟨by simpa using hi, by simpa using ht, ?_, by simpa using hm⟩
  rw [Work.finish_stages, covered, guarded]
  simpa using hb

/-- In an event that moves no ink a channel meets the hold of a purge that now runs, and the valve tests. -/
theorem Work.finish_refill_same {w : Work} (h : w.ink = w.pre.ink) (c : Channel) :
    ∃ x, (x = w.refill.get c ∨ x = (w.refill.get c).hold)
      ∧ x.Settles (w.ink.get c).full.state (w.finish.refill.get c) := by
  obtain ⟨x, hx, settles⟩ := w.finish_refill_get c
  rw [Work.overfillTests_same h] at hx
  exact ⟨x, hx.imp_right (·.2), settles⟩

/-! ### The samples (R32) -/

/-- A channel that is neither IDLE nor in WANT keeps its flow samples and their average. -/
theorem RefillChannel.Settles.samples {full : MarkState} {x y : RefillChannel} (h : x.Settles full y)
    (hi : x.state ≠ .idle) (hw : x.state ≠ .want) : y.samples = x.samples ∧ y.average = x.average := by
  cases h with
  | stays d e => exact ⟨rfl, rfl⟩
  | wants d e h | leaves d e h => contradiction
  | opens d e h => exact (h.elim hi hw).elim
  | yields t d e => exact ⟨rfl, rfl⟩

theorem RefillChannel.hold_samples (x : RefillChannel) :
    x.hold.samples = x.samples ∧ x.hold.average = x.average := by
  unfold RefillChannel.hold
  split <;> exact ⟨rfl, rfl⟩

/-- In an event that moves no ink a channel left neither IDLE nor in WANT keeps its samples. -/
theorem Work.finish_samples {w : Work} (h : w.ink = w.pre.ink) {c : Channel}
    (hi : (w.refill.get c).state ≠ .idle) (hw : (w.refill.get c).state ≠ .want) :
    (w.finish.refill.get c).samples = (w.refill.get c).samples
      ∧ (w.finish.refill.get c).average = (w.refill.get c).average := by
  obtain ⟨x, rfl | rfl, settles⟩ := Work.finish_refill_same h c
  · exact settles.samples hi hw
  · have held := (w.refill.get c).hold_fields.1
    rw [← (w.refill.get c).hold_samples.1, ← (w.refill.get c).hold_samples.2]
    exact settles.samples (by simp [held]) (by simp [held])

/-! ### A flow window's end (R32, R33) -/

/-- The samples of a channel once the window `f` has ended. -/
def RefillChannel.sampledWith (x : RefillChannel) (f : FlowWindow) : List Nat := pushSample x.samples f.pulses

/-- The channel as the window's end leaves it with eight low samples (R33). -/
def RefillChannel.starvedBy (x : RefillChannel) (f : FlowWindow) : RefillChannel :=
  { x with
    samples := x.sampledWith f, average := rollingAverage (x.sampledWith f), state := .starved, window := none,
    waited := 0, starvedMark := true }

/-- The channel as the window's end leaves it otherwise: the next window begins (R32). -/
def RefillChannel.flowsOn (x : RefillChannel) (f : FlowWindow) : RefillChannel :=
  { x with
    samples := x.sampledWith f, average := rollingAverage (x.sampledWith f),
    window := some { elapsed := 0, pulses := 0 } }

/-- The channel starves at the end of the window `f`: eight samples that average below the threshold (R33). -/
def State.starves (s : State) (c : Channel) (f : FlowWindow) : Prop :=
  ((s.refill.get c).sampledWith f).length = 8
    ∧ rollingAverage ((s.refill.get c).sampledWith f) < s.sec1.starveThreshold

theorem Work.windowEnd_starves {w : Work} {c : Channel} {f : FlowWindow} (h : w.starves c f) :
    w.windowEnd c f = ((w.putRefill c ((w.refill.get c).starvedBy f)).raise .lineStarved (.channel c)).marksChanged c
      (w.refill.get c) := if_pos h

theorem Work.windowEnd_flows {w : Work} {c : Channel} {f : FlowWindow} (h : ¬ w.starves c f) :
    w.windowEnd c f = w.putRefill c ((w.refill.get c).flowsOn f) := if_neg h

/-- The body of the end of an OPEN channel's flow window. -/
theorem completes_flowWindowEnd {s : State} {c : Channel} {f : FlowWindow} (hpin : s.mode.resetPin = false)
    (ho : (s.refill.get c).state = .opened) (hw : (s.refill.get c).window = some f) (he : 99 ≤ f.elapsed) :
    Completes (.flowWindowEnd c) s ((Work.begin s).windowEnd c f).finish := by
  have taken : body (.flowWindowEnd c) (Work.begin s) = (Work.begin s).windowEnd c f := by
    simp [body, ho, hw, he]
  rw [← taken]
  exact completes_body rfl hpin

section
variable {s : State} {c : Channel} {f : FlowWindow}

/-- The ink that the event finds is the ink at its end. -/
theorem windowEnd_sameInk : ((Work.begin s).windowEnd c f).ink = ((Work.begin s).windowEnd c f).pre.ink := by simp

/-- Eight low samples: STARVED or HELD with the mark, nothing waited, LINE STARVED active. -/
theorem flowWindowEnd_starves (h : s.starves c f) :
    let t := ((Work.begin s).windowEnd c f).finish
    ((t.refill.get c).samples = (s.refill.get c).sampledWith f
      ∧ (t.refill.get c).average = rollingAverage ((s.refill.get c).sampledWith f))
    ∧ ((t.refill.get c).state = .starved ∨ (t.refill.get c).state = .held)
    ∧ (t.refill.get c).starvedMark = true ∧ (t.refill.get c).waited = 0 ∧ FaultCode.lineStarved ∈ t.faults.active := by
  have taken := Work.windowEnd_starves (w := Work.begin s) h
  have hz : ((Work.begin s).windowEnd c f).refill.get c = (s.refill.get c).starvedBy f := by
    simp [taken, Work.putRefill]
  obtain ⟨samples, average⟩ := Work.finish_samples (windowEnd_sameInk (s := s) (c := c) (f := f)) (c := c)
    (by simp [hz, RefillChannel.starvedBy]) (by simp [hz, RefillChannel.starvedBy])
  obtain ⟨x, hx, settles⟩ := Work.finish_refill_same (windowEnd_sameInk (s := s) (c := c) (f := f)) c
  have starved : (x.state = .starved ∨ x.state = .held) ∧ x.waited = 0 := by
    rw [hz] at hx
    rcases hx with rfl | rfl
    · exact ⟨.inl rfl, rfl⟩
    · obtain ⟨held, -, -, -, -, waited, -⟩ := ((s.refill.get c).starvedBy f).hold_fields
      exact ⟨.inr held, waited rfl⟩
  obtain ⟨state, waited⟩ := starved
  obtain ⟨d, e, hy⟩ := settles.stands (by rcases state with h | h <;> simp [h])
    (by rcases state with h | h <;> simp [h]) (by rcases state with h | h <;> simp [h])
  refine ⟨⟨by rw [samples, hz]; rfl, by rw [average, hz]; rfl⟩, by rw [hy]; exact state, ?_, by rw [hy]; exact waited, ?_⟩
  · rw [Work.finish_starved, hz]
    rfl
  · exact Work.finish_raised (r := { code := .lineStarved, detail := .channel c }) (by simp [taken, Work.raise])

/-- Fewer samples, or an average at the threshold or above: nothing is raised, and the next window runs. -/
theorem flowWindowEnd_flows (h : ¬ s.starves c f) (ho : (s.refill.get c).state = .opened) :
    let t := ((Work.begin s).windowEnd c f).finish
    ((t.refill.get c).samples = (s.refill.get c).sampledWith f
      ∧ (t.refill.get c).average = rollingAverage ((s.refill.get c).sampledWith f))
    ∧ t.faults = s.faults ∧ (t.refill.get c).starvedMark = (s.refill.get c).starvedMark
    ∧ ((t.refill.get c).state = .opened → (t.refill.get c).window = some { elapsed := 0, pulses := 0 }) := by
  have taken := Work.windowEnd_flows (w := Work.begin s) h
  have hz : ((Work.begin s).windowEnd c f).refill.get c = (s.refill.get c).flowsOn f := by
    simp [taken, Work.putRefill]
  have ho' : (((Work.begin s).windowEnd c f).refill.get c).state = .opened := by
    rw [hz]
    exact ho
  obtain ⟨samples, average⟩ := Work.finish_samples (windowEnd_sameInk (s := s) (c := c) (f := f)) (c := c)
    (by simp [ho']) (by simp [ho'])
  have quiet : ((Work.begin s).windowEnd c f).raised = [] := by
    rw [taken]
    rfl
  refine ⟨⟨by rw [samples, hz]; rfl, by rw [average, hz]; rfl⟩, ?_, ?_, fun hy => ?_⟩
  · rw [Work.finish_faults, Work.overfillTests_same windowEnd_sameInk, Work.faultStage_none quiet]
    simp
  · rw [Work.finish_starved, hz]
    rfl
  · rw [Work.finish_window ho' hy, hz]
    rfl

end

/-- Settles O48, by the two sides of the starve test. -/
theorem flowWindowEndSamples : Obligations.FlowWindowEndSamples := by
  intro s c f hpin ho hw he
  refine ⟨_, completes_flowWindowEnd hpin ho hw he,
    Work.finish_sameLedgers (by simp) (by simp) (by simp) (by simp) (by simp) (by simp), ?_⟩
  by_cases hs : s.starves c f
  · obtain ⟨⟨samples, average⟩, starved⟩ := flowWindowEnd_starves hs
    refine ⟨samples, average, fun _ _ => starved, fun h => ?_⟩
    obtain ⟨eight, low⟩ := hs
    exact (h.elim (fun h => h.ne eight) fun h => Nat.not_lt.2 h low).elim
  · obtain ⟨⟨samples, average⟩, flows⟩ := flowWindowEnd_flows hs ho
    exact ⟨samples, average, fun eight low => absurd ⟨eight, low⟩ hs, fun _ => flows⟩

end Sys2Proof.Machine
end

section
/-! SUPPORT. The peers that count on a channel, counted over the stations, and what a pending purge reads of the
refill channels (R25, R26, R28, R29, R107). -/

namespace Sys2Proof.Machine

/-! ### The peers that count (R26) -/

/-- The stations whose entries count on a channel and show what `p` asks for. -/
def State.peersWhere (s : State) (c : Channel) (p : StationNo → ChannelView → Bool) : List StationNo :=
  allStations.filter fun n => decide (n ≠ s.mode.station) &&
    match (s.link.peers.get n).viewOf c with
    | some v => p n v
    | none => false

/-- The views that count, filtered, are as many as the stations that show them. -/
theorem State.peerViews_count (s : State) (c : Channel) (p : StationNo → ChannelView → Bool) :
    ((s.peerViews c).filter fun q => p q.1 q.2).length = (s.peersWhere c p).length := by
  unfold State.peerViews State.peersWhere
  induction allStations with
  | nil => rfl
  | cons n l ih =>
    rw [List.filterMap_cons, List.filter_cons]
    by_cases hn : n = s.mode.station
    · simpa [hn] using ih
    · cases hv : (s.link.peers.get n).viewOf c with
      | none => simpa [hn, hv] using ih
      | some v => cases hp : p n v <;> simpa [hn, hv, hp] using ih

/-- Two tests that no view passes together. -/
theorem State.peersWhere_add (s : State) (c : Channel) {p q : StationNo → ChannelView → Bool}
    (h : ∀ n v, p n v = true → q n v = false) :
    (s.peersWhere c p).length + (s.peersWhere c q).length = (s.peersWhere c fun n v => p n v || q n v).length := by
  unfold State.peersWhere
  induction allStations with
  | nil => rfl
  | cons n l ih =>
    simp only [List.filter_cons]
    by_cases hn : n = s.mode.station
    · simpa [hn] using ih
    · cases hv : (s.link.peers.get n).viewOf c with
      | none => simpa [hn, hv] using ih
      | some v =>
        cases hp : p n v
        · cases hq : q n v <;> simp [hn, hp, hq] at ih ⊢ <;> omega
        · simp [hn, hp, h n v hp] at ih ⊢
          omega

theorem State.mem_peerViews {s : State} {c : Channel} {n : StationNo} {v : ChannelView} :
    (n, v) ∈ s.peerViews c ↔ n ≠ s.mode.station ∧ (s.link.peers.get n).viewOf c = some v := by
  simp only [State.peerViews, List.mem_filterMap]
  constructor
  · rintro ⟨m, -, hm⟩
    split at hm
    · cases hm
    · rename_i hne
      simp only [Option.map_eq_some_iff, Prod.mk.injEq] at hm
      obtain ⟨u, hu, rfl, rfl⟩ := hm
      exact ⟨hne, hu⟩
  · rintro ⟨hne, hv⟩
    exact ⟨n, mem_allStations n, by simp [hne, hv]⟩

/-- The opening test by stations: those that show the channel OPEN, or WANT with precedence, are fewer than the line
budget, and none that counts shows it starved (R28). -/
theorem State.openingTest_iff (s : State) (c : Channel) (cls : Nat) :
    s.openingTest c cls = true ↔
      (s.peersWhere c fun n v => decide (v.state = .opened)
          || (decide (v.state = .want)
            && (decide (cls < v.effective) || (decide (v.effective = cls) && decide (n < s.mode.station))))).length
        < s.sec1.budget.get c
      ∧ ∀ n v, (s.link.peers.get n).viewOf c = some v → n ≠ s.mode.station → v.starved = false := by
  have opens := s.peerViews_count c fun _ v => decide (v.state = .opened)
  have waits := s.peerViews_count c fun n v => decide (v.state = .want) && peerAhead s.mode.station cls (n, v)
  have both := s.peersWhere_add c (p := fun _ v => decide (v.state = .opened))
    (q := fun n v => decide (v.state = .want) && peerAhead s.mode.station cls (n, v))
    fun n v hv => by simp_all
  have starved : ((s.peerViews c).any fun p => p.2.starved) = false ↔
      ∀ n v, (s.link.peers.get n).viewOf c = some v → n ≠ s.mode.station → v.starved = false := by
    simp only [List.any_eq_false, Prod.forall, State.mem_peerViews]
    exact ⟨fun h n v hv hn => by simpa using h n v ⟨hn, hv⟩, fun h n v hv => by simp [h n v hv.2 hv.1]⟩
  simp only [State.openingTest, Bool.and_eq_true, Bool.not_eq_true', starved, decide_eq_true_eq]
  rw [opens, waits, both]
  rfl

/-- The rank of an OPEN channel by stations (R29). -/
theorem State.rank_eq (s : State) (c : Channel) (cls : Nat) :
    s.rank c cls = (s.peersWhere c fun n v => decide (v.state = .opened)
      && (decide (cls < v.effective) || (decide (v.effective = cls) && decide (n < s.mode.station)))).length :=
  s.peerViews_count c fun n v => decide (v.state = .opened) && peerAhead s.mode.station cls (n, v)

/-! ### The pending purges (R107) -/

/-- Of the refill channels a pending purge reads the marks alone. -/
theorem State.purgeRaise_refill (s : State) {t : PerChannel RefillChannel}
    (h : ∀ c, (t.get c).starvedMark = (s.refill.get c).starvedMark
      ∧ (t.get c).lockedMark = (s.refill.get c).lockedMark) (c : Channel) :
    ({ s with refill := t } : State).purgeRaise c = s.purgeRaise c := by
  have marked : ∀ d, ({ s with refill := t } : State).refillMarked d = s.refillMarked d := fun d => by
    simp [State.refillMarked, h d]
  have recoverable : ∀ d, ({ s with refill := t } : State).recoverable d = s.recoverable d := fun d => by
    simp only [State.recoverable, marked]
    rfl
  have channel : ({ s with refill := t } : State).recoveryChannel = s.recoveryChannel := by
    unfold State.recoveryChannel
    exact congrArg (List.find? · Channel.all) (funext recoverable)
  have asked : ({ s with refill := t } : State).requestActions .recovery = s.requestActions .recovery := by
    simp only [State.requestActions, channel]
  have pending : ({ s with refill := t } : State).pendingPurges = s.pendingPurges := by
    simp only [State.pendingPurges, asked]
    rfl
  unfold State.purgeRaise
  rw [pending]
  rfl

/-- With no purge to raise it, the effective class is the deficit class, one above it after the waiting limit
(R25). -/
theorem State.effectiveClass_unraised {s : State} {c : Channel} (h : s.purgeRaise c = false) (d n : Nat) :
    s.effectiveClass c d n = if 2000 ≤ n then Nat.min 3 (d + 1) else d := by
  simp only [State.effectiveClass, h, Config.waitingLimit]
  rfl

end Sys2Proof.Machine
end

section
/-! PROOFS. The timers of a refill channel: the end of a back-off, of the leak window, and of the waiting limit. -/

namespace Sys2Proof.Machine

/-! ### An event that calls for the classes alone -/

/-- An event that moves no ink, raises nothing and calls for no work but the classes and the drive settles each
channel as its body left it. -/
theorem Work.finish_refill_quiet {w : Work} (hi : w.ink = w.pre.ink) (hr : w.raised = []) (hc : w.cover = false)
    (hg : w.guardDue = false) (hb : w.boundary = false) (hl : w.classes = true) (c : Channel) :
    w.finish.refill.get c = w.settledChannel c := by
  have quiet : w.chosen = w := by
    simp [Work.chosen, Work.overfillTests_same hi, Work.faultStage_none hr, Work.coverStage_off hc,
      Work.guardStage_off hg, Work.arbiterStage_off hb hi]
  rw [Work.finish_refill, quiet, Work.refillStage_get, hl]
  rfl

/-! ### The valve tests (R25, R27 to R30) -/

/-- Only the rank rule, in OPEN, starts a back-off. -/
theorem RefillChannel.Settles.backoff {full : MarkState} {x y : RefillChannel} (h : x.Settles full y)
    (ho : x.state ≠ .opened) (hb : x.state ≠ .backoff) : y.backoff = x.backoff ∧ y.state ≠ .backoff := by
  cases h with
  | stays d e => exact ⟨rfl, hb⟩
  | wants d e | leaves d e => exact ⟨rfl, by simp⟩
  | opens d e => exact ⟨rfl, by simp [RefillChannel.openValve]⟩
  | yields t d e h => contradiction

/-- The tests begin no leak window. -/
theorem RefillChannel.Settles.leakless {full : MarkState} {x y : RefillChannel} (h : x.Settles full y)
    (hc : x.leakCount = 0) (hw : x.leakWindow = none) : y.leakCount = 0 ∧ y.leakWindow = none := by
  cases h with
  | opens d e => exact ⟨rfl, rfl⟩
  | stays d e | wants d e | leaves d e | yields t d e => exact ⟨hc, hw⟩

/-- A channel that still needs ink, its FULL mark not WET, keeps its time waited. -/
theorem Work.valveTests_waited {w : Work} {c : Channel} (fresh : Bool) {x : RefillChannel} (he : x.effective ≠ 0)
    (hf : (w.ink.get c).full.state ≠ .wet) : (w.valveTests c fresh x).waited = x.waited := by
  simp only [Work.valveTests]
  split
  next hx =>
    split
    · rcases w.tryOpen_cases c { x with state := .want } with o | o
      · rw [o]
        rfl
      · rw [o]
    · rfl
  next hx =>
    rw [if_neg (by simp [he, hf])]
    split
    · rcases w.tryOpen_cases c x with o | o <;> rw [o]
      rfl
    · rfl
  next hx => split <;> rfl
  next => rfl

theorem Work.tryOpen_state {w : Work} {c : Channel} {x : RefillChannel} (h : x.state = .want) :
    (w.tryOpen c x).state = if w.openingTest c x.effective then .opened else .want := by
  unfold Work.tryOpen
  split
  · rfl
  · exact h

/-- The class of a channel as the event ends. -/
def Work.classNow (w : Work) (c : Channel) : Nat :=
  w.effectiveClass c (w.deficitClass c) (w.refill.get c).waited

theorem Work.settledChannel_effective {w : Work} {c : Channel} (he : w.classNow c ≠ 0)
    (hf : (w.ink.get c).full.state ≠ .wet) : (w.settledChannel c).effective = w.classNow c := by
  simp only [Work.settledChannel]
  rw [Work.valveTests_waited _ he hf]
  rfl

/-- Without a FULL mark that reads DRY an IDLE channel stays as it is. -/
theorem Work.settledChannel_idle {w : Work} {c : Channel} (hi : (w.refill.get c).state = .idle)
    (hf : (w.ink.get c).full.state ≠ .dry) :
    (w.settledChannel c).state = .idle ∧ (w.settledChannel c).waited = (w.refill.get c).waited := by
  simp [Work.settledChannel, Work.valveTests, hi, hf]

/-- A channel that has entered WANT in the event opens exactly on the opening test. -/
theorem Work.settledChannel_entersWant {w : Work} {c : Channel} (hw : (w.refill.get c).state = .want)
    (hp : (w.pre.refill.get c).state ≠ .want) (he : w.classNow c ≠ 0) (hf : (w.ink.get c).full.state ≠ .wet) :
    (w.settledChannel c).state = if w.openingTest c (w.classNow c) then .opened else .want := by
  have entered : decide (RefillState.want ≠ (w.pre.refill.get c).state) = true := decide_eq_true (Ne.symm hp)
  have needs : ¬ (w.effectiveClass c (w.deficitClass c) (w.refill.get c).waited = 0
      ∨ (w.ink.get c).full.state = .wet) := by
    simpa [not_or] using ⟨he, hf⟩
  simp only [Work.settledChannel, Work.valveTests, hw, needs, entered, Bool.or_true, Bool.true_or, if_true, if_false]
  exact Work.tryOpen_state rfl

/-! ### The end of a back-off (R30) -/

section
variable {s : State} {c : Channel}

/-- The channel left for IDLE at its back-off's end. -/
def RefillChannel.rested (x : RefillChannel) : RefillChannel := { x with state := .idle, backoff := none, waited := 0 }

/-- The channel that still needs ink at its back-off's end. -/
def RefillChannel.wantsAgain (x : RefillChannel) : RefillChannel := { x with state := .want, backoff := none }

theorem backoffOver_wants (he : 1 ≤ (s.refill.get c).effective) (hf : (s.ink.get c).full.state = .dry) :
    (Work.begin s).backoffOver c = (Work.begin s).putRefill c (s.refill.get c).wantsAgain := if_pos ⟨he, hf⟩

theorem backoffOver_rests (h : ¬ (1 ≤ (s.refill.get c).effective ∧ (s.ink.get c).full.state = .dry)) :
    (Work.begin s).backoffOver c = (Work.begin s).putRefill c (s.refill.get c).rested := if_neg h

/-- The event of a channel replaced by `x`. -/
theorem Work.putRefill_finish (x : RefillChannel) :
    ((Work.begin s).putRefill c x).finish.refill.get c = ((Work.begin s).putRefill c x).settledChannel c
      ∧ SameLedgers s ((Work.begin s).putRefill c x).finish :=
  ⟨Work.finish_refill_quiet rfl rfl rfl rfl rfl rfl c, Work.finish_sameLedgers rfl rfl rfl rfl rfl rfl⟩

/-- The channel that the event has replaced, settled. -/
theorem Work.putRefill_settles (x : RefillChannel) :
    x.Settles (s.ink.get c).full.state (((Work.begin s).putRefill c x).finish.refill.get c) := by
  have settles := ((Work.begin s).putRefill c x).settledChannel_settles c
  rw [(Work.putRefill_finish x).1]
  simpa [Work.putRefill] using settles

theorem completes_backoffEnd (hpin : s.mode.resetPin = false) (hs : (s.refill.get c).state = .backoff)
    (hb : (s.refill.get c).backoff = some 0) : Completes (.backoffEnd c) s ((Work.begin s).backoffOver c).finish := by
  have taken : body (.backoffEnd c) (Work.begin s) = (Work.begin s).backoffOver c := by simp [body, hs, hb]
  rw [← taken]
  exact completes_body rfl hpin

/-- A channel with its back-off over is no longer in BACKOFF. -/
theorem backoffEnd_leaves {x : RefillChannel} (hs : x.state ≠ .opened) (hb : x.state ≠ .backoff)
    (hn : x.backoff = none) :
    (((Work.begin s).putRefill c x).finish.refill.get c).backoff = none
      ∧ (((Work.begin s).putRefill c x).finish.refill.get c).state ≠ .backoff := by
  obtain ⟨backoff, state⟩ := (Work.putRefill_settles (s := s) (c := c) x).backoff hs hb
  exact ⟨backoff.trans hn, state⟩

/-- The channel with no use for ink rests in IDLE with nothing waited. -/
theorem backoffEnd_rests (hf : (s.ink.get c).full.state ≠ .dry) :
    let t := ((Work.begin s).putRefill c (s.refill.get c).rested).finish
    (t.refill.get c).state = .idle ∧ (t.refill.get c).waited = 0 := by
  have hz : ((Work.begin s).putRefill c (s.refill.get c).rested).refill.get c = (s.refill.get c).rested := by
    simp [Work.putRefill]
  obtain ⟨state, waited⟩ := Work.settledChannel_idle (w := (Work.begin s).putRefill c (s.refill.get c).rested) (c := c)
    (by rw [hz]; rfl) hf
  refine ⟨by rw [(Work.putRefill_finish _).1]; exact state, ?_⟩
  rw [(Work.putRefill_finish _).1, waited, hz]
  rfl

/-- The class of a channel back in WANT is its deficit class before the waiting limit (R25). -/
theorem wantsAgain_class (hp : s.purgeRaise c = false) (hw : (s.refill.get c).waited < 2000) :
    ((Work.begin s).putRefill c (s.refill.get c).wantsAgain).classNow c = s.deficitClass c := by
  have unraised : ((Work.begin s).putRefill c (s.refill.get c).wantsAgain).purgeRaise c = false := by
    rw [← hp]
    refine State.purgeRaise_refill s (fun d => ?_) c
    rw [PerChannel.get_set]
    split
    · rename_i e
      exact e ▸ ⟨rfl, rfl⟩
    · exact ⟨rfl, rfl⟩
  have waited : (((Work.begin s).putRefill c (s.refill.get c).wantsAgain).refill.get c).waited < 2000 := by
    simpa [Work.putRefill, RefillChannel.wantsAgain] using hw
  rw [Work.classNow, State.effectiveClass_unraised unraised, if_neg (by omega)]
  rfl

/-- The channel that still needs ink opens on the opening test, and otherwise wants. -/
theorem backoffEnd_wants (hs : (s.refill.get c).state = .backoff) (hf : (s.ink.get c).full.state = .dry)
    (hp : s.purgeRaise c = false) (hw : (s.refill.get c).waited < 2000) (hd : 1 ≤ s.deficitClass c) :
    let t := ((Work.begin s).putRefill c (s.refill.get c).wantsAgain).finish
    (t.refill.get c).effective = s.deficitClass c
      ∧ (t.refill.get c).state = if s.openingTest c (s.deficitClass c) then .opened else .want := by
  have hclass := wantsAgain_class hp hw
  have hnz : ((Work.begin s).putRefill c (s.refill.get c).wantsAgain).classNow c ≠ 0 := by omega
  have hdry : (((Work.begin s).putRefill c (s.refill.get c).wantsAgain).ink.get c).full.state ≠ .wet := by
    simp [Work.putRefill, hf]
  have effective := Work.settledChannel_effective hnz hdry
  have state := Work.settledChannel_entersWant (by simp [Work.putRefill, RefillChannel.wantsAgain])
    (by simp [Work.putRefill, hs]) hnz hdry
  rw [hclass] at effective state
  exact ⟨by rw [(Work.putRefill_finish _).1, effective], by rw [(Work.putRefill_finish _).1, state]; rfl⟩

/-! ### The leak window and the waiting limit (R25, R35) -/

theorem completes_leakWindowEnd (hpin : s.mode.resetPin = false) (hw : (s.refill.get c).leakWindow = some 0) :
    Completes (.leakWindowEnd c) s
      ((Work.begin s).putRefill c { s.refill.get c with leakCount := 0, leakWindow := none }).finish := by
  have taken : body (.leakWindowEnd c) (Work.begin s)
      = (Work.begin s).putRefill c { s.refill.get c with leakCount := 0, leakWindow := none } := by simp [body, hw]
  rw [← taken]
  exact completes_body rfl hpin

/-- The waiting limit calls for the classes alone. -/
def Work.callClasses (w : Work) : Work := { w with classes := true }

theorem completes_waitingLimitReached (hpin : s.mode.resetPin = false) (hw : (s.refill.get c).waiting = true)
    (hl : 2000 ≤ (s.refill.get c).waited) :
    Completes (.waitingLimitReached c) s (Work.begin s).callClasses.finish := by
  have taken : body (.waitingLimitReached c) (Work.begin s) = (Work.begin s).callClasses := by
    simp [body, hw, Config.waitingLimit, hl, Work.callClasses]
  rw [← taken]
  exact completes_body rfl hpin

/-- At the waiting limit the class is one above the deficit class. -/
theorem waitingLimitReached_class (hl : 2000 ≤ (s.refill.get c).waited) (hf : (s.ink.get c).full.state ≠ .wet)
    (hp : s.purgeRaise c = false) :
    ((Work.begin s).callClasses.finish.refill.get c).effective = Nat.min 3 (s.deficitClass c + 1) := by
  have raised : (Work.begin s).callClasses.classNow c = Nat.min 3 (s.deficitClass c + 1) :=
    (State.effectiveClass_unraised (s := s) hp _ _).trans (if_pos hl)
  have settled := Work.settledChannel_effective (w := (Work.begin s).callClasses) (c := c)
    (by rw [raised]; exact (Nat.lt_min.2 ⟨by omega, by omega⟩).ne') hf
  rw [Work.finish_refill_quiet rfl rfl rfl rfl rfl rfl, settled, raised]

end

/-- Settles O49: each timer's event calls for the classes alone, so its channel is as the valve tests leave it; the
opening test counts the peers by station. -/
theorem refillTimersAct : Obligations.RefillTimersAct := by
  refine ⟨fun s c hpin => ⟨fun hs hb => ?_, fun hw => ?_, fun hw hl hf hp => ?_⟩,
    fun s c hpin hs hb hf he hp hw hd => ?_⟩
  · refine ⟨_, completes_backoffEnd hpin hs hb, ?_⟩
    by_cases h : 1 ≤ (s.refill.get c).effective ∧ (s.ink.get c).full.state = .dry
    · rw [backoffOver_wants h.1 h.2]
      obtain ⟨backoff, state⟩ := backoffEnd_leaves (s := s) (c := c) (x := (s.refill.get c).wantsAgain)
        (by simp [RefillChannel.wantsAgain]) (by simp [RefillChannel.wantsAgain]) rfl
      exact ⟨(Work.putRefill_finish _).2, backoff, state, fun dry => absurd h.2 dry⟩
    · rw [backoffOver_rests h]
      obtain ⟨backoff, state⟩ := backoffEnd_leaves (s := s) (c := c) (x := (s.refill.get c).rested)
        (by simp [RefillChannel.rested]) (by simp [RefillChannel.rested]) rfl
      exact ⟨(Work.putRefill_finish _).2, backoff, state, backoffEnd_rests⟩
  · exact ⟨_, completes_leakWindowEnd hpin hw, (Work.putRefill_finish _).2,
      (Work.putRefill_settles _).leakless rfl rfl⟩
  · exact ⟨_, completes_waitingLimitReached hpin hw hl, Work.finish_sameLedgers rfl rfl rfl rfl rfl rfl,
      waitingLimitReached_class hl hf hp⟩
  · refine ⟨_, completes_backoffEnd hpin hs hb, ?_⟩
    rw [backoffOver_wants he hf]
    obtain ⟨effective, state⟩ := backoffEnd_wants hs hf hp hw hd
    refine ⟨effective, ?_, ?_⟩
    · rw [state]
      split
      · exact .inl rfl
      · exact .inr rfl
    · refine Iff.trans ?_ (State.openingTest_iff s c (s.deficitClass c))
      rw [state]
      split <;> simp_all

end Sys2Proof.Machine
end

section
/-! PROOFS. A STATUS and a BEACON heard: the entries they fill, and the rank rule of an OPEN channel. -/

namespace Sys2Proof.Machine

/-! ### Faults that leave the block condition (R141, R204) -/

/-- An active set that agrees with the block condition neither withdraws nor raises RECOVERY. -/
theorem Work.setActive_unblocked {w : Work} {l : List FaultCode} (h : l.any FaultCode.blocksRecovery = w.nozzle.blocked) :
    (w.setActive l).service = w.service ∧ (w.setActive l).boundary = w.boundary := by
  simp only [Work.setActive, h]
  cases w.nozzle.blocked <;> exact ⟨rfl, rfl⟩

/-- The block condition as the active faults say, as a test of their list. -/
theorem State.blockFollows.any {s : State} (h : s.blockFollows) :
    s.faults.active.any FaultCode.blocksRecovery = s.nozzle.blocked := by
  have blocks : ∀ f : FaultCode, f.blocksRecovery = true ↔ f = .serviceTimeout ∨ f = .nozzleListFull := by
    intro f
    cases f <;> simp [FaultCode.blocksRecovery]
  rw [Bool.eq_iff_iff, List.any_eq_true]
  refine Iff.trans ?_ h.symm
  simp only [blocks]
  constructor
  · rintro ⟨f, hf, rfl | rfl⟩
    · exact .inl hf
    · exact .inr hf
  · rintro (hf | hf)
    · exact ⟨_, hf, .inl rfl⟩
    · exact ⟨_, hf, .inr rfl⟩

/-- Faults that do not block recovery leave service and the call for the arbiter. -/
theorem Work.faultStage_unblocked {w : Work} (h : w.blockFollows)
    (hr : ∀ r ∈ w.raised, r.code.blocksRecovery = false) :
    w.faultStage.service = w.service ∧ w.faultStage.boundary = w.boundary := by
  have members : ∀ r, r ∈ priorityOrder w.raised ↔ r ∈ w.raised := fun _ => mem_priorityOrder
  simp only [Work.faultStage]
  split
  · exact ⟨rfl, rfl⟩
  · rename_i r rs order
    rw [order] at members
    refine Work.setActive_unblocked (w := { w with faults := _ }) ?_
    refine Eq.trans ?_ h.any
    rw [Bool.eq_iff_iff]
    simp only [List.any_eq_true, mem_foldl_enterFault, members]
    constructor
    · rintro ⟨f, hf | ⟨r, hm, rfl⟩, blocks⟩
      · exact ⟨f, hf, blocks⟩
      · simp [hr r hm] at blocks
    · rintro ⟨f, hf, blocks⟩
      exact ⟨f, .inl hf, blocks⟩

/-! ### The rank rule (R29) -/

/-- The rank reads the peer entries and the own number alone. -/
theorem State.rank_congr {s t : State} (hp : t.link.peers = s.link.peers) (hm : t.mode = s.mode) (c : Channel)
    (cls : Nat) : t.rank c cls = s.rank c cls := by
  simp only [State.rank_eq, State.peersWhere, hp, hm]

/-- The rank as the statements count it. -/
theorem State.openAhead_eq (s : State) (c : Channel) : s.openAhead c = s.rank c (s.refill.get c).effective :=
  (s.rank_eq c _).symm

/-- A channel with its classes worked out. -/
def RefillChannel.classed (x : RefillChannel) (d e : Nat) : RefillChannel := { x with deficit := d, effective := e }

theorem Work.valveTests_opened {w : Work} {c : Channel} {fresh : Bool} {x : RefillChannel} (ho : x.state = .opened)
    (hp : w.peersHeard = true) :
    w.valveTests c fresh x = if w.sec1.budget.get c ≤ w.rank c x.effective then x.backOff w.backoffTime else x := by
  simp [Work.valveTests, ho, hp]

/-- With a peer heard an OPEN channel backs off where the peers ahead of it fill the line budget. -/
theorem Work.settledChannel_opened {w : Work} {c : Channel} (ho : (w.refill.get c).state = .opened)
    (hp : w.peersHeard = true) :
    w.settledChannel c =
      (if w.sec1.budget.get c ≤ w.rank c (w.classNow c) then (w.refill.get c).backOff w.backoffTime
        else w.refill.get c).classed (w.deficitClass c) (w.classNow c) := by
  have tests : ∀ fresh, w.valveTests c fresh ((w.refill.get c).classed (w.deficitClass c) (w.classNow c))
      = if w.sec1.budget.get c ≤ w.rank c (w.classNow c)
        then ((w.refill.get c).classed (w.deficitClass c) (w.classNow c)).backOff w.backoffTime
        else (w.refill.get c).classed (w.deficitClass c) (w.classNow c) :=
    fun _ => Work.valveTests_opened ho hp
  refine (congrArg (fun y => { y with effective := w.effectiveClass c (w.deficitClass c) y.waited }) (tests _)).trans ?_
  by_cases full : w.sec1.budget.get c ≤ w.rank c (w.classNow c)
  · rw [if_pos full, if_pos full]
    rfl
  · rw [if_neg full, if_neg full]
    rfl

/-! ### A STATUS from another station (R180) -/

section
variable {s : State} {n : StationNo} {f : PeerStatus}

theorem Work.hearPeer_peers (w : Work) : (w.hearPeer n f).peersHeard = true := by simp [Work.hearPeer, Work.peersChanged]

theorem Work.hearPeer_link (w : Work) :
    (w.hearPeer n f).link =
      { w.link with peers := w.link.peers.set n { presence := .present, age := 0, fields := some f } } := by
  simp [Work.hearPeer, Work.peersChanged]

/-- The skew test raises nothing but SKEW (R84). -/
theorem Work.skewTest_raised {w : Work} {r : Raise} (h : r ∈ w.skewTest.raised) : r ∈ w.raised ∨ r.code = .skew := by
  simp only [Work.skewTest, Work.estimateSkew] at h
  (repeat' split at h)
  · exact .inl h
  · simp only [Work.raise, List.mem_append, List.mem_singleton] at h
    exact h.imp_right fun e => by rw [e]
  · exact .inl h
  · exact .inl h

/-- A STATUS heard raises nothing that blocks recovery. -/
theorem hearPeer_unblocking {r : Raise} (h : r ∈ ((Work.begin s).hearPeer n f).raised) :
    r.code.blocksRecovery = false := by
  rcases Work.skewTest_raised h with h | h
  · simp [Work.peersChanged, Work.begin] at h
  · rw [h]
    rfl

/-- Where the block condition is as the active faults say, a STATUS heard starts no action. -/
theorem hearPeer_chosen (hb : s.blockFollows) :
    ((Work.begin s).hearPeer n f).chosen = ((Work.begin s).hearPeer n f).faultStage := by
  have still : ((Work.begin s).hearPeer n f).blockFollows := by simpa [State.blockFollows] using hb
  have boundary := (Work.faultStage_unblocked still fun _ => hearPeer_unblocking).2
  rw [Work.chosen, Work.overfillTests_same (by simp), Work.coverStage_off (by simp), Work.guardStage_off (by simp),
    Work.arbiterStage_off (by simp [boundary]) (by simp)]

theorem completes_peerStatusHeard (hpin : s.mode.resetPin = false) (hn : n ≠ s.mode.station) :
    Completes (.peerStatusHeard n f) s ((Work.begin s).hearPeer n f).finish := by
  have taken : body (.peerStatusHeard n f) (Work.begin s) = (Work.begin s).hearPeer n f := by simp [body, hn]
  rw [← taken]
  exact completes_body rfl hpin

/-- An OPEN channel at a STATUS heard: it backs off where the peers ahead of it fill the line budget. -/
theorem hearPeer_opened {c : Channel} (hb : s.blockFollows) (ho : (s.refill.get c).state = .opened) :
    let t := ((Work.begin s).hearPeer n f).finish
    ∃ d e, t.refill.get c =
      (if s.sec1.budget.get c ≤ t.openAhead c then (s.refill.get c).backOff s.backoffTime
        else s.refill.get c).classed d e := by
  intro t
  let w := ((Work.begin s).hearPeer n f).faultStage
  have settled : t.refill.get c = w.settledChannel c := by
    rw [Work.finish_refill, hearPeer_chosen hb, Work.refillStage_get, if_pos (by simp [Work.hearPeer_peers])]
  have opened : (w.refill.get c).state = .opened := by simpa [w] using ho
  rw [Work.settledChannel_opened opened (by simp [w, Work.hearPeer_peers])] at settled
  have ahead : t.openAhead c = w.rank c (w.classNow c) := by
    obtain ⟨-, -, -, -, -, -, -, -, ends, -⟩ := ((Work.begin s).hearPeer n f).finish_link
    obtain ⟨-, -, -, -, -, -, -, -, peers, -⟩ := ((Work.begin s).hearPeer n f).faultStage_link
    rw [State.openAhead_eq, settled]
    exact State.rank_congr (ends.trans peers.symm) (by simp) c _
  have kept : w.refill.get c = s.refill.get c ∧ w.sec1 = s.sec1 ∧ w.backoffTime = s.backoffTime := by
    simp [w, State.sec1, State.backoffTime]
  refine ⟨w.deficitClass c, w.classNow c, ?_⟩
  obtain ⟨channel, sec1, time⟩ := kept
  rw [settled, ahead, channel, sec1, time]

end

/-! ### A BEACON (R182) -/

section
variable {s : State} {stopping : Bool}

theorem completes_beaconHeard (n : Option Nat) (hpin : s.mode.resetPin = false) :
    Completes (.beaconHeard stopping n) s ((Work.begin s).hearBeacon stopping).finish :=
  completes_body (i := .beaconHeard stopping n) rfl hpin

theorem Work.loseController_link (w : Work) :
    w.loseController.link = { w.link with controller := { w.link.controller with presence := .lost } } := by
  simp only [Work.loseController]
  split <;> simp [Work.peersChanged]

theorem Work.hearBeacon_link (w : Work) :
    (w.hearBeacon stopping).link =
      { w.link with controller := { presence := if stopping then .lost else .present, age := 0 } } := by
  cases stopping <;> simp only [Work.hearBeacon, Bool.false_eq_true, if_false, if_true]
  · split
    · simp [*]
    · simp [Work.peersChanged]
  · split
    · simp [*]
    · simp [Work.loseController_link]

/-- A STOPPING BEACON that ends the controller's presence raises CONTROLLER SILENT with a sheet in progress (R75). -/
theorem Work.hearBeacon_raised {w : Work} (hc : w.link.controller.presence ≠ .lost) (hs : w.sheetInProgress = true) :
    ⟨.controllerSilent, .none⟩ ∈ (w.hearBeacon true).raised := by
  simp [Work.hearBeacon, hc, Work.loseController, Work.peersChanged, Work.raise, State.sheetInProgress] at hs ⊢
  simp [hs]

end

/-- Settles O41: the end of an event leaves the link's entries as the body filled them, and a STATUS heard settles an
OPEN channel by its rank. -/
theorem heardFramesFillTheirEntries : Obligations.HeardFramesFillTheirEntries := by
  refine ⟨fun s n f hpin hn => ?_, fun s stopping n hpin => ?_⟩
  · obtain ⟨errors, -, -, -, -, -, -, -, peers, controller, -⟩ := ((Work.begin s).hearPeer n f).finish_link
    rw [Work.hearPeer_link] at errors peers controller
    refine ⟨_, completes_peerStatusHeard hpin hn, ?_, fun m hm => ?_, controller, errors,
      Work.finish_sameLedgers (by simp) (by simp) (by simp) (by simp) (by simp) (by simp), fun c hb ho => ?_⟩
    · rw [peers]
      rw [PerStation.get_set, if_pos rfl]
    · rw [peers]
      rw [PerStation.get_set, if_neg hm]
      rfl
    · obtain ⟨d, e, settled⟩ := hearPeer_opened (n := n) (f := f) hb ho
      rw [settled]
      refine ⟨fun full => ?_, fun room => ?_⟩
      · rw [if_pos full]
        exact ⟨rfl, rfl, rfl, rfl⟩
      · rw [if_neg (Nat.not_le.2 room)]
        exact ho
  · obtain ⟨-, -, -, -, -, -, -, -, peers, controller, -⟩ := ((Work.begin s).hearBeacon stopping).finish_link
    rw [Work.hearBeacon_link] at peers controller
    refine ⟨_, completes_beaconHeard n hpin, controller, ?_, peers,
      Work.finish_sameLedgers (by simp) (by simp) (by simp) (by simp) (by simp) (by simp)⟩
    rintro rfl hc hs
    exact Work.finish_raised (Work.hearBeacon_raised hc hs)

end Sys2Proof.Machine
end

section
/-! PROOFS. A step on an empty queue: one tick of the time base. -/

namespace Sys2Proof.Machine

/-! ### The counts of one tick -/

theorem PeerEntry.aged_absent {e : PeerEntry} (h : e.presence = .absent) : e.aged = e := by simp [PeerEntry.aged, h]

theorem PeerEntry.aged_counts {e : PeerEntry} (h : e.presence ≠ .absent) :
    e.aged = { e with age := Nat.min 65535 (e.age + 1) } := by
  cases hp : e.presence
  · exact absurd hp h
  all_goals simp [PeerEntry.aged, hp]

theorem ControllerEntry.aged_eq (e : ControllerEntry) :
    e.aged = { e with age := if e.presence = .absent then e.age else Nat.min 65535 (e.age + 1) } := by
  cases hp : e.presence <;> simp [ControllerEntry.aged, hp]
  rw [← hp]

theorem RefillChannel.aged_eq (x : RefillChannel) :
    x.aged = { x with
      waited := if x.state = .want ∨ x.state = .backoff then Nat.min 2000 (x.waited + 1) else x.waited
      backoff := x.backoff.map (· - 1)
      window := x.window.map fun f => { f with elapsed := Nat.min 99 (f.elapsed + 1) }
      leakWindow := x.leakWindow.map (· - 1) } := by
  have waiting : x.waiting = true ↔ x.state = .want ∨ x.state = .backoff := by
    cases hs : x.state <;> simp [RefillChannel.waiting, hs]
  simp only [RefillChannel.aged, waiting, Config.waitingLimit]

/-- The conditions of idle capping (R110). -/
theorem State.idleUncapped_iff (s : State) :
    s.idleUncapped = true ↔ s.mode.mode = .run ∧ (s.feed.phase = .none ∨ s.feed.phase = .ended)
      ∧ s.service.current = none ∧ s.service.stack = []
      ∧ (s.service.sled ≠ .standing .cap ∨ s.service.capped = false) := by
  have between : s.betweenSheets = true ↔ s.feed.phase = .none ∨ s.feed.phase = .ended := by
    cases hf : s.feed.phase <;> simp [State.betweenSheets, hf]
  simp [State.idleUncapped, State.inRun, between, State.notCappedHome, and_assoc]

theorem State.agedService_eq (s : State) :
    s.agedService = { s.service with
      timeLeft := s.service.timeLeft.map (· - 1)
      capIdle :=
        if s.mode.mode = .run ∧ (s.feed.phase = .none ∨ s.feed.phase = .ended)
            ∧ s.service.current = none ∧ s.service.stack = []
            ∧ (s.service.sled ≠ .standing .cap ∨ s.service.capped = false) then
          Nat.min s.sec3.capIdleTime (s.service.capIdle + 1)
        else s.service.capIdle } := by
  simp only [State.agedService, State.idleUncapped_iff]

/-! ### The keep-wet unit at a tick (R116, R117, R126) -/

theorem State.agedKeepWet_stands {s : State} (h : s.mode.mode ≠ .run ∨ s.keepWet.counter = none) :
    s.agedKeepWet = s.keepWet := by
  unfold State.agedKeepWet
  split
  · rfl
  · simp_all [State.inRun]

theorem State.agedKeepWet_counts {s : State} {n : Nat} (hc : s.keepWet.counter = some n) (hm : s.mode.mode = .run)
    (h : s.countedTick = true) :
    s.agedKeepWet = { s.keepWet with cappedTicks := 0, counter := some (Nat.max 1 (n - 1)) } := by
  simp [State.agedKeepWet, hc, State.inRun, hm, h]

theorem State.agedKeepWet_capped {s : State} {n : Nat} (hc : s.keepWet.counter = some n) (hm : s.mode.mode = .run)
    (h : s.countedTick = false) :
    s.agedKeepWet = { s.keepWet with cappedTicks := s.keepWet.cappedTicks + 1 } := by
  simp [State.agedKeepWet, hc, State.inRun, hm, h]

/-- A tick brings the expiry due where it is a counted tick of RUN that finds the counter at 1. -/
theorem State.keepWetExpiry_mem_dueEvents {s t : State} :
    Instr.keepWetExpiry ∈ s.dueEvents t
      ↔ s.mode.mode = .run ∧ s.countedTick = true ∧ s.keepWet.counter = some 1 := by
  have marks : ∀ (k : Mark) c m, Instr.keepWetExpiry ∉ k.due c m := fun k c m h => by
    obtain ⟨-, e⟩ := Mark.mem_due.1 h
    split at e <;> cases e
  have refill : ∀ (x : RefillChannel) c, Instr.keepWetExpiry ∉ x.dueEvents c := by
    simp [RefillChannel.dueEvents, mem_dueWhen]
  have steps : Instr.keepWetExpiry ∉ t.dueSteps := by
    unfold State.dueSteps
    (repeat' split) <;> simp
  simp [State.dueEvents, mem_dueWhen, marks, refill, steps, State.inRun, and_assoc]

/-! ### The tick of an empty queue -/

section
variable {s : State}

theorem State.tick_live (h : s.mode.resetPin = false) (hp : s.pending = []) :
    s.tick = { s.aged with pending := s.dueEvents s.aged } := by simp [State.tick, h, hp]

theorem State.keepWetExpiry_mem_tick (h : s.mode.resetPin = false) (hp : s.pending = []) :
    Instr.keepWetExpiry ∈ s.tick.pending
      ↔ s.mode.mode = .run ∧ s.countedTick = true ∧ s.keepWet.counter = some 1 := by
  rw [State.tick_live h hp]
  exact State.keepWetExpiry_mem_dueEvents

/-- The refill channels, feed control and service at a tick. -/
theorem State.tick_blocks (h : s.mode.resetPin = false) :
    (∀ c, s.tick.refill.get c = (s.refill.get c).aged)
      ∧ s.tick.feed = { s.feed with skewWindow := s.feed.skewWindow.map (· - 1) }
      ∧ s.tick.service = s.agedService ∧ s.tick.keepWet = s.agedKeepWet ∧ s.tick.link = s.agedLink
      ∧ s.tick.nozzle = s.nozzle ∧ s.tick.tally = s.tally ∧ s.tick.bands = s.bands ∧ s.tick.faults = s.faults := by
  simp [State.tick, h, State.aged]

/-- The keep-wet unit at a tick, and whether its expiry joins the queue. -/
theorem State.tick_keepWet (h : s.mode.resetPin = false) (hp : s.pending = []) :
    (s.mode.mode ≠ .run ∨ s.keepWet.counter = none → s.tick.keepWet = s.keepWet
        ∧ Instr.keepWetExpiry ∉ s.tick.pending)
    ∧ (∀ n, s.keepWet.counter = some n → s.mode.mode = .run →
      (s.service.capped = false ∨ 7 ≤ s.keepWet.cappedTicks →
        s.tick.keepWet = { s.keepWet with cappedTicks := 0, counter := some (Nat.max 1 (n - 1)) }
        ∧ (Instr.keepWetExpiry ∈ s.tick.pending ↔ n = 1))
      ∧ (s.service.capped = true → s.keepWet.cappedTicks < 7 →
        s.tick.keepWet = { s.keepWet with cappedTicks := s.keepWet.cappedTicks + 1 }
        ∧ Instr.keepWetExpiry ∉ s.tick.pending)) := by
  obtain ⟨-, -, -, keepWet, -⟩ := State.tick_blocks h
  rw [keepWet, State.keepWetExpiry_mem_tick h hp]
  refine ⟨fun stands => ⟨State.agedKeepWet_stands stands, ?_⟩, fun n hc hm => ⟨fun counted => ?_, fun capped few => ?_⟩⟩
  · rintro ⟨hm, -, hc⟩
    exact stands.elim (· hm) fun none => by simp [none] at hc
  · have counted : s.countedTick = true := by simpa [State.countedTick] using counted
    refine ⟨State.agedKeepWet_counts hc hm counted, ?_⟩
    simp [hc, hm, counted]
  · have uncounted : s.countedTick = false := by simp [State.countedTick, capped, few]
    refine ⟨State.agedKeepWet_capped hc hm uncounted, ?_⟩
    simp [uncounted]

end

/-- Settles O2: the step is the tick, whose counts are worked out block by block. -/
theorem anEmptyQueueTicks : Obligations.AnEmptyQueueTicks := by
  intro s hp
  refine ⟨s.tick, by simp [step, hp], fun pin => by simp [State.tick, pin], fun pin => ?_⟩
  obtain ⟨refill, feed, service, -, link, nozzle, tally, bands, faults⟩ := State.tick_blocks pin
  obtain ⟨stands, counts⟩ := State.tick_keepWet pin hp
  refine ⟨fun c => (refill c).trans (RefillChannel.aged_eq _), feed, service.trans s.agedService_eq, stands, counts,
    ?_, ?_, ?_, fun n absent => ?_, fun n present => ?_, ?_, nozzle, tally, bands, s.tick_mode, faults, fun c => ?_⟩
  · rw [link]
    rfl
  · rw [link]
    rfl
  · rw [link]
    rfl
  · rw [link, ← PeerEntry.aged_absent absent]
    simp [State.agedLink, PeerEntry.aged_absent absent]
  · rw [link, ← PeerEntry.aged_counts present]
    simp [State.agedLink]
  · rw [link, ← ControllerEntry.aged_eq]
    rfl
  · obtain ⟨estimate, residue, state, -⟩ := s.tick_ledger c
    exact ⟨estimate, residue, state⟩

end Sys2Proof.Machine
end

section
/-! SUPPORT. Feed control's operations once more: the slip test, the skew estimate, a step and a turn of the move,
each as what it makes of the feed record and of the raises. -/

namespace Sys2Proof.Machine

/-! ### The slip test (R85) -/

/-- The slip test finds the difference of R85 beyond the limit, with SLIP not yet raised for the sheet. -/
def State.slips (s : State) : Bool :=
  !s.feed.slipRaised && match s.slipDifference with
    | none => false
    | some d => decide (s.sec2.slipLimit < d.natAbs)

theorem Work.slipTest_eq (w : Work) :
    w.slipTest = if w.slips then
      ({ w with feed := { w.feed with slipRaised := true } } : Work).raise .slip .none else w := by
  unfold Work.slipTest State.slips
  cases w.slipDifference <;> simp

@[simp] theorem Work.slipTest_feed (w : Work) :
    w.slipTest.feed = { w.feed with slipRaised := w.feed.slipRaised || w.slips } := by
  rw [Work.slipTest_eq]
  cases h : w.slips <;> simp [Work.raise]

theorem Work.slipTest_raised (w : Work) :
    w.slipTest.raised = w.raised ++ if w.slips then [{ code := .slip, detail := .none }] else [] := by
  rw [Work.slipTest_eq]
  cases w.slips <;> simp [Work.raise]

/-! ### The skew estimate (R83, R84) -/

/-- The skew estimate for an own capture from the captures now available (R84). -/
def State.skewNow (s : State) (a : Nat) : Int :=
  skewOf a (s.captureFrom (leftOf s.mode.station)) (s.captureFrom (rightOf s.mode.station))

/-- The skew estimate for an own capture is beyond the skew limit (R84). -/
def State.skewed (s : State) (a : Nat) : Bool := decide (s.sec2.skewLimit < (s.skewNow a).natAbs)

/-- Feed control with the skew estimated for an own capture (R83, R84). -/
def State.judgedFeed (s : State) (a : Nat) : Feed :=
  { s.feed with
    skew := some (s.skewNow a), skewWindow := none
    trim := if s.skewed a then s.feed.trim else -s.skewNow a }

theorem Work.estimateSkew_none {w : Work} (h : w.feed.capture = none) : w.estimateSkew = w := by
  simp [Work.estimateSkew, h]

theorem Work.estimateSkew_some {w : Work} {a : Nat} (h : w.feed.capture = some a) :
    w.estimateSkew = if w.skewed a then ({ w with feed := w.judgedFeed a } : Work).raise .skew .none
      else { w with feed := w.judgedFeed a } := by
  unfold Work.estimateSkew State.judgedFeed State.skewed
  rw [h]
  by_cases hd : w.sec2.skewLimit < (w.skewNow a).natAbs
  · simp only [hd, decide_true, if_true]
    exact if_pos hd
  · simp only [hd, decide_false]
    exact if_neg hd

theorem Work.estimateSkew_feed {w : Work} {a : Nat} (h : w.feed.capture = some a) :
    w.estimateSkew.feed = w.judgedFeed a := by
  rw [Work.estimateSkew_some h]
  split <;> rfl

theorem Work.estimateSkew_raised {w : Work} {a : Nat} (h : w.feed.capture = some a) :
    w.estimateSkew.raised = w.raised ++ if w.skewed a then [{ code := .skew, detail := .none }] else [] := by
  rw [Work.estimateSkew_some h]
  cases w.skewed a <;> simp [Work.raise]

theorem Work.skewTest_eq (w : Work) :
    w.skewTest = if w.feed.skewWindow.isSome && w.capturesIn then w.estimateSkew else w := rfl

/-- What the estimate leaves of feed control: all but the estimate itself, its window and the trim. -/
@[simp] theorem Work.estimateSkew_fields (w : Work) :
    w.estimateSkew.feed.sheet = w.feed.sheet ∧ w.estimateSkew.feed.phase = w.feed.phase
      ∧ w.estimateSkew.feed.capture = w.feed.capture ∧ w.estimateSkew.feed.stepsAtCapture = w.feed.stepsAtCapture
      ∧ w.estimateSkew.feed.position = w.feed.position ∧ w.estimateSkew.feed.commanded = w.feed.commanded
      ∧ w.estimateSkew.feed.move = w.feed.move ∧ w.estimateSkew.feed.vacuum = w.feed.vacuum
      ∧ w.estimateSkew.feed.fholdDrive = w.feed.fholdDrive := by
  cases hc : w.feed.capture with
  | none => simp [Work.estimateSkew_none hc, hc]
  | some b => simp [Work.estimateSkew_feed hc, State.judgedFeed, hc]

@[simp] theorem Work.skewTest_fields (w : Work) :
    w.skewTest.feed.sheet = w.feed.sheet ∧ w.skewTest.feed.phase = w.feed.phase
      ∧ w.skewTest.feed.capture = w.feed.capture ∧ w.skewTest.feed.stepsAtCapture = w.feed.stepsAtCapture
      ∧ w.skewTest.feed.position = w.feed.position ∧ w.skewTest.feed.commanded = w.feed.commanded
      ∧ w.skewTest.feed.move = w.feed.move ∧ w.skewTest.feed.vacuum = w.feed.vacuum
      ∧ w.skewTest.feed.fholdDrive = w.feed.fholdDrive := by
  rw [Work.skewTest_eq]
  split <;> simp

/-! ### A step issued (R64, R70, R80) -/

/-- Feed control with one step issued to the roller (R64, R80). -/
def Feed.issued (f : Feed) : Feed :=
  { f with
    commanded := Nat.min 16777215 (f.commanded + 1)
    fedPending := if f.phase = .pending then Nat.min 16777215 (f.fedPending + 1) else f.fedPending }

/-- The step that is issued takes the sheet beyond its lead-edge limit for the first time (R80). -/
def Feed.late (f : Feed) : Bool :=
  match f.sheet with
  | some r => decide (f.phase = .pending) && !f.edgeLateRaised && decide (r.leadLimit < f.issued.fedPending)
  | none => false

/-- A step issued, before its tests. -/
def Work.issued (w : Work) : Work := { w with feed := w.feed.issued, boundary := true, drive := true }

/-- The late-edge test of a step (R80). -/
def Work.lateTest (w : Work) (late : Bool) : Work :=
  if late then ({ w with feed := { w.feed with edgeLateRaised := true } } : Work).raise .edgeLate .none else w

theorem Work.issueStep_eq (w : Work) : w.issueStep = (w.issued.lateTest w.feed.late).slipTest := by
  have fed : w.feed.issued.fedPending
      = if decide (w.feed.phase = .pending) then Nat.min 16777215 (w.feed.fedPending + 1) else w.feed.fedPending := by
    simp [Feed.issued]
  simp only [Work.issueStep, Work.lateTest, Work.issued, Feed.late, fed]
  simp only [Feed.issued, decide_eq_true_eq]
  rfl

theorem Work.lateTest_feed (w : Work) (late : Bool) :
    (w.lateTest late).feed = { w.feed with edgeLateRaised := w.feed.edgeLateRaised || late } := by
  cases late <;> simp [Work.lateTest, Work.raise]

theorem Work.lateTest_raised (w : Work) (late : Bool) :
    (w.lateTest late).raised = w.raised ++ if late then [{ code := .edgeLate, detail := .none }] else [] := by
  cases late <;> simp [Work.lateTest, Work.raise]

/-- The move after a counted step, and what the trim makes of it (R69, R70). -/
def Feed.counted (f : Feed) (m : Move) : Feed :=
  let n := m.stepsDone + 1
  if n % 16 = 0 ∧ n < m.distance ∧ 0 < f.trim then { f with move := some (m.advanced n), extraOwed := true }
  else if n % 16 = 0 ∧ n < m.distance ∧ f.trim < 0 then
    { f with move := some (m.advanced (n + 1)), trim := f.trim + 1 }
  else { f with move := some (m.advanced n) }

/-- Feed control with a step due taken, before the step is issued: an owed extra step, or a counted one (R70). -/
def Feed.paced (f : Feed) (m : Move) : Feed :=
  if f.extraOwed then { f with extraOwed := false, trim := f.trim - 1 } else f.counted m

/-- What a step due leaves of feed control before it is issued: all but the move, the trim and the extra step. -/
@[simp] theorem Feed.paced_frame (f : Feed) (m : Move) :
    (f.paced m).sheet = f.sheet ∧ (f.paced m).phase = f.phase ∧ (f.paced m).position = f.position
      ∧ (f.paced m).commanded = f.commanded ∧ (f.paced m).capture = f.capture
      ∧ (f.paced m).stepsAtCapture = f.stepsAtCapture ∧ (f.paced m).fedPending = f.fedPending
      ∧ (f.paced m).readinessHold = f.readinessHold ∧ (f.paced m).edgeLateRaised = f.edgeLateRaised
      ∧ (f.paced m).slipRaised = f.slipRaised ∧ (f.paced m).fholdDrive = f.fholdDrive := by
  simp only [Feed.paced, Feed.counted]
  (repeat' split) <;> simp

theorem Work.countStep_eq (w : Work) (m : Move) : w.countStep m = { w with feed := w.feed.counted m } := by
  simp only [Work.countStep, Feed.counted]
  (repeat' split) <;> rfl

theorem Work.takeStep_eq (w : Work) (m : Move) :
    w.takeStep m = ({ w with feed := w.feed.paced m } : Work).issueStep := by
  simp only [Work.takeStep, Feed.paced, Work.countStep_eq]
  split <;> rfl

/-! ### A turn of the move, and a FEED order taken (R68, R76, R77) -/

/-- A move with one state turned into another. -/
def Move.turned (m : Move) (old new : MoveState) : Move := if m.state = old then { m with state := new } else m

theorem Work.turnMove_feed (w : Work) (old new : MoveState) :
    (w.turnMove old new).feed = { w.feed with move := w.feed.move.map fun m => m.turned old new } := rfl

end Sys2Proof.Machine
end

section
/-! PROOFS. FHOLD stays driven outside RUN and while a sheet-stop fault is active (R76, R86). -/

namespace Sys2Proof.Machine

/-! ### The FHOLD drive at the end of an event (R76) -/

theorem Work.driveStage_feed (w : Work) :
    w.refillStage.driveStage.feed = if w.drive then w.drivenFeed else w.feed := rfl

/-- The feed record after the end of an event: with the drive worked out anew where the event called for it. -/
theorem Work.finish_drivenFeed (w : Work) :
    w.finish.feed = if w.chosen.drive then w.chosen.drivenFeed else w.feed := by
  obtain ⟨-, -, -, feed, -⟩ := w.finish_settled
  rw [feed, Work.settle_eq, Work.driveStage_feed]
  simp

@[simp] theorem Work.setActive_drive (w : Work) (l : List FaultCode) : (w.setActive l).drive = true := by
  simp only [Work.setActive]
  (repeat' split) <;> simp

/-- A fault taken calls for the drive (R204). -/
theorem Work.faultStage_drive {w : Work} (h : w.raised ≠ []) : w.faultStage.drive = true := by
  obtain ⟨r, hr⟩ := List.exists_mem_of_ne_nil _ h
  have taken : r ∈ priorityOrder w.raised := mem_priorityOrder.2 hr
  unfold Work.faultStage
  split
  · rename_i none
    simp [none] at taken
  · exact Work.setActive_drive ..

/-- The arbiter's choice comes after the fault stage, and a drive called for stays called for. -/
theorem Work.faultStage_onward_chosen (w : Work) : Onward w.overfillTests.faultStage w.chosen :=
  (arbiterClosed_onward _).arbiterStage ((Work.coverStage_onward _).trans (Work.guardStage_onward _))

/-- A drive worked out anew is set outside RUN and with a sheet-stop fault active. -/
theorem State.drivenFeed_held {s : State} (h : s.mode.mode ≠ .run ∨ s.sheetStopped = true) :
    s.drivenFeed.fholdDrive = true := by
  change (!decide (s.mode.mode = .run) || s.sheetStopped || _ || _ || _) = true
  rcases h with h | h <;> simp [h]

/-- The end of an event keeps FHOLD driven where it has to be, if it calls for the drive or finds it so. -/
theorem Work.finish_fholdHeld {w : Work} (h : w.drive = true ∨ w.fholdHeld) : w.finish.fholdHeld := by
  intro held
  rw [Work.finish_drivenFeed]
  split
  · refine State.drivenFeed_held ?_
    simpa [State.sheetStopped] using held
  · rename_i uncalled
    have quiet : w.overfillTests.raised = [] := by
      by_contra some
      exact uncalled (w.faultStage_onward_chosen.drive (Work.faultStage_drive some))
    refine (h.resolve_left fun hd => uncalled (w.chosen_onward.drive hd)) (held.imp (by simp) fun stopped => ?_)
    obtain ⟨f, hf, stops⟩ := List.any_eq_true.1 stopped
    refine List.any_eq_true.2 ⟨f, ?_, stops⟩
    simpa [quiet] using (w.finish_active f).1 hf

/-! ### The bodies -/

theorem Work.takeStep_fholdDrive (w : Work) (m : Move) : (w.takeStep m).feed.fholdDrive = w.feed.fholdDrive := by
  simp [Work.takeStep_eq, Work.issueStep_eq, Work.lateTest_feed, Work.issued, Feed.issued]

theorem Work.positionEvent_fholdDrive (w : Work) : w.positionEvent.feed.fholdDrive = w.feed.fholdDrive := by
  have under : ∀ v : Work, v.underTest.feed.fholdDrive = v.feed.fholdDrive := fun v => by
    unfold Work.underTest
    split <;> simp [Work.setUnder_feed]
  have leave : ∀ v : Work, v.leaveTest.feed.fholdDrive = v.feed.fholdDrive := fun v => by
    unfold Work.leaveTest
    split <;> simp [Work.setUnder_feed, Work.setPhase_feed]
  have vacuum : ∀ v : Work, v.vacuumTest.feed.fholdDrive = v.feed.fholdDrive := fun v => by
    unfold Work.vacuumTest
    (repeat' split) <;> rfl
  unfold Work.positionEvent
  split <;> simp [under, leave, vacuum]

/-- No body moves the drive itself: the end of the event works it out (R76). -/
theorem body_fholdDrive (i : Instr) (w : Work) : (body i w).feed.fholdDrive = w.feed.fholdDrive := by
  cases hm : i.movesSheet
  · rw [body_keepsFeed w hm]
  cases i <;> simp only [Instr.movesSheet, Bool.false_eq_true] at hm <;> simp only [body]
  case feed =>
    simp only [Work.takeFeed]
    (repeat' split) <;> simp [Work.turnMove_feed]
  case sheet => (repeat' split) <;> simp [Work.takeSheet_feed, Feed.renewed, Feed.uncaptured]
  case abortSheet => (repeat' split) <;> simp [Work.takeAbort_feed, Feed.aborted, Feed.uncaptured]
  case stepDue => (repeat' split) <;> simp [Work.takeStep_fholdDrive]
  case encoderCount => exact w.positionEvent_fholdDrive
  case leadingEdge => split <;> simp [Work.takeLeading, Work.setPhase_feed]
  case trailingEdge => split <;> simp [Work.takeTrailing, Work.setPhase_feed]
  case skewWindowEnd => split <;> simp
  case fholdAsserted => rfl
  case fholdReleased => split <;> rfl
  case duplicateStationHeard =>
    simp only [Work.hearOwnNumber]
    split <;> rfl
  case peerStatusHeard =>
    simp only [Work.hearOwnNumber, Work.hearPeer]
    (repeat' split)
    · rfl
    · rfl
    · simp

theorem Work.endFrame_active (w : Work) (t : TxFrame) : (w.endFrame t).faults.active = w.faults.active := by
  simp only [Work.endFrame]
  (repeat' split) <;> simp

/-- A body leaves the active faults as they were, or calls for the drive. -/
theorem body_active (i : Instr) (w : Work) :
    (body i w).drive = true ∨ (body i w).faults.active = w.faults.active := by
  have clear : ∀ ref faults ladders starved, (w.takeClear ref faults ladders starved).drive = true
      ∨ (w.takeClear ref faults ladders starved).faults.active = w.faults.active := by
    intro ref faults ladders starved
    simp only [Work.takeClear, Work.clearParts, Work.clearFaultsPart]
    cases faults <;> (repeat' split) <;> simp
  cases i <;> simp only [body]
  case abortSheet =>
    simp only [Work.takeAbort, Work.removeSheetStops]
    (repeat' split) <;> simp
  case clearFaults | clearOrder | clearLadder | clearLineStarved =>
    split
    · exact clear _ _ _ _
    · exact .inr rfl
  case frameSent =>
    split
    · exact .inr (w.endFrame_active _)
    · exact .inr rfl
  all_goals (repeat' split) <;> simp

/-- A body that takes the station out of RUN calls for the drive (R199). -/
theorem body_runs (i : Instr) (w : Work) :
    (body i w).drive = true ∨ ((body i w).mode.mode ≠ .run → w.mode.mode ≠ .run) := by
  have halted : w.hearOwnNumber.drive = true ∨ (w.hearOwnNumber.mode.mode ≠ .run → w.mode.mode ≠ .run) := by
    unfold Work.hearOwnNumber
    split
    · exact .inr id
    · exact .inl rfl
  cases hm : movesMode i
  · rw [body_mode w hm]
    exact .inr id
  cases i <;> simp only [movesMode, Bool.false_eq_true] at hm <;> simp only [body]
  case start =>
    split
    · exact .inr id
    · obtain ⟨-, -, -, called, -⟩ := w.startBlocks_frame
      obtain ⟨-, -, -, kept, -⟩ := w.startBlocks.startLink_facts
      exact .inl (by simpa [Work.takeStart_eq] using kept called)
  case duplicateStationHeard => exact halted
  case peerStatusHeard =>
    split
    · exact halted
    · simp

/-- A body calls for the drive, or leaves FHOLD driven where it has to be. -/
theorem body_fholdHeld (i : Instr) {w : Work} (h : w.fholdHeld) :
    (body i w).drive = true ∨ (body i w).fholdHeld := by
  obtain called | active := body_active i w
  · exact .inl called
  obtain called | left := body_runs i w
  · exact .inl called
  refine .inr fun held => ?_
  rw [body_fholdDrive]
  refine h (held.imp left fun stopped => ?_)
  rwa [State.sheetStopped, active] at stopped

/-! ### Every step -/

/-- Settles O9: a body that leaves the mode or the active faults otherwise calls for the drive, and the end of the
event then works it out by the conditions of R76. -/
theorem stepKeepsFholdHeld : Obligations.StepKeepsFholdHeld := by
  intro s t h hstep
  obtain rfl | ⟨l, rfl⟩ | ⟨l, n, p, pin, rfl⟩ | ⟨l, ref, straps, rfl⟩ | ⟨l, i, -, rfl⟩ := step_cases hstep
  · unfold State.tick
    split
    · exact h
    · exact h
  · exact h
  · exact fun _ => rfl
  · exact Work.finish_fholdHeld (.inl rfl)
  · exact Work.finish_fholdHeld (body_fholdHeld i h)

end Sys2Proof.Machine
end

section
/-! SUPPORT. What the statements say of the effective limit, of a step's tests, of readiness and of the FHOLD drive,
as the conditions that the model reads (R67, R69, R73, R74, R76). -/

namespace Sys2Proof.Machine

/-! ### The effective limit (R73, R74) -/

theorem guardAllows_min (g h : GuardLine) (base x : Nat) :
    guardAllows (GuardLine.min g h) base x = (guardAllows g base x && guardAllows h base x) := by
  cases g <;> cases h <;> simp [GuardLine.min, guardAllows]
  rename_i a b
  rw [← Bool.decide_and]
  congr 1
  apply propext
  change base + 4 * min a b > x ↔ _
  omega

/-- A count is before the effective guard line where it is before every line that counts. -/
theorem State.effectiveGuard_allows (s : State) (r : SheetRecord) (base x : Nat) :
    guardAllows (s.effectiveGuard r) base x = true
      ↔ ∀ n, r.active.get n = true → guardAllows (s.guardCounted r n) base x = true := by
  have counted : ∀ n, (if n = s.mode.station then s.bands.guard else (s.link.peers.get n).guardFor r.sheet)
      = s.guardCounted r n := fun n => rfl
  have fold : ∀ (l : List StationNo) (g : GuardLine),
      guardAllows (l.foldl (fun g n => if r.active.get n then
        if n = s.mode.station then GuardLine.min g s.bands.guard
        else GuardLine.min g ((s.link.peers.get n).guardFor r.sheet) else g) g) base x = true
      ↔ guardAllows g base x = true
        ∧ ∀ n ∈ l, r.active.get n = true → guardAllows (s.guardCounted r n) base x = true := by
    intro l
    induction l with
    | nil => simp
    | cons n l ih =>
      intro g
      rw [List.foldl_cons, ih, List.forall_mem_cons, ← and_assoc]
      refine and_congr_left fun _ => ?_
      rw [← counted]
      (repeat' split) <;> simp_all [guardAllows_min]
  unfold State.effectiveGuard
  rw [fold]
  simp [guardAllows, mem_allStations]

/-- A feed count is below a limit. -/
def Limit.allows (l : Limit) (x : Nat) : Bool :=
  match l with
  | .unlimited => true
  | .atPosition => false
  | .at_ p => decide (x < p)

theorem State.limitReached_eq (s : State) :
    s.limitReached = !(s.effectiveLimit.allows s.feed.position && s.effectiveLimit.allows s.feed.commanded) := by
  unfold State.limitReached
  cases s.effectiveLimit <;> simp only [Limit.allows, Bool.not_and, ← decide_not, Nat.not_lt] <;> rfl

theorem State.nearLimit_eq (s : State) :
    s.nearLimit = !(s.effectiveLimit.allows (s.feed.position + s.sec2.stopMargin)
      && s.effectiveLimit.allows (s.feed.commanded + s.sec2.stopMargin)) := by
  unfold State.nearLimit
  cases s.effectiveLimit <;> simp only [Limit.allows, Bool.not_and, ← decide_not, Nat.not_lt] <;> rfl

theorem State.sheetInProgress_iff (s : State) :
    s.sheetInProgress = true ↔ s.feed.phase = .pending ∨ s.feed.phase = .active ∨ s.feed.phase = .trailing := by
  unfold State.sheetInProgress
  cases s.feed.phase <;> simp

theorem State.sheetAtSensor_iff (s : State) :
    s.sheetAtSensor = true ↔ s.feed.phase = .active ∨ s.feed.phase = .trailing := by
  unfold State.sheetAtSensor
  cases s.feed.phase <;> simp

/-- With this station at work on the sheet, the entry of another active station is LOST (R74). -/
theorem State.limitLost_iff {s : State} {r : SheetRecord} (hs : s.feed.sheet = some r)
    (hp : s.feed.phase ≠ .none) :
    (s.inActiveSet && s.sheetInProgress && s.activePeerLost r) = false
      ↔ (r.active.get s.mode.station = true → s.feed.phase ≠ .ended → ∀ n, n ≠ s.mode.station →
          r.active.get n = true → (s.link.peers.get n).presence ≠ .lost) := by
  have progress : s.sheetInProgress = true ↔ s.feed.phase ≠ .ended := by
    unfold State.sheetInProgress
    revert hp
    cases s.feed.phase <;> simp
  have lost : s.activePeerLost r = false ↔ ∀ n, n ≠ s.mode.station → r.active.get n = true →
      (s.link.peers.get n).presence ≠ .lost := by
    simp only [State.activePeerLost, List.any_eq_false, mem_allStations, true_implies]
    refine forall_congr' fun n => ?_
    simp
    tauto
  simp only [State.inActiveSet, hs, Bool.and_eq_false_iff, lost, ← progress]
  rw [← Bool.not_eq_true, ← Bool.not_eq_true]
  tauto

/-- The effective limit as the statements put it (R73, R74). -/
theorem State.belowLimit_iff (s : State) (x : Nat) : s.belowLimit x ↔ s.effectiveLimit.allows x = true := by
  unfold State.effectiveLimit
  cases hs : s.feed.sheet with
  | none => simp [hs, Limit.allows]
  | some r =>
    simp only [State.belowLimit, hs, Option.mem_some_iff, exists_eq_left']
    by_cases hp : s.feed.phase = .none
    · simp [hp, Limit.allows]
    rw [if_neg hp, ← State.limitLost_iff hs hp]
    cases hl : s.inActiveSet && s.sheetInProgress && s.activePeerLost r
    · simp only [Bool.false_eq_true, if_false, ne_eq, hp, not_false_eq_true, true_and]
      unfold State.sheetBase
      cases hc : s.feed.capture with
      | none => simp [Limit.allows]
      | some p =>
        simp only [Option.mem_some_iff, forall_eq', ← State.effectiveGuard_allows]
        cases s.effectiveGuard r <;> simp [guardAllows, Limit.allows]
    · simp [Limit.allows]

/-! ### The tests of a step (R69) -/

theorem State.sledAway_iff (s : State) :
    s.sledAway = true ↔ s.service.sled ≠ .standing .park ∨ ∃ q ∈ s.service.motion, q ≠ .park := by
  unfold State.sledAway
  cases s.service.motion <;> simp

theorem State.stepMeetsBase_iff (s : State) : s.stepMeetsBase = true ↔ s.meetsSledOut := by
  unfold State.stepMeetsBase State.sheetBase
  rw [State.meetsSledOut, ← State.sledAway_iff, ← State.sheetAtSensor_iff]
  cases s.feed.capture <;> simp
  tauto

/-- The tests of R69 as the statements put them. -/
theorem State.stepAllowed_iff (s : State) (m : Move) : s.stepAllowed m = true ↔ s.mayStep m := by
  unfold State.stepAllowed State.fholdReads
  rw [State.mayStep, ← State.stepMeetsBase_iff, State.belowLimit_iff, State.belowLimit_iff, State.limitReached_eq]
  cases m.eject <;> simp <;> tauto

/-! ### The FHOLD drive (R67, R76) -/

theorem State.ready_iff (s : State) : s.ready = false ↔ s.unready := by
  unfold State.ready
  simp only [State.unready, Bool.and_eq_false_iff, Bool.not_eq_false', List.isEmpty_eq_false_iff, or_assoc]

theorem State.moveInProgress_iff (s : State) : s.moveInProgress = true ↔ s.moves false := by
  unfold State.moveInProgress State.moves
  cases hm : s.feed.move with
  | none => simp
  | some m => cases hs : m.state <;> simp [hs]

theorem State.boundMoveInProgress_iff (s : State) : s.boundMoveInProgress = true ↔ s.moves true := by
  unfold State.boundMoveInProgress State.moves
  cases hm : s.feed.move with
  | none => simp
  | some m => cases hs : m.state <;> simp [hs]

theorem State.nearBaseWithSledOut_iff (s : State) :
    s.nearBaseWithSledOut = true
      ↔ (s.feed.phase = .active ∨ s.feed.phase = .trailing)
        ∧ (s.service.sled ≠ .standing .park ∨ ∃ q ∈ s.service.motion, q ≠ .park)
        ∧ ∃ p ∈ s.feed.capture,
            p + s.sec2.sensorDistance ≤ s.feed.position + s.sec2.stopMargin
            ∨ p + s.sec2.sensorDistance ≤ s.feed.commanded + s.sec2.stopMargin + 1 := by
  unfold State.nearBaseWithSledOut State.sheetBase
  rw [← State.sledAway_iff, ← State.sheetAtSensor_iff]
  cases s.feed.capture <;> simp
  tauto

/-- The five conditions of R76 as the statements put them. -/
theorem State.fholdWanted_iff (s : State) : s.fholdWanted = true ↔ s.drivesFhold := by
  unfold State.fholdWanted State.drivesFhold
  rw [← State.nearBaseWithSledOut_iff, ← State.moveInProgress_iff, ← State.boundMoveInProgress_iff,
    State.belowLimit_iff, State.belowLimit_iff, State.nearLimit_eq]
  simp [State.inRun, State.sheetStopped, or_assoc, not_and_or, -not_and]

theorem State.drivenFeed_readiness (s : State) :
    s.drivenFeed.readinessHold = (s.feed.readinessHold && !s.ready && s.moveInProgress) := rfl

/-- Once worked out the drive stands as the conditions of R76 say, for they read none of what follows it: the refill
tests and the early request. -/
theorem State.drivenFeed_stands {s t : State} (hm : t.mode = s.mode) (hf : t.faults = s.faults)
    (hs : t.service = s.service) (hk : t.keepWet = s.keepWet) (hb : t.bands = s.bands)
    (hp : t.link.peers = s.link.peers) (feed : t.feed = s.drivenFeed) :
    t.fholdWanted = s.drivenFeed.fholdDrive ∧ t.ready = s.ready ∧ t.moveInProgress = s.moveInProgress := by
  obtain ⟨ink, refill, bands, tfeed, service, keepWet, nozzle, tally, link, mode, faults, pending⟩ := t
  obtain ⟨⟩ := link
  dsimp only at *
  subst hm hf hs hk hb hp feed
  exact ⟨rfl, rfl, rfl⟩

/-- The end of an event that calls for the drive works it out anew, with the station as it then is (R76). -/
theorem Work.finish_drivenAnew {w : Work} (hd : w.chosen.drive = true) :
    w.finish.feed = w.chosen.drivenFeed ∧ w.finish.fholdWanted = w.finish.feed.fholdDrive
      ∧ w.finish.ready = w.chosen.ready ∧ w.finish.moveInProgress = w.chosen.moveInProgress := by
  have feed : w.finish.feed = w.chosen.drivenFeed := by rw [w.finish_drivenFeed, if_pos hd]
  have peers : w.finish.link.peers = w.chosen.link.peers := by
    obtain ⟨-, -, -, -, -, -, -, -, now, -⟩ := w.finish_link
    obtain ⟨-, -, -, -, -, -, -, -, taken, -⟩ := w.overfillTests.faultStage_link
    simp [now, Work.chosen, taken]
  obtain ⟨-, keepWet, service, bands, faults⟩ := w.finish_chosen
  obtain ⟨drive, ready, moving⟩ :=
    State.drivenFeed_stands (by simp) faults service keepWet bands peers feed
  exact ⟨feed, by rw [drive, feed], ready, moving⟩

theorem Work.finish_drives {w : Work} (hd : w.chosen.drive = true) :
    w.finish.feed.fholdDrive = true ↔ w.finish.drivesFhold := by
  obtain ⟨-, drive, -⟩ := Work.finish_drivenAnew hd
  rw [← drive, State.fholdWanted_iff]

/-- The drive at the end of an event that calls for it stands as the conditions of R76 say, and a readiness hold
stands while the station is not ready and the move goes on. -/
theorem Work.finish_driveWorkedOut {s : State} {w : Work} (hd : w.chosen.drive = true)
    (hr : w.feed.readinessHold = s.feed.readinessHold) : DriveWorkedOut s w.finish := by
  obtain ⟨feed, -, ready, moving⟩ := Work.finish_drivenAnew hd
  refine ⟨Work.finish_drives hd, ?_⟩
  rw [feed, State.drivenFeed_readiness, ← ready, ← moving, ← State.ready_iff, ← State.moveInProgress_iff]
  simp [hr, and_assoc]

end Sys2Proof.Machine
end

section
/-! PROOFS. The orders and events of feed control that are refused, find nothing to act on, or start, hold and release
a move (R65, R68, R69, R76, R77, R172, R174). -/

namespace Sys2Proof.Machine

/-! ### Events that find nothing to act on -/

theorem Work.begin_finish (s : State) : (Work.begin s).finish = s :=
  Work.finish_quiet rfl rfl rfl rfl rfl rfl rfl rfl rfl rfl rfl

/-- A command whose body leaves the event as it began leaves the state as it was. -/
theorem completes_unchanged {i : Instr} {s : State} (hi : special i = false)
    (hb : body i (Work.begin s) = Work.begin s) : Completes i s s := by
  refine (exec_body i s hi).trans ?_
  cases hp : s.mode.resetPin
  · rw [event_live hp, hb, Work.begin_finish]
  · exact event_held hp _

theorem body_stepDue_withheld {s : State} {m : Move} (hm : s.feed.move = some m)
    (h : m.state ≠ .running ∨ ¬ s.mayStep m) : body .stepDue (Work.begin s) = Work.begin s := by
  rw [← State.stepAllowed_iff] at h
  simp only [body, Work.begin_state, hm]
  exact if_neg fun k => h.elim (fun g => g k.1) fun g => g k.2

theorem body_headDone_stranger {s : State} {n : Nat} (h : ∀ q, s.service.head = some q → q.number ≠ n) :
    body (.headDone n) (Work.begin s) = Work.begin s := by
  simp only [body, Work.begin_state]
  split
  · exact if_neg (h _ ‹_›)
  · rfl

theorem body_headResult_stranger {s : State} {n : Nat} (h : ∀ q, s.service.head = some q → q.number ≠ n)
    (g : Nat) (l : List Nat) : body (.headResult n g l) (Work.begin s) = Work.begin s := by
  simp only [body, Work.takeResult, Work.begin_state]
  split
  · split
    · exact if_neg fun k => h _ ‹_› k.1
    · rfl
  · rfl

/-- A switch that is not the commanded target's is not taken (R92). -/
theorem sledArrival_untaken {s : State} {q : SledPlace} (hpin : s.mode.resetPin = false)
    (h : s.service.motion ≠ some q) :
    Completes (.sledArrival q) s { s with service := { s.service with closed := some q } } := by
  have untaken : body (.sledArrival q) (Work.begin s)
      = { Work.begin s with service := { s.service with closed := some q } } := if_neg h
  refine (completes_body rfl hpin).trans (congrArg _ ?_)
  rw [untaken]
  exact Work.finish_quiet rfl rfl rfl rfl rfl rfl rfl rfl rfl rfl rfl

/-- Settles O23: each body leaves the event as it began, by the test that its meaning makes first. -/
theorem eventsNotTakenChangeNothing : Obligations.EventsNotTakenChangeNothing := by
  intro s
  refine ⟨completes_unchanged rfl rfl, fun halted => completes_unchanged rfl (if_pos halted),
    fun phase => completes_unchanged rfl (if_neg phase), fun phase => completes_unchanged rfl (if_neg phase),
    fun m hm h => completes_unchanged rfl (body_stepDue_withheld hm h), fun none => completes_unchanged rfl ?_,
    fun q hpin h => sledArrival_untaken hpin h,
    fun n h => ⟨completes_unchanged rfl (body_headDone_stranger h),
      fun g l => completes_unchanged rfl (body_headResult_stranger h g l)⟩,
    fun idle => completes_unchanged rfl (if_neg ?_)⟩
  · simp [body, none]
  · simp [idle]

/-! ### Orders that are refused -/

/-- An order that its body answers with an outcome alone leaves the state with that outcome (R184). -/
theorem completes_outcome {i : Instr} {s : State} {kind : OrderKind} {ref : Nat} {code : OutcomeCode}
    (hi : special i = false) (hpin : s.mode.resetPin = false)
    (hb : body i (Work.begin s) = (Work.begin s).outcome kind ref code) :
    Completes i s (s.withOutcome kind ref code) := by
  refine (completes_body hi hpin).trans (congrArg _ ?_)
  rw [hb]
  exact Work.finish_quiet rfl rfl rfl rfl rfl rfl rfl rfl rfl rfl rfl

/-! ### SHEET (R65) -/

theorem PerStation.anySet_iff (a : StationSet) : a.anySet = true ↔ ∃ n, a.get n = true := by
  simp [PerStation.anySet, List.any_eq_true, mem_allStations]

/-- Step 3 of R65. -/
theorem State.sheetFits_iff (s : State) (a : StationSet) (len lim : Nat) :
    s.sheetFits a len lim = true ↔ (∃ m, a.get m = true) ∧ 1 ≤ len ∧ len ≤ 4194303 ∧ 1 ≤ lim ∧ lim ≤ 16777215
      ∧ lim + s.sec2.sensorDistance + 4 * len ≤ 16777215 := by
  simp only [State.sheetFits, Bool.and_eq_true, decide_eq_true_eq, PerStation.anySet_iff, and_assoc]
  rfl

theorem State.sheetRefusal_busy {s : State} (a : StationSet) (len lim : Nat)
    (h : s.betweenSheets = false ∨ s.moveInProgress = true) : s.sheetRefusal a len lim = some .refusedBusy :=
  if_pos (by simpa using h)

theorem State.sheetRefusal_fits {s : State} (a : StationSet) (len lim : Nat) (hb : s.betweenSheets = true)
    (hm : s.moveInProgress = false) :
    s.sheetRefusal a len lim = if s.sheetFits a len lim then none else some .refusedRange := by
  cases hf : s.sheetFits a len lim <;> simp [State.sheetRefusal, hb, hm, hf]

theorem body_sheet_refused {s : State} {ref n len lim : Nat} {a : StationSet} {spit deg : Bool} {code : OutcomeCode}
    (hr : s.mode.mode = .run) (h : s.sheetRefusal a len lim = some code) :
    body (.sheet ref n a len spit deg lim) (Work.begin s) = (Work.begin s).outcome .sheet ref code := by
  simp [body, State.inRun, hr, h]

/-- Settles O25: the tests of R65 in their order, each with its outcome. -/
theorem sheetOrderIsTested : Obligations.SheetOrderIsTested := by
  intro s ref n a len spit deg lim hpin
  refine ⟨fun mode => ?_, fun run busy => ?_, fun run between still unfit => ?_,
    fun run between still any len1 len2 lim1 lim2 travel => ?_⟩
  · exact completes_outcome rfl hpin (if_neg (by simp [State.inRun, mode]))
  · exact completes_outcome rfl hpin (body_sheet_refused run (State.sheetRefusal_busy _ _ _ busy))
  · refine completes_outcome rfl hpin (body_sheet_refused run ?_)
    rw [State.sheetRefusal_fits _ _ _ between still, if_neg]
    rwa [State.sheetFits_iff]
  · refine ⟨_, completes_body rfl hpin, ?_⟩
    have fits : s.sheetRefusal a len lim = none := by
      rw [State.sheetRefusal_fits _ _ _ between still, if_pos]
      exact (s.sheetFits_iff a len lim).2 ⟨any, len1, len2, lim1, lim2, travel⟩
    rw [body_sheet_taken run fits]
    obtain ⟨-, -, -, -, -, -, -, -, -, -, shown, -⟩ := Work.finish_link (Work.outcome _ .sheet ref .accepted)
    exact shown

/-! ### FHOLD and the move (R77) -/

/-- A change of the move state asks for an early STATUS (R179). -/
theorem Work.finish_early {w : Work} (h : w.pre.moveState ≠ w.moveState) : w.finish.link.early = true := by
  have move : w.settle.feed.move = w.feed.move := by
    obtain ⟨-, -, -, feed, -⟩ := w.finish_settled
    simp [← feed]
  have changed : earlyChange w.settle.pre w.settle.toState = true := by
    have now : w.settle.moveState = w.moveState := by simp only [State.moveState, move]
    simp [earlyChange, now, h]
  rw [w.finish_eq, if_pos changed]
  rfl

/-- The event that hears the line FHOLD, with the turn of the move that it brings (R77). -/
def State.lineHeard (s : State) (line : Bool) (old new : MoveState) : Work :=
  ({ Work.begin s with feed := { s.feed with fholdLine := line } } : Work).turnMove old new

/-- A turned move is in its new state, with an early STATUS asked for. -/
theorem State.lineHeard_turns {s : State} {m : Move} {old new : MoveState} (line : Bool)
    (hm : s.feed.move = some m) (hold : m.state = old) (hne : old ≠ new) :
    SameLedgers s (s.lineHeard line old new).finish
      ∧ (s.lineHeard line old new).finish.feed.move = some { m with state := new }
      ∧ (s.lineHeard line old new).finish.feed.fholdLine = line
      ∧ (s.lineHeard line old new).finish.link.early = true
      ∧ (s.lineHeard line old new).finish.feed.trim = s.feed.trim := by
  have move : (s.lineHeard line old new).feed.move = some { m with state := new } := by
    simp [State.lineHeard, Work.turnMove, hm, hold]
  have now : (s.lineHeard line old new).moveState = new := by rw [State.moveState, move]
  have before : (s.lineHeard line old new).pre.moveState = old := by
    rw [show (s.lineHeard line old new).pre = s from rfl, State.moveState, hm]
    exact hold
  exact ⟨Work.finish_sameLedgers rfl rfl rfl rfl rfl rfl, by simpa using move,
    by simp [State.lineHeard, Work.turnMove], Work.finish_early (by rwa [now, before]),
    by simp [State.lineHeard, Work.turnMove]⟩

/-- Settles O55: the turn of the move is all that the body does, and a change of its state asks for an early
STATUS. -/
theorem fholdHoldsAndReleasesTheMove : Obligations.FholdHoldsAndReleasesTheMove := by
  intro s m hpin hm
  refine ⟨fun runs => ?_, fun held free => ?_⟩
  · obtain ⟨ledgers, move, line, early, trim⟩ := State.lineHeard_turns (new := .held) true hm runs (by decide)
    have turns : body .fholdAsserted (Work.begin s) = s.lineHeard true .running .held := rfl
    refine ⟨_, completes_body rfl hpin, ?_⟩
    rw [turns]
    exact ⟨ledgers, Bool.or_eq_true_iff.2 (.inr line), move, early, trim⟩
  · have turns : body .fholdReleased (Work.begin s) = s.lineHeard false .held .running := if_neg (by simp [free])
    obtain ⟨ledgers, move, line, early, trim⟩ := State.lineHeard_turns (new := .running) false hm held (by decide)
    refine ⟨_, completes_body rfl hpin, ?_⟩
    rw [turns]
    exact ⟨ledgers, move, line, early, trim⟩

end Sys2Proof.Machine
end

section
/-! PROOFS. A FEED order (R68, R76, R77, R190). -/

namespace Sys2Proof.Machine

/-- The station with the move of a FEED order in one state, before its drive is known (R68, R76). -/
def State.moveBegun (s : State) (moveId distance speed : Nat) (eject : Bool) (st : MoveState) : State :=
  { s with
    feed := { s.feed with
      move := some
        { id := moveId, distance := distance, speed := speed, eject := eject, stepsDone := 0, state := st }
      readinessHold := s.startsUnready eject } }

/-- The state in which the move of a FEED order starts (R68, R77). -/
def State.startState (s : State) (moveId distance speed : Nat) (eject : Bool) : MoveState :=
  if (s.moveBegun moveId distance speed eject .running).fholdWanted || s.feed.fholdLine then .held else .running

theorem State.startState_progress (s : State) (moveId distance speed : Nat) (eject : Bool) :
    s.startState moveId distance speed eject = .running ∨ s.startState moveId distance speed eject = .held := by
  unfold State.startState
  split <;> simp

theorem Work.takeFeed_eq (s : State) (moveId distance speed : Nat) (eject : Bool) :
    (Work.begin s).takeFeed moveId distance speed eject
      = { Work.begin s with
          feed := (s.moveBegun moveId distance speed eject (s.startState moveId distance speed eject)).feed
          drive := true } := by
  rw [State.startState]
  by_cases h : ((s.moveBegun moveId distance speed eject .running).fholdWanted || s.feed.fholdLine) = true
  · rw [if_pos h]
    exact if_pos h
  · rw [if_neg h]
    exact if_neg h

/-- The conditions of R76 read a HELD move as they read a RUNNING one. -/
theorem State.moveBegun_fholdWanted {s : State} {moveId distance speed : Nat} {eject : Bool} {st : MoveState}
    (h : st = .running ∨ st = .held) :
    (s.moveBegun moveId distance speed eject st).fholdWanted
      = (s.moveBegun moveId distance speed eject .running).fholdWanted := by
  obtain rfl | rfl := h <;> rfl

/-- A move that starts in RUN keeps the readiness hold it starts under (R76). -/
theorem State.moveBegun_driven {s : State} {moveId distance speed : Nat} {eject : Bool} {st : MoveState}
    (h : st = .running ∨ st = .held) :
    (s.moveBegun moveId distance speed eject st).drivenFeed
      = { (s.moveBegun moveId distance speed eject st).feed with
          fholdDrive := (s.moveBegun moveId distance speed eject .running).fholdWanted } := by
  have hold : (s.moveBegun moveId distance speed eject st).holdsForReadiness = s.startsUnready eject := by
    have ready : (s.moveBegun moveId distance speed eject st).ready = s.ready := rfl
    have moving : (s.moveBegun moveId distance speed eject st).moveInProgress = true := by
      obtain rfl | rfl := h <;> rfl
    rw [State.holdsForReadiness, ready, moving]
    simp [State.moveBegun, State.startsUnready, Bool.and_assoc]
  rw [← State.moveBegun_fholdWanted h, State.drivenFeed, hold]
  rfl

/-- The event that takes a FEED order. -/
def State.feedTaken (s : State) (moveId distance speed : Nat) (eject : Bool) : Work :=
  ((Work.begin s).takeFeed moveId distance speed eject).outcome .feed moveId .accepted

theorem body_feed_taken {s : State} {moveId distance speed : Nat} {eject : Bool} (hr : s.mode.mode = .run)
    (hm : s.moveInProgress = false) (h1 : 1 ≤ distance) (h2 : distance ≤ 1048575) :
    body (.feed moveId distance speed eject) (Work.begin s) = s.feedTaken moveId distance speed eject := by
  have range : ¬ (distance = 0 ∨ 1048575 < distance) := by omega
  simp [body, State.inRun, hr, hm, range, State.feedTaken]

section
variable (s : State) (moveId distance speed : Nat) (eject : Bool)

theorem State.feedTaken_feed :
    (s.feedTaken moveId distance speed eject).feed
      = (s.moveBegun moveId distance speed eject (s.startState moveId distance speed eject)).feed := by
  simp [State.feedTaken, Work.takeFeed_eq]

/-- A FEED order that is taken calls for the drive alone. -/
theorem State.feedTaken_settle :
    (s.feedTaken moveId distance speed eject).settle = (s.feedTaken moveId distance speed eject).driveStage := by
  rw [State.feedTaken, Work.takeFeed_eq]
  exact Work.settle_drive rfl rfl rfl rfl rfl rfl rfl

theorem State.feedTaken_finish_feed :
    (s.feedTaken moveId distance speed eject).finish.feed
      = { (s.moveBegun moveId distance speed eject (s.startState moveId distance speed eject)).feed with
          fholdDrive := (s.moveBegun moveId distance speed eject .running).fholdWanted } := by
  rw [← State.moveBegun_driven (s.startState_progress moveId distance speed eject)]
  obtain ⟨-, -, -, feed, -⟩ := (s.feedTaken moveId distance speed eject).finish_settled
  rw [feed, State.feedTaken_settle, State.feedTaken, Work.takeFeed_eq]
  rfl

theorem State.feedTaken_others :
    SameLedgers s (s.feedTaken moveId distance speed eject).finish
      ∧ (s.feedTaken moveId distance speed eject).finish.refill = s.refill
      ∧ (s.feedTaken moveId distance speed eject).finish.service = s.service
      ∧ (s.feedTaken moveId distance speed eject).finish.keepWet = s.keepWet
      ∧ (s.feedTaken moveId distance speed eject).finish.nozzle = s.nozzle
      ∧ (s.feedTaken moveId distance speed eject).finish.faults = s.faults := by
  obtain ⟨ink, refill, bands, -, service, keepWet, nozzle, tally, mode, faults, -⟩ :=
    (s.feedTaken moveId distance speed eject).finish_settled
  rw [SameLedgers, ink, refill, bands, service, keepWet, nozzle, tally, mode, faults, State.feedTaken_settle,
    State.feedTaken, Work.takeFeed_eq]
  exact ⟨⟨rfl, rfl, rfl, rfl⟩, rfl, rfl, rfl, rfl, rfl⟩

theorem State.feedTaken_drives :
    (s.feedTaken moveId distance speed eject).finish.feed.fholdDrive = true
      ↔ (s.feedTaken moveId distance speed eject).finish.drivesFhold := by
  refine Work.finish_drives ?_
  have called : (s.feedTaken moveId distance speed eject).drive = true := by simp [State.feedTaken, Work.takeFeed_eq]
  obtain ⟨-, drive, -⟩ := (s.feedTaken moveId distance speed eject).chosen_onward
  exact drive called

theorem State.feedTaken_early {s : State} (moveId distance speed : Nat) (eject : Bool)
    (hm : s.moveInProgress = false) : (s.feedTaken moveId distance speed eject).finish.link.early = true := by
  refine Work.finish_early ?_
  have was : (s.feedTaken moveId distance speed eject).pre = s := by rw [State.feedTaken, Work.takeFeed_eq]; rfl
  have now : (s.feedTaken moveId distance speed eject).moveState = s.startState moveId distance speed eject := by
    rw [State.moveState, State.feedTaken_feed]
    rfl
  have before : s.moveState = .idle ∨ s.moveState = .done := by
    unfold State.moveInProgress at hm
    unfold State.moveState
    cases hf : s.feed.move with
    | none => exact .inl rfl
    | some m => cases hst : m.state <;> simp [hf, hst] at hm ⊢
  rw [was, now]
  obtain h | h := before <;> obtain g | g := s.startState_progress moveId distance speed eject <;> simp [h, g]

theorem State.startsUnready_iff :
    s.startsUnready eject = true ↔ eject = false
      ∧ (∃ r ∈ s.feed.sheet, r.active.get s.mode.station = true)
      ∧ (s.feed.phase = .pending ∨ s.feed.phase = .active ∨ s.feed.phase = .trailing) ∧ s.unready := by
  rw [← State.sheetInProgress_iff, ← State.ready_iff, State.startsUnready, State.inActiveSet]
  cases s.feed.sheet <;> simp [and_assoc]

end

/-- Settles O24: an order that is taken begins its move and works out the drive, which nothing else in its event
touches; the tests before it answer with an outcome alone. -/
theorem feedOrderStartsAMoveOrIsRefused : Obligations.FeedOrderStartsAMoveOrIsRefused := by
  refine ⟨fun s moveId distance speed eject hrun hm h1 h2 => ?_, fun s moveId distance speed eject hpin =>
    ⟨fun mode => completes_unchanged rfl ?_, fun run moving => completes_outcome rfl hpin ?_,
      fun run still range => completes_outcome rfl hpin ?_⟩⟩
  · obtain ⟨hpin, hr⟩ := hrun
    refine ⟨(s.feedTaken moveId distance speed eject).finish, ?_, ?_⟩
    · rw [← body_feed_taken hr hm h1 h2]
      exact completes_body rfl hpin
    obtain ⟨ledgers, refill, service, keepWet, nozzle, faults⟩ := s.feedTaken_others moveId distance speed eject
    have feed := s.feedTaken_finish_feed moveId distance speed eject
    refine ⟨?_, ?_, State.feedTaken_early _ _ _ _ hm, ledgers, refill, service, keepWet, nozzle, faults,
      s.feedTaken_drives _ _ _ _, ?_, ?_⟩
    · rw [State.fholdReads, feed]
      rfl
    · obtain ⟨-, -, -, -, -, -, -, -, -, -, shown, -⟩ := (s.feedTaken moveId distance speed eject).finish_link
      exact shown
    · rw [feed, ← s.startsUnready_iff]
      rfl
    · rw [feed]
      rfl
  · simp [body, State.inRun, mode]
  · simp [body, State.inRun, run, moving]
  · simp [body, State.inRun, run, still, range]

end Sys2Proof.Machine
end

section
/-! PROOFS. A step that the tests of R69 allow is issued (R64, R70, R80, R85). -/

namespace Sys2Proof.Machine

/-! ### A sheet-stop fault raised, and the slip test, at the end of an event -/

/-- A sheet-stop fault that a body raises is active at the end, with FHOLD driven (R76, R86). -/
theorem Work.finish_stops {w : Work} {r : Raise} (h : r ∈ w.raised) (hs : r.code.sheetStop = true) :
    r.code ∈ w.finish.faults.active ∧ w.finish.feed.fholdDrive = true := by
  have active := Work.finish_raised h
  have raised : w.overfillTests.raised ≠ [] := List.ne_nil_of_mem (w.overfillTests_raisesOnly.1 r h)
  have drive : w.chosen.drive = true := w.faultStage_onward_chosen.drive (Work.faultStage_drive raised)
  exact ⟨active, (Work.finish_drives drive).2 (.inr (.inl ⟨r.code, active, hs⟩))⟩

/-- A fault that the body does not raise, other than OVERFILL, is not new at the end. -/
theorem Work.finish_notNew {s : State} {w : Work} {f : FaultCode} (hf : w.faults = s.faults) (ho : f ≠ .overfill)
    (only : Work.RaisesOnly (· ≠ f) (Work.begin s) w) (h : f ∈ w.finish.faults.active) : f ∈ s.faults.active := by
  obtain was | other | ⟨overfill, -⟩ := Work.finish_active_only only h
  · rwa [hf] at was
  · exact absurd rfl other
  · exact absurd overfill ho

/-- The slip test last in a body judges the difference of R85 as the event leaves it. -/
theorem Work.slipTest_slipTested {s : State} {w : Work} (hr : w.feed.slipRaised = s.feed.slipRaised)
    (hm : w.mode = s.mode) (hf : w.faults = s.faults)
    (only : Work.RaisesOnly (· ≠ .slip) (Work.begin s) w) : SlipTested s w.slipTest.finish := by
  intro p hp n hn fresh
  have capture : w.feed.capture = some p := by simpa using hp
  have steps : w.feed.stepsAtCapture = some n := by simpa using hn
  have slips : w.slips = decide (s.sec2.slipLimit
      < (((w.feed.commanded : Int) - n) - ((w.feed.position : Int) - p)).natAbs) := by
    simp only [State.slips, State.slipDifference, capture, steps, hr, fresh, State.sec2, hm, Bool.not_false,
      Bool.true_and]
    rfl
  refine ⟨fun beyond => ?_, fun within => ?_⟩
  · have slip : w.slips = true := by simpa [slips] using beyond
    have raised : ({ code := .slip, detail := .none } : Raise) ∈ w.slipTest.raised := by
      simp [Work.slipTest_raised, slip]
    obtain ⟨active, drive⟩ := Work.finish_stops raised rfl
    exact ⟨active, drive, by simp [slip]⟩
  · have still : w.slips = false := by simpa [slips] using within
    have same : w.slipTest = w := by rw [Work.slipTest_eq, still]; rfl
    rw [same]
    exact ⟨by simpa [fresh] using hr, Work.finish_notNew hf (by decide) only⟩

/-! ### The step -/

theorem Feed.paced_late (f : Feed) (m : Move) : (f.paced m).late = f.late := by
  simp only [Feed.late, Feed.issued, Feed.paced_frame]
  rfl

/-- The step of an event that finds its step due allowed, before the slip test. -/
def State.stepTaken (s : State) (m : Move) : Work :=
  ({ Work.begin s with feed := s.feed.paced m } : Work).issued.lateTest s.feed.late

theorem body_step_allowed {s : State} {m : Move} (hm : s.feed.move = some m) (hr : m.state = .running)
    (h : s.mayStep m) : body .stepDue (Work.begin s) = (s.stepTaken m).slipTest := by
  have taken : body .stepDue (Work.begin s) = (Work.begin s).takeStep m := by
    simp only [body, Work.begin_state, hm]
    exact if_pos ⟨hr, (s.stepAllowed_iff m).2 h⟩
  rw [taken, Work.takeStep_eq, Work.issueStep_eq]
  exact congrArg (fun late => (Work.lateTest _ late).slipTest) (Feed.paced_late s.feed m)

section
variable (s : State) (m : Move)

theorem State.stepTaken_feed :
    (s.stepTaken m).feed
      = { (s.feed.paced m).issued with edgeLateRaised := s.feed.edgeLateRaised || s.feed.late } := by
  rw [State.stepTaken, Work.lateTest_feed]
  simp [Work.issued, Feed.issued]

theorem State.stepTaken_others :
    (s.stepTaken m).ink = s.ink ∧ (s.stepTaken m).tally = s.tally ∧ (s.stepTaken m).bands = s.bands
      ∧ (s.stepTaken m).mode = s.mode ∧ (s.stepTaken m).faults = s.faults ∧ (s.stepTaken m).cover = false
      ∧ (s.stepTaken m).guardDue = false ∧ (s.stepTaken m).drive = true := by
  unfold State.stepTaken Work.lateTest
  split <;> exact ⟨rfl, rfl, rfl, rfl, rfl, rfl, rfl, rfl⟩

theorem State.stepTaken_raisesOnly : Work.RaisesOnly (· ≠ .slip) (Work.begin s) (s.stepTaken m) := by
  unfold State.stepTaken Work.lateTest
  split
  · exact Work.raise_raisesOnly (P := (· ≠ .slip)) (f := .edgeLate) _ .none (by decide)
  · exact .same rfl

/-- The feed record at the end of the event, but for FHOLD, the readiness hold and the slip mark. -/
theorem State.stepTaken_finish_feed :
    ((s.stepTaken m).slipTest.finish.feed.commanded = Nat.min 16777215 (s.feed.commanded + 1)
      ∧ (s.stepTaken m).slipTest.finish.feed.position = s.feed.position
      ∧ (s.stepTaken m).slipTest.finish.feed.capture = s.feed.capture
      ∧ (s.stepTaken m).slipTest.finish.feed.phase = s.feed.phase
      ∧ (s.stepTaken m).slipTest.finish.feed.sheet = s.feed.sheet)
      ∧ (s.stepTaken m).slipTest.finish.feed.move = (s.feed.paced m).move
      ∧ (s.stepTaken m).slipTest.finish.feed.trim = (s.feed.paced m).trim
      ∧ (s.stepTaken m).slipTest.finish.feed.extraOwed = (s.feed.paced m).extraOwed := by
  simp [State.stepTaken_feed, Feed.issued]

theorem State.stepTaken_sameLedgers : SameLedgers s (s.stepTaken m).slipTest.finish := by
  obtain ⟨ink, tally, bands, mode, -, cover, guard, -⟩ := s.stepTaken_others m
  exact Work.finish_sameLedgers (by simpa) (by simpa) (by simpa) (by simpa) (by simpa) (by simpa)

theorem State.stepTaken_slipTested : SlipTested s (s.stepTaken m).slipTest.finish := by
  obtain ⟨-, -, -, mode, faults, -, -, -⟩ := s.stepTaken_others m
  exact Work.slipTest_slipTested (by simp [State.stepTaken_feed, Feed.issued]) mode faults (s.stepTaken_raisesOnly m)

theorem State.stepTaken_driveWorkedOut : DriveWorkedOut s (s.stepTaken m).slipTest.finish := by
  obtain ⟨-, -, -, -, -, -, -, drive⟩ := s.stepTaken_others m
  refine Work.finish_driveWorkedOut ((Work.chosen_onward _).drive ?_) ?_
  · simpa using drive
  · simp [State.stepTaken_feed, Feed.issued]

end

/-! ### The move after the step (R69, R70) -/

theorem Feed.paced_owed {f : Feed} (m : Move) (hm : f.move = some m) (h : f.extraOwed = true) :
    (f.paced m).move = some m ∧ (f.paced m).trim = f.trim - 1 ∧ (f.paced m).extraOwed = false := by
  simp [Feed.paced, h, hm]

/-- Off the multiples of 16 below the distance, and with no trim, the step is counted alone. -/
theorem Feed.paced_plain {f : Feed} (m : Move) (h : f.extraOwed = false)
    (plain : (m.stepsDone + 1) % 16 ≠ 0 ∨ m.distance ≤ m.stepsDone + 1 ∨ f.trim = 0) :
    f.paced m = { f with move := some (m.advanced (m.stepsDone + 1)) } := by
  rw [Feed.paced, if_neg (by simp [h]), Feed.counted, if_neg (by omega), if_neg (by omega)]

theorem Feed.paced_extra {f : Feed} (m : Move) (h : f.extraOwed = false) (h16 : (m.stepsDone + 1) % 16 = 0)
    (hd : m.stepsDone + 1 < m.distance) (ht : 0 < f.trim) :
    f.paced m = { f with move := some (m.advanced (m.stepsDone + 1)), extraOwed := true } := by
  rw [Feed.paced, if_neg (by simp [h]), Feed.counted, if_pos ⟨h16, hd, ht⟩]

theorem Feed.paced_skipped {f : Feed} (m : Move) (h : f.extraOwed = false) (h16 : (m.stepsDone + 1) % 16 = 0)
    (hd : m.stepsDone + 1 < m.distance) (ht : f.trim < 0) :
    f.paced m = { f with move := some (m.advanced (m.stepsDone + 2)), trim := f.trim + 1 } := by
  rw [Feed.paced, if_neg (by simp [h]), Feed.counted, if_neg (by omega), if_pos ⟨h16, hd, ht⟩]

theorem Move.advanced_running {m : Move} (h : m.state = .running) (n : Nat) :
    m.advanced n = { m with stepsDone := n, state := if n = m.distance then .done else .running } := by
  rw [Move.advanced, h]

/-- The edge is late when the distance fed while PENDING goes beyond the lead-edge limit unraised (R80). -/
theorem Feed.late_iff {f : Feed} {r : SheetRecord} (hs : f.sheet = some r) (hp : f.phase = .pending) :
    f.late = true ↔ f.edgeLateRaised = false ∧ r.leadLimit < Nat.min 16777215 (f.fedPending + 1) := by
  simp [Feed.late, hs, hp, Feed.issued]

/-- Settles O50: the step taken, with its frame, its slip test and its drive, then the move by the cases of R70. -/
theorem allowedStepIsIssued : Obligations.AllowedStepIsIssued := by
  refine ⟨fun s m hpin hm hr may => ?_, fun s m r hpin hm hr may pending sheet => ?_⟩ <;>
    refine ⟨_, completes_body rfl hpin, ?_⟩ <;> rw [body_step_allowed hm hr may]
  · obtain ⟨⟨commanded, position, capture, phase, sheet⟩, move, trim, owed⟩ := s.stepTaken_finish_feed m
    refine ⟨s.stepTaken_sameLedgers m, s.stepTaken_slipTested m, s.stepTaken_driveWorkedOut m, commanded, position,
      capture, phase, sheet, ?_⟩
    rw [move, trim, owed]
    refine ⟨Feed.paced_owed m hm, fun still plain => ?_, fun still h16 hd ht => ?_, fun still h16 hd ht => ?_⟩
    · rw [Feed.paced_plain m still plain, Move.advanced_running hr]
      exact ⟨rfl, rfl, still⟩
    · rw [Feed.paced_extra m still h16 hd ht, Move.advanced_running hr, if_neg (by omega), hr]
      exact ⟨rfl, rfl, rfl⟩
    · rw [Feed.paced_skipped m still h16 hd ht, Move.advanced_running hr]
      exact ⟨rfl, rfl, still⟩
  · have fed : (s.stepTaken m).slipTest.finish.feed.fedPending = Nat.min 16777215 (s.feed.fedPending + 1) := by
      simp [State.stepTaken_feed, Feed.issued, pending]
    refine ⟨fed, fun fresh beyond => ?_⟩
    rw [fed] at beyond
    have late : s.feed.late = true := (Feed.late_iff sheet pending).2 ⟨fresh, beyond⟩
    have raised : ({ code := .edgeLate, detail := .none } : Raise) ∈ (s.stepTaken m).slipTest.raised := by
      simp [Work.slipTest_raised, State.stepTaken, Work.lateTest_raised, late]
    obtain ⟨active, drive⟩ := Work.finish_stops raised rfl
    exact ⟨active, drive, by simp [State.stepTaken_feed, late]⟩

end Sys2Proof.Machine
end

section
/-! PROOFS. The link's timers (R75, R173, R179, R181, R182). -/

namespace Sys2Proof.Machine

/-! ### The STATUS slot and the error window -/

/-- An event of the link alone, in which nothing else is called for, leaves the state with that link. -/
theorem completes_link {i : Instr} {s : State} {l : Link} (hi : special i = false) (hpin : s.mode.resetPin = false)
    (hb : body i (Work.begin s) = { Work.begin s with link := l }) : Completes i s { s with link := l } := by
  refine (completes_body hi hpin).trans (congrArg _ ?_)
  rw [hb]
  exact Work.finish_quiet rfl rfl rfl rfl rfl rfl rfl rfl rfl rfl rfl

/-! ### Station entries that become LOST -/

/-- What a set of stations makes of one entry: LOST where it is of the set and due. -/
def State.agedOutOf (s : State) (stations : StationSet) (n : StationNo) : PeerEntry :=
  if stations.get n && s.peerDue n then { s.link.peers.get n with presence := .lost } else s.link.peers.get n

theorem Work.loseDue_peerView (stations : StationSet) (w : Work) (n k : StationNo) :
    (Work.loseDue stations w n).peerView k = if k = n then (w.agedOutOf stations n, w.mode) else w.peerView k := by
  unfold Work.loseDue State.agedOutOf
  split
  · rw [Work.peerView, Work.losePeer_peers]
    split <;> simp [Work.peerView]
  · split <;> simp_all [Work.peerView]

/-- An entry that reads alike in two events, of stations with one configuration, is due in both or in neither. -/
theorem Work.peerDue_congr {v w : Work} {n : StationNo} (h : v.peerView n = w.peerView n) :
    v.peerDue n = w.peerDue n := by
  obtain ⟨entry, mode⟩ := Prod.mk.injEq .. ▸ h
  unfold State.peerDue State.lostAge State.sec1
  rw [entry, mode]

theorem Work.losePeers_entry (w : Work) (stations : StationSet) (n : StationNo) :
    (w.losePeers stations).link.peers.get n = w.agedOutOf stations n := by
  have at_ := foldl_at (Work.loseDue stations) Work.peerView
    (fun v a b hne => by rw [Work.loseDue_peerView, if_neg hne])
    (fun v u a h => by
      obtain ⟨entry, mode⟩ := Prod.mk.injEq .. ▸ h
      rw [Work.loseDue_peerView, Work.loseDue_peerView, if_pos rfl, if_pos rfl, State.agedOutOf, State.agedOutOf,
        Work.peerDue_congr h, entry, mode])
    (allStations_nodup) (mem_allStations n) w
  rw [Work.loseDue_peerView, if_pos rfl] at at_
  rw [Work.losePeers_eq]
  exact congrArg Prod.fst at_

/-! ### PEER LOST (R75) -/

theorem Work.losePeer_concerned {w : Work} {n : StationNo} {r : SheetRecord} (hs : w.feed.sheet = some r)
    (hp : w.sheetInProgress = true) (ha : r.active.get n = true) :
    (w.losePeer n).raised = w.raised ++ [{ code := .peerLost, detail := .station n }] := by
  simp only [Work.losePeer, hs, hp, ha]
  rfl

theorem Work.loseDue_raised (stations : StationSet) (w : Work) (n : StationNo) :
    ∀ x ∈ w.raised, x ∈ (Work.loseDue stations w n).raised := by
  intro x hx
  unfold Work.loseDue
  split
  · obtain h | ⟨-, h⟩ := w.losePeer_cases n <;> rw [h]
    · exact hx
    · exact List.mem_append_left _ hx
  · exact hx

/-- Of the stations worked through, one that is due and active in the sheet in progress raises PEER LOST. -/
theorem foldl_loseDue_raises {stations : StationSet} {n : StationNo} {r : SheetRecord} (hn : stations.get n = true)
    (ha : r.active.get n = true) :
    ∀ (l : List StationNo) (w : Work), n ∈ l → w.peerDue n = true → w.feed.sheet = some r →
      w.sheetInProgress = true →
      ({ code := .peerLost, detail := .station n } : Raise) ∈ (l.foldl (Work.loseDue stations) w).raised
  | [], _, hl, _, _, _ => nomatch hl
  | k :: l, w, hl, hd, hs, hp => by
    have feed : (Work.loseDue stations w k).feed = w.feed := by
      unfold Work.loseDue
      split <;> simp
    by_cases hk : n = k
    · subst hk
      refine foldl_invariant (Work.loseDue stations) (fun v => _ ∈ v.raised)
        (fun v a => Work.loseDue_raised stations v a _) l _ ?_
      simp [Work.loseDue, hn, hd, Work.losePeer_concerned hs hp ha]
    · have view : (Work.loseDue stations w k).peerView n = w.peerView n := by
        rw [Work.loseDue_peerView, if_neg hk]
      refine foldl_loseDue_raises hn ha l _ ((List.mem_cons.1 hl).resolve_left hk)
        ((Work.peerDue_congr view).trans hd) (by rw [feed, hs]) ?_
      rw [State.sheetInProgress, feed]
      exact hp

/-! ### The obligation -/

theorem finish_losePeers (s : State) (stations : StationSet) :
    SameLedgers s ((Work.begin s).losePeers stations).finish
      ∧ ∀ n, ((Work.begin s).losePeers stations).finish.link.peers.get n = s.agedOutOf stations n := by
  refine ⟨Work.finish_sameLedgers (by simp) (by simp) (by simp) (by simp) (by simp) (by simp), fun n => ?_⟩
  obtain ⟨-, -, -, -, -, -, -, -, peers, -⟩ := ((Work.begin s).losePeers stations).finish_link
  rw [peers, Work.losePeers_entry]
  rfl

theorem finish_loseController (s : State) :
    SameLedgers s (Work.begin s).loseController.finish
      ∧ (Work.begin s).loseController.finish.link.controller = { s.link.controller with presence := .lost } := by
  refine ⟨Work.finish_sameLedgers (by simp) (by simp) (by simp) (by simp) (by simp) (by simp), ?_⟩
  obtain ⟨-, -, -, -, -, -, -, -, -, controller, -⟩ := (Work.begin s).loseController.finish_link
  rw [controller, Work.loseController_link]
  rfl

theorem Work.loseController_concerned {w : Work} (hp : w.sheetInProgress = true) :
    w.loseController.raised = w.raised ++ [{ code := .controllerSilent, detail := .none }] := by
  simp only [Work.loseController, hp]
  rfl

/-- Settles O45: each timer's body by its test, then the entries that become LOST with what they raise. -/
theorem linkTimersAct : Obligations.LinkTimersAct := by
  refine ⟨fun s hpin => ⟨fun period => ?_, fun spacing early => ?_, fun x hx zero => ?_⟩, fun s a hpin =>
    ⟨?_, fun due => ?_⟩⟩
  · exact completes_link rfl hpin (if_pos period)
  · exact completes_link rfl hpin (if_pos ⟨spacing, early⟩)
  · refine completes_link rfl hpin ?_
    simp only [body, Work.begin_state, hx, zero, if_true]
  · obtain ⟨ledgers, entries⟩ := finish_losePeers s a
    have worked : body (.peerEntryLost a) (Work.begin s) = (Work.begin s).losePeers a := rfl
    refine ⟨_, completes_body rfl hpin, ?_⟩
    rw [worked]
    refine ⟨ledgers, fun n hn hd => ?_, fun n h => ?_, fun r hs hp n hn hd ha => ?_⟩
    · exact (entries n).trans (by simp [State.agedOutOf, hn, hd])
    · exact (entries n).trans (by obtain h | h := h <;> simp [State.agedOutOf, h])
    · have raised := foldl_loseDue_raises hn ha allStations (Work.begin s) (mem_allStations n) hd hs hp
      rw [← Work.losePeers_eq] at raised
      exact Work.finish_raised raised
  · obtain ⟨ledgers, controller⟩ := finish_loseController s
    have lost : body .controllerTimeout (Work.begin s) = (Work.begin s).loseController := if_pos due
    refine ⟨_, completes_body rfl hpin, ?_⟩
    rw [lost]
    refine ⟨ledgers, controller, fun hp => ?_⟩
    have raised : ({ code := .controllerSilent, detail := .none } : Raise) ∈ (Work.begin s).loseController.raised := by
      simp [Work.loseController_concerned (w := Work.begin s) hp]
    exact Work.finish_raised raised

end Sys2Proof.Machine
end

section
/-! SUPPORT. The captures of the neighbours (R83) as feed control reads them and as the statements put them, and the
skew estimate judged from them (R84). -/

namespace Sys2Proof.Machine

/-! ### The neighbours -/

theorem adjacentStations_eq (a : StationNo) :
    (allStations.filter fun n => decide (n.val + 1 = a.val) || decide (a.val + 1 = n.val))
      = (leftOf a).toList ++ (rightOf a).toList := by
  revert a
  decide

theorem State.neighbour_eq {s : State} {r : SheetRecord} (h : s.feed.sheet = some r) (x : Option StationNo) :
    s.neighbour x = x.filter r.active.get := by
  cases x with
  | none => simp [State.neighbour]
  | some m => simp [State.neighbour, h, Option.filter]

theorem State.neighbours_eq (s : State) :
    s.neighbours
      = (s.neighbour (leftOf s.mode.station)).toList ++ (s.neighbour (rightOf s.mode.station)).toList := by
  unfold State.neighbours
  cases h : s.feed.sheet with
  | none => simp [State.neighbour, h]
  | some r =>
    rw [State.neighbour_eq h, State.neighbour_eq h, Option.toList_filter, Option.toList_filter, ← List.filter_append,
      ← adjacentStations_eq, List.filter_filter]

theorem State.captureFrom_eq (s : State) (x : Option StationNo) :
    s.captureFrom x = (s.neighbour x).bind s.heardCapture := by
  unfold State.captureFrom State.heardCapture
  cases hs : s.feed.sheet with
  | none => cases x <;> simp [State.neighbour, hs]
  | some r =>
    cases hn : s.neighbour x with
    | none => rfl
    | some m => rfl

theorem State.skewEstimate_eq (s : State) (a : Nat) : s.skewEstimate a = s.skewNow a := by
  have heard : s.neighbours.filterMap s.heardCapture
      = (s.captureFrom (leftOf s.mode.station)).toList ++ (s.captureFrom (rightOf s.mode.station)).toList := by
    have one : ∀ x : Option StationNo, x.toList.filterMap s.heardCapture = (x.bind s.heardCapture).toList := fun x => by
      cases x with
      | none => rfl
      | some n => cases h : s.heardCapture n <;> simp [h]
    rw [State.neighbours_eq, List.filterMap_append, State.captureFrom_eq, State.captureFrom_eq, one, one]
  rw [State.skewEstimate, heard, State.skewNow]
  cases s.captureFrom (leftOf s.mode.station) <;> cases s.captureFrom (rightOf s.mode.station) <;> rfl

theorem State.capturesIn_iff (s : State) : s.capturesIn = true ↔ s.capturesHeard := by
  have one : ∀ x, ((s.neighbour x).isNone == (s.captureFrom x).isNone) = true
      ↔ ∀ n ∈ (s.neighbour x).toList, s.heardCapture n ≠ none := fun x => by
    rw [State.captureFrom_eq]
    cases s.neighbour x <;> simp [Option.isSome_iff_ne_none]
  rw [State.capturesIn, Bool.and_eq_true, one, one, State.capturesHeard, State.neighbours_eq]
  simp [or_imp, forall_and]

/-- The captures depend on the sheet, the station number and the station entries alone. -/
theorem State.captures_congr {s t : State} (hs : t.feed.sheet = s.feed.sheet) (hm : t.mode = s.mode)
    (hp : t.link.peers = s.link.peers) :
    t.skewEstimate = s.skewEstimate ∧ (t.capturesHeard ↔ s.capturesHeard) := by
  have heard : t.heardCapture = s.heardCapture := by
    funext n
    rw [State.heardCapture, hs, hp]
    rfl
  have near : t.neighbours = s.neighbours := by
    rw [State.neighbours, hs, hm]
    rfl
  refine ⟨funext fun a => ?_, ?_⟩
  · rw [State.skewEstimate, heard, near]
    rfl
  · rw [State.capturesHeard, heard, near]

/-! ### The skew test at the end of an event -/

theorem Work.finish_peers (w : Work) : w.finish.link.peers = w.link.peers := by
  obtain ⟨-, -, -, -, -, -, -, -, peers, -⟩ := w.finish_link
  exact peers

theorem Work.finish_captures (w : Work) :
    w.finish.skewEstimate = w.skewEstimate ∧ (w.finish.capturesHeard ↔ w.capturesHeard) :=
  State.captures_congr (by simp) (by simp) w.finish_peers

/-- An event in which the skew is not estimated leaves it as it stands. -/
theorem Work.finish_skewStands {s : State} {w : Work} (hk : w.feed.skew = s.feed.skew)
    (ht : w.feed.trim = s.feed.trim) (hf : w.faults = s.faults)
    (only : Work.RaisesOnly (· ≠ .skew) (Work.begin s) w) : SkewStands s w.finish :=
  ⟨by simpa using hk, by simpa using ht, Work.finish_notNew hf (by decide) only⟩

/-- An event whose body estimates the skew of an own capture, from a point `v`, has judged it at the end. -/
theorem Work.finish_skewJudged {s : State} {v w : Work} {a : Nat} (hc : v.feed.capture = some a)
    (ht : v.feed.trim = s.feed.trim) (hm : v.mode = s.mode) (only : Work.RaisesOnly (· ≠ .skew) (Work.begin s) v)
    (feed : w.feed = v.estimateSkew.feed) (raised : w.raised = v.estimateSkew.raised) (mode : w.mode = v.mode)
    (faults : w.faults = s.faults) (peers : w.link.peers = v.link.peers) : SkewJudged s w.finish a := by
  rw [Work.estimateSkew_feed hc] at feed
  rw [Work.estimateSkew_raised hc] at raised
  have estimate : w.finish.skewEstimate a = v.skewNow a := by
    obtain ⟨same, -⟩ := State.captures_congr (s := v.toState) (t := w.toState) (by rw [feed]; rfl) mode peers
    obtain ⟨kept, -⟩ := w.finish_captures
    rw [← v.skewEstimate_eq, kept, same]
  have skewed : v.skewed a = decide (s.sec2.skewLimit < (v.skewNow a).natAbs) := by
    simp only [State.skewed, State.sec2, hm]
    rfl
  rw [SkewJudged, estimate]
  refine ⟨by simp [feed, State.judgedFeed], by simp [feed, State.judgedFeed], fun within => ?_, fun beyond => ?_⟩
  · have even : v.skewed a = false := by rw [skewed]; exact decide_eq_false (by omega)
    refine ⟨by simp [feed, State.judgedFeed, even], Work.finish_notNew faults (by decide) (only.trans (.same ?_))⟩
    simp [raised, even]
  · have uneven : v.skewed a = true := by rw [skewed]; exact decide_eq_true beyond
    have mem : ({ code := .skew, detail := .none } : Raise) ∈ w.raised := by simp [raised, uneven]
    exact ⟨by simp [feed, State.judgedFeed, uneven, ht], Work.finish_raised mem⟩

/-- With nothing raised and the ink as it was, the faults stand. -/
theorem Work.finish_faults_stand {w : Work} (hi : w.ink = w.pre.ink) (hr : w.raised = []) :
    w.finish.faults = w.faults := by
  rw [Work.finish_faults, Work.overfillTests_same hi, Work.faultStage_none hr]

end Sys2Proof.Machine
end

section
/-! PROOFS. The skew window's end and the STATUS that brings the last capture (R83, R84). -/

namespace Sys2Proof.Machine

theorem skewNow_cases (s : State) (a : Nat) :
    s.skewNow a = (match s.captureFrom (leftOf s.mode.station), s.captureFrom (rightOf s.mode.station) with
      | some b, some c => (2 * (a : Int) - b - c).tdiv 2
      | some b, none => (a : Int) - b
      | none, some c => (a : Int) - c
      | none, none => 0) := by
  rw [State.skewNow]
  cases s.captureFrom (leftOf s.mode.station) <;> cases s.captureFrom (rightOf s.mode.station) <;> rfl

/-! ### The end of the window -/

theorem finish_estimateSkew {s : State} {a : Nat} (hc : s.feed.capture = some a) :
    SameLedgers s (Work.begin s).estimateSkew.finish ∧ SkewJudged s (Work.begin s).estimateSkew.finish a
      ∧ (Work.begin s).estimateSkew.finish.feed.skew = some (s.skewNow a) := by
  refine ⟨Work.finish_sameLedgers (by simp) (by simp) (by simp) (by simp) (by simp) (by simp), ?_, ?_⟩
  · exact Work.finish_skewJudged (v := Work.begin s) hc rfl rfl (.same rfl) rfl rfl (by simp) (by simp) (by simp)
  · simp [Work.estimateSkew_feed (w := Work.begin s) hc, State.judgedFeed]

/-- Within the skew limit no fault comes of the estimate. -/
theorem finish_estimateSkew_within {s : State} {a : Nat} (hc : s.feed.capture = some a)
    (h : (s.skewNow a).natAbs ≤ s.sec2.skewLimit) : (Work.begin s).estimateSkew.finish.faults = s.faults := by
  have even : (Work.begin s).skewed a = false := decide_eq_false (by simpa using h)
  refine (Work.finish_faults_stand (by simp) ?_).trans (by simp)
  rw [Work.estimateSkew_raised (w := Work.begin s) hc, even]
  rfl

/-! ### A STATUS heard -/

/-- The event with a station's STATUS entered, before the skew test of R83. -/
def State.entered (s : State) (n : StationNo) (f : PeerStatus) : Work :=
  ({ Work.begin s with
    link := { s.link with peers := s.link.peers.set n { presence := .present, age := 0, fields := some f } } } :
    Work).peersChanged

theorem Work.begin_hearPeer (s : State) (n : StationNo) (f : PeerStatus) :
    (Work.begin s).hearPeer n f = (s.entered n f).skewTest := rfl

theorem Work.skewTest_captures (w : Work) : w.skewTest.finish.capturesHeard ↔ w.capturesIn = true := by
  obtain ⟨-, heard⟩ := w.skewTest.finish_captures
  obtain ⟨-, same⟩ := State.captures_congr (s := w.toState) (t := w.skewTest.toState) (by simp) (by simp) (by simp)
  rw [heard, same, w.capturesIn_iff]

theorem Work.skewTest_waits {w : Work} (h : w.feed.skewWindow = none ∨ ¬ w.capturesIn = true) : w.skewTest = w := by
  rw [Work.skewTest_eq, if_neg]
  obtain h | h := h <;> simp [h]

theorem Work.skewTest_estimates {w : Work} (hw : w.feed.skewWindow.isSome = true) (h : w.capturesIn = true) :
    w.skewTest = w.estimateSkew := by
  rw [Work.skewTest_eq, if_pos (by simp [hw, h])]

/-- Settles O54: the estimate that ends the window judges the skew, at the window's own end or at the STATUS with
which all the captures are in. -/
theorem skewWindowEndEstimates : Obligations.SkewWindowEndEstimates := by
  refine ⟨fun s a hpin ended hc => ?_, fun s n f hpin hn => ⟨_, completes_peerStatusHeard hpin hn, ?_⟩⟩
  · have estimates : body .skewWindowEnd (Work.begin s) = (Work.begin s).estimateSkew := if_pos ended
    refine ⟨_, completes_body rfl hpin, ?_⟩
    rw [estimates]
    obtain ⟨ledgers, judged, skew⟩ := finish_estimateSkew hc
    have ⟨window, estimated, within, beyond⟩ := judged
    have same : (Work.begin s).estimateSkew.finish.skewEstimate a = s.skewNow a :=
      Option.some.inj (estimated.symm.trans skew)
    rw [same] at within beyond
    exact ⟨ledgers, judged, window, _, skew, skewNow_cases s a,
      fun h => ⟨(within h).1, finish_estimateSkew_within hc h⟩, beyond⟩
  · rw [Work.begin_hearPeer]
    refine ⟨fun a window hc heard => ?_, fun waits => ?_⟩
    · rw [Work.skewTest_captures] at heard
      rw [Work.skewTest_estimates window heard]
      exact Work.finish_skewJudged (v := s.entered n f) hc rfl rfl (.same rfl) rfl rfl (by simp)
        (by simp [State.entered]) (by simp)
    · rw [Work.skewTest_captures ] at waits
      rw [Work.skewTest_waits waits]
      exact ⟨Work.finish_skewStands rfl rfl rfl (.same rfl), by simp [State.entered]⟩

end Sys2Proof.Machine
end

section
/-! PROOFS. The sheet's edges (R78, R79) and their edge-triggered tally operations (R163, R164). -/

namespace Sys2Proof.Machine

/-! ### The operation of an edge (R164) -/

section
variable {w : Work} {close peek : Bool}

/-- Outside RUN or with a report outstanding, and with neither operation enabled, an edge does nothing. -/
theorem Work.edgeOperation_none
    (h : w.mode.mode ≠ .run ∨ w.tally.outstanding = true ∨ close = false ∧ peek = false) :
    w.edgeOperation close peek = w := by
  unfold Work.edgeOperation
  obtain h | h | ⟨rfl, rfl⟩ := h
  · exact if_pos (by simp [State.inRun, h])
  · exact if_pos (by simp [h])
  · split <;> rfl

theorem Work.edgeOperation_close (hr : w.mode.mode = .run) (ho : w.tally.outstanding = false) (hc : close = true) :
    w.edgeOperation close peek = w.closePeriod true := by
  simp [Work.edgeOperation, State.inRun, hr, ho, hc]

theorem Work.edgeOperation_peek (hr : w.mode.mode = .run) (ho : w.tally.outstanding = false) (hc : close = false)
    (hp : peek = true) : w.edgeOperation close peek = w.peekPeriod true := by
  simp [Work.edgeOperation, State.inRun, hr, ho, hc, hp]

/-- Without a close the tallies of the period stand. -/
theorem Work.edgeOperation_tally (h : w.mode.mode ≠ .run ∨ w.tally.outstanding = true ∨ close = false) :
    (w.edgeOperation close peek).tally = w.tally := by
  unfold Work.edgeOperation
  obtain h | h | rfl := h
  · rw [if_pos (by simp [State.inRun, h])]
  · rw [if_pos (by simp [h])]
  · (repeat' split) <;> simp_all

end

/-- A snapshot reads the tallies, the ink and the keep-wet counts alone (R157). -/
theorem State.snapshot_congr {s t : State} (ht : t.tally = s.tally) (hi : t.ink = s.ink) (hk : t.keepWet = s.keepWet)
    (peek limited : Bool) : t.snapshot peek limited = s.snapshot peek limited := by
  have channel : t.reportChannel = s.reportChannel := by
    funext c
    simp only [State.reportChannel, State.settingsOf, ht, hi]
  simp only [State.snapshot, ht, hk, channel]

/-- The tallies of a period opened anew from the estimates, with a report outstanding (R160). -/
def Tally.opened (x : Tally) (ink : PerChannel InkChannel) : Tally :=
  { x with
    channels := PerChannel.gen fun c => TallyChannel.openedAt (ink.get c).estimate
    leadingSeen := false, trailingSeen := false, startInPeriod := false, outstanding := true }

/-- What the operation of an edge, with the tallies of the edge marked, leaves of the tallies and of the TALLY REPORT
slot (R163, R164). -/
def EdgeOperated (s t : State) (marked : Tally) (close peek : Bool) : Prop :=
  (s.mode.mode ≠ .run ∨ s.tally.outstanding = true ∨ close = false → t.tally = marked)
  ∧ (s.mode.mode = .run → s.tally.outstanding = false → close = true →
      t.link.reportSlot
          = some { report := ({ s with tally := marked } : State).snapshot false true, partsSent := 0 }
        ∧ t.tally = marked.opened s.ink)
  ∧ (s.mode.mode = .run → s.tally.outstanding = false → close = false → peek = true →
      t.link.reportSlot
        = some { report := ({ s with tally := marked } : State).snapshot true true, partsSent := 0 })
  ∧ (s.mode.mode ≠ .run ∨ s.tally.outstanding = true ∨ close = false ∧ peek = false →
      t.link.reportSlot = s.link.reportSlot)

/-- An event that ends with the operation of an edge, and till then has left what a report reads. -/
theorem Work.finish_edgeOperated {s : State} {u : Work} {marked : Tally} {close peek : Bool} (hi : u.ink = s.ink)
    (hk : u.keepWet = s.keepWet) (hm : u.mode = s.mode) (hl : u.link = s.link)
    (ho : marked.outstanding = s.tally.outstanding) :
    EdgeOperated s (({ u with tally := marked } : Work).edgeOperation close peek).finish marked close peek := by
  have slot : ∀ w : Work, w.finish.link.reportSlot = w.link.reportSlot := fun w => by
    obtain ⟨-, -, -, slot, -⟩ := w.finish_link
    exact slot
  have report : ∀ p l, ({ u with tally := marked } : Work).snapshot p l
      = ({ s with tally := marked } : State).snapshot p l := fun p l =>
    State.snapshot_congr (s := { s with tally := marked }) (t := ({ u with tally := marked } : Work).toState)
      rfl hi hk p l
  refine ⟨fun h => ?_, fun hr out hc => ?_, fun hr out hc hp => ?_, fun h => ?_⟩
  · rw [← hm, ← ho] at h
    obtain ⟨-, tally, -⟩ := Work.finish_frame (({ u with tally := marked } : Work).edgeOperation close peek)
    rw [tally, Work.edgeOperation_tally (w := { u with tally := marked }) h]
  · rw [← hm] at hr
    rw [← ho] at out
    rw [Work.edgeOperation_close (w := { u with tally := marked }) hr out hc, slot, ← report, ← hi]
    obtain ⟨-, tally, -⟩ := Work.finish_frame (({ u with tally := marked } : Work).closePeriod true)
    exact ⟨rfl, tally⟩
  · rw [← hm] at hr
    rw [← ho] at out
    rw [Work.edgeOperation_peek (w := { u with tally := marked }) hr out hc hp, slot, ← report]
    rfl
  · rw [← hm, ← ho] at h
    rw [Work.edgeOperation_none (w := { u with tally := marked }) h, slot, hl]

/-! ### The leading edge (R78, R82, R83) -/

/-- The event of a leading edge with its captures taken and the skew window begun. -/
def State.leadingCaptured (s : State) : Work :=
  { Work.begin s with
    feed := { s.feed with
      capture := some s.feed.position, stepsAtCapture := some s.feed.commanded, vacuum := true
      skewWindow := some (2 * s.sec1.statusPeriod) } }

/-- The event of a leading edge, before the skew test and the tally unit's part. -/
def State.leading (s : State) : Work := s.leadingCaptured.setPhase .active

theorem State.leading_feed (s : State) : s.leading.feed = { s.leadingCaptured.feed with phase := .active } :=
  Work.setPhase_feed _ _

@[simp] theorem State.leading_frame (s : State) :
    s.leading.ink = s.ink ∧ s.leading.tally = s.tally ∧ s.leading.keepWet = s.keepWet ∧ s.leading.mode = s.mode
      ∧ s.leading.link = s.link ∧ s.leading.faults = s.faults := by
  simp [State.leading, State.leadingCaptured]

theorem State.leading_raisesOnly (s : State) : Work.RaisesOnly (· ≠ .skew) (Work.begin s) s.leading := by
  have changed := (Work.setPhase_raisesOnly s.leadingCaptured .active).mono (Q := (· ≠ .skew)) fun f h =>
    absurd h.2 (by decide)
  exact .trans (.same rfl) changed

theorem body_leading_pending {s : State} (h : s.feed.phase = .pending) :
    body .leadingEdge (Work.begin s) = s.leading.skewTest.tallyLeading := if_pos h

theorem Work.tallyLeading_eq {s : State} {u : Work} (ht : u.tally = s.tally) (hm : u.mode = s.mode) :
    u.tallyLeading = ({ u with tally := { s.tally with leadingSeen := true } } : Work).edgeOperation
      s.sec3.leadingClose s.sec3.leadingPeek := by
  rw [Work.tallyLeading, ht, State.sec3, State.sec3, hm]

theorem Work.edgeOperation_peers (w : Work) (close peek : Bool) :
    (w.edgeOperation close peek).link.peers = w.link.peers := by
  unfold Work.edgeOperation
  (repeat' split) <;> rfl

theorem leading_skew (s : State) :
    (s.capturesHeard → SkewJudged s s.leading.skewTest.tallyLeading.finish s.feed.position)
      ∧ (¬ s.capturesHeard → SkewStands s s.leading.skewTest.tallyLeading.finish
          ∧ s.leading.skewTest.tallyLeading.finish.feed.skewWindow = some (2 * s.sec1.statusPeriod)) := by
  obtain ⟨-, same⟩ := State.captures_congr (s := s) (t := s.leading.toState) (by rw [State.leading_feed]; rfl)
    (by simp) (by simp)
  have window : s.leading.feed.skewWindow = some (2 * s.sec1.statusPeriod) := by rw [State.leading_feed]; rfl
  rw [← same, ← State.capturesIn_iff]
  refine ⟨fun heard => ?_, fun missing => ?_⟩
  · rw [Work.skewTest_estimates (by simp [window]) heard]
    exact Work.finish_skewJudged (v := s.leading) (by rw [State.leading_feed]; rfl) (by rw [State.leading_feed]; rfl)
      (by simp) s.leading_raisesOnly (by simp) (by simp) (by simp) (by simp)
      ((Work.edgeOperation_peers ..).trans (by simp))
  · rw [Work.skewTest_waits (.inr missing)]
    refine ⟨Work.finish_skewStands ?_ ?_ (by simp) (s.leading_raisesOnly.trans (.same (by simp))), by simp [window]⟩
    · simp [State.leading_feed, State.leadingCaptured]
    · simp [State.leading_feed, State.leadingCaptured]

theorem leading_edgeOperated (s : State) :
    EdgeOperated s s.leading.skewTest.tallyLeading.finish { s.tally with leadingSeen := true } s.sec3.leadingClose
      s.sec3.leadingPeek := by
  rw [Work.tallyLeading_eq (s := s) (by simp) (by simp)]
  exact Work.finish_edgeOperated (by simp) (by simp) (by simp) (by simp) rfl

theorem leading_captured (s : State) :
    s.leading.skewTest.tallyLeading.finish.feed.phase = .active
      ∧ s.leading.skewTest.tallyLeading.finish.feed.capture = some s.feed.position
      ∧ s.leading.skewTest.tallyLeading.finish.feed.stepsAtCapture = some s.feed.commanded
      ∧ s.leading.skewTest.tallyLeading.finish.feed.vacuum = true
      ∧ s.leading.skewTest.tallyLeading.finish.feed.position = s.feed.position
      ∧ s.leading.skewTest.tallyLeading.finish.feed.commanded = s.feed.commanded
      ∧ s.leading.skewTest.tallyLeading.finish.feed.move = s.feed.move := by
  simp [State.leading_feed, State.leadingCaptured]

/-! ### The trailing edge (R79) -/

/-- The event of a trailing edge, before the tally unit's part. -/
def State.trailed (s : State) : Work :=
  ({ Work.begin s with feed := { s.feed with trailing := some s.feed.position } } : Work).setPhase .trailing

theorem State.trailed_feed (s : State) :
    s.trailed.feed = { s.feed with trailing := some s.feed.position, phase := .trailing } := Work.setPhase_feed _ _

theorem body_trailing_active {s : State} (h : s.feed.phase = .active) :
    body .trailingEdge (Work.begin s) = s.trailed.tallyTrailing := if_pos h

theorem Work.tallyTrailing_eq {s : State} {u : Work} (ht : u.tally = s.tally) (hm : u.mode = s.mode) :
    u.tallyTrailing = ({ u with tally := { s.tally with trailingSeen := true } } : Work).edgeOperation
      s.sec3.trailingClose s.sec3.trailingPeek := by
  rw [Work.tallyTrailing, ht, State.sec3, State.sec3, hm]

theorem trailing_edgeOperated (s : State) :
    EdgeOperated s s.trailed.tallyTrailing.finish { s.tally with trailingSeen := true } s.sec3.trailingClose
      s.sec3.trailingPeek := by
  rw [Work.tallyTrailing_eq (s := s) (by simp [State.trailed]) (by simp [State.trailed])]
  exact Work.finish_edgeOperated (by simp [State.trailed]) (by simp [State.trailed]) (by simp [State.trailed])
    (by simp [State.trailed]) rfl

theorem trailing_captured (s : State) :
    s.trailed.tallyTrailing.finish.feed.phase = .trailing
      ∧ s.trailed.tallyTrailing.finish.feed.trailing = some s.feed.position
      ∧ s.trailed.tallyTrailing.finish.feed.capture = s.feed.capture
      ∧ s.trailed.tallyTrailing.finish.feed.position = s.feed.position
      ∧ s.trailed.tallyTrailing.finish.feed.vacuum = s.feed.vacuum
      ∧ s.trailed.tallyTrailing.finish.feed.underSegment = s.feed.underSegment
      ∧ s.trailed.tallyTrailing.finish.feed.move = s.feed.move := by
  simp [State.trailed_feed]

/-- Settles O53: an edge's captures, the skew judged or awaited, and the operation of the edge, each by its lemma. -/
theorem sheetEdgesAreCaptured : Obligations.SheetEdgesAreCaptured := by
  refine ⟨fun s hpin pending => ?_, fun s hpin active => ?_⟩
  · refine ⟨_, completes_body rfl hpin, ?_⟩
    rw [body_leading_pending pending]
    obtain ⟨judged, stands⟩ := leading_skew s
    obtain ⟨marked, closed, peeked, kept⟩ := leading_edgeOperated s
    obtain ⟨phase, capture, steps, vacuum, position, commanded, move⟩ := leading_captured s
    refine ⟨by simp, by simp, phase, capture, steps, vacuum, position, commanded, move, judged, stands, marked,
      fun hr ho hc => ?_, peeked, kept⟩
    obtain ⟨slot, tally⟩ := closed hr ho hc
    rw [tally]
    exact ⟨⟨_, slot, rfl, rfl, rfl, rfl⟩, rfl, rfl, rfl, fun c => by simp [Tally.opened]⟩
  · refine ⟨_, completes_body rfl hpin, ?_⟩
    rw [body_trailing_active active]
    obtain ⟨marked, closed, peeked, kept⟩ := trailing_edgeOperated s
    obtain ⟨phase, trailing, capture, position, vacuum, under, move⟩ := trailing_captured s
    refine ⟨by simp [State.trailed], by simp [State.trailed], phase, trailing, capture, position, vacuum, under, move,
      marked, peeked, fun hr ho hc => ?_, kept⟩
    obtain ⟨slot, tally⟩ := closed hr ho hc
    rw [tally]
    exact ⟨slot, rfl, rfl, rfl, rfl, rfl, rfl, rfl, fun c => by simp [Tally.opened]⟩

end Sys2Proof.Machine
end

section
/-! SUPPORT. The service unit at the end of an event: with an action in hand the arbiter chooses nothing, with nothing
in hand and nothing pending neither, and the sled keeps the place where it stands with its switch closed. -/

namespace Sys2Proof.Machine

/-! ### An action in hand (R105, R109) -/

theorem Work.arbitrate_busy {w : Work} {a : CurrentAction} (h : w.service.current = some a) (n : Nat) :
    Work.arbitrate n w = w := by
  cases n with
  | zero => rfl
  | succ n => simp [Work.arbitrate, State.uncapNeeded, State.mayStart, h]

theorem Work.arbiterStage_service {w : Work} (h : Work.arbitrate 16 w = w) :
    ∃ k, w.arbiterStage.service = { w.service with capIdle := k } := by
  rw [Work.arbiterStage, h]
  dsimp only
  (repeat' split) <;> exact ⟨_, rfl⟩

/-- An event that leaves its body with an action in hand leaves the service unit, but for requests and the cap idle
count. -/
theorem Work.finish_busy {w : Work} {a : CurrentAction} (h : w.service.current = some a) :
    ∃ p k, w.finish.service = { w.service with pending := p, capIdle := k } := by
  obtain ⟨p, guarded, -⟩ := w.guarded_rescreened
  obtain ⟨k, stage⟩ := Work.arbiterStage_service
    (Work.arbitrate_busy (w := w.overfillTests.faultStage.coverStage.guardStage) (a := a) (by rw [guarded]; exact h) 16)
  obtain ⟨-, -, service, -, -⟩ := w.finish_chosen
  exact ⟨p, k, by rw [service, Work.chosen, stage, guarded]⟩

/-! ### Nothing in hand and nothing pending (R105, R109) -/

theorem Work.arbitrate_idle {w : Work} (hu : w.uncapNeeded = false) (hp : ∀ src, w.service.pending.get src = false)
    (hs : w.service.stack = []) (n : Nat) : Work.arbitrate n w = w := by
  have unchosen : w.chosenSource = none := by
    cases hc : w.chosenSource with
    | none => rfl
    | some src => simpa [hp src] using State.chosenSource_pending hc
  have top : w.topReady = none := by simp [State.topReady, hs]
  cases n with
  | zero => rfl
  | succ n => simp [Work.arbitrate, hu, hp, unchosen, top]

/-- An event that raises nothing, moves no ink and leaves nothing in hand and nothing pending, with no need to uncap,
leaves the service unit but for the cap idle count. -/
theorem Work.finish_idle {w : Work} (hi : w.ink = w.pre.ink) (hr : w.raised = []) (hc : w.cover = false)
    (hg : w.guardDue = false) (hu : w.uncapNeeded = false) (hp : ∀ src, w.service.pending.get src = false)
    (hs : w.service.stack = []) : ∃ k, w.finish.service = { w.service with capIdle := k } := by
  obtain ⟨k, stage⟩ := Work.arbiterStage_service (Work.arbitrate_idle hu hp hs 16)
  obtain ⟨-, -, service, -, -⟩ := w.finish_chosen
  refine ⟨k, ?_⟩
  rw [service, Work.chosen, Work.overfillTests_same hi, Work.faultStage_none hr, Work.coverStage_off hc,
    Work.guardStage_off hg, stage]

/-! ### The sled where it stands (R92) -/

/-- The sled stands at a place, and the switch of that place reads closed. -/
def Work.SledStands (p : SledPlace) (w : Work) : Prop :=
  w.service.sled = .standing p ∧ w.service.closed = some p

theorem Work.SledStands.congr {p : SledPlace} {v w : Work} (h : v.SledStands p)
    (hs : w.service.sled = v.service.sled) (hl : w.service.closed = v.service.closed) : w.SledStands p := by
  rwa [Work.SledStands, hs, hl]

theorem Work.requestStarted_sled (w : Work) (src : Source) (ch : Option Channel) :
    (w.requestStarted src ch).service.sled = w.service.sled
      ∧ (w.requestStarted src ch).service.closed = w.service.closed := by
  unfold Work.requestStarted
  split
  · exact (Work.raiseRecovery_sled _).2
  · exact ⟨rfl, rfl⟩
  · exact ⟨rfl, rfl⟩

/-- Where the sled stands with its switch closed no operation of the arbiter moves it at once. -/
theorem arbiterClosed_sledStands (p : SledPlace) : ArbiterClosed (Work.SledStands p) where
  request h := h
  screen {w} h := by
    obtain ⟨-, sled, closed⟩ := Work.withdrawRecovery_sled
      { w with nozzle := { w.nozzle with ladders := PerChannel.gen w.screenedLadder }, classes := true }
    exact h.congr sled closed
  push {w src acts ch} h _ _ _ := by
    obtain ⟨sled, closed⟩ := (w.push src acts ch).requestStarted_sled src ch
    exact h.congr sled closed
  launch h _ _ := h
  hold h _ := h
  command {w q} h := by
    obtain ⟨sled, closed⟩ := h
    unfold Work.commandSled
    split
    · rename_i there
      have same : q = p := by simpa [State.sledThere, sled, closed, eq_comm] using there
      exact ⟨congrArg _ same, closed⟩
    · exact ⟨sled, closed⟩
  stage h := h
  head h := h
  wiper h := h
  ended h _ := h
  pop h := h
  capped h _ := h
  idle h := h

theorem Work.finish_sledStands {p : SledPlace} {w : Work} (h : w.SledStands p) :
    w.finish.service.sled = .standing p := by
  obtain ⟨q, guarded, -⟩ := w.guarded_rescreened
  have chosen : w.chosen.SledStands p :=
    (arbiterClosed_sledStands p).arbiterStage (h.congr (by rw [guarded]) (by rw [guarded]))
  obtain ⟨-, -, service, -, -⟩ := w.finish_chosen
  rw [service]
  exact chosen.1

/-- A sled that stands at the place an action leaves it, uncapped or capped as that action leaves the head, keeps the
head so (R96). -/
theorem Work.SledStands.capStands {b : Bool} {p : SledPlace} {w : Work} (h : w.SledStands p)
    (hp : p ≠ flipPlace b) (hc : w.service.capped = b) : w.CapStands b := by
  obtain ⟨sled, closed⟩ := h
  exact ⟨hc, by simpa [sled] using hp, by simpa [closed] using hp⟩

theorem Work.finish_pointer (w : Work) : w.finish.keepWet.pointer = w.keepWet.pointer := by
  obtain ⟨-, keepWet, -⟩ := w.finish_chosen
  obtain ⟨-, pointer, -⟩ := w.chosen_onward.keepWet
  rw [keepWet, pointer]

end Sys2Proof.Machine
end

section
/-! PROOFS. The sled's departure and its arrivals (R92, R94, R96, R97, R120). -/

namespace Sys2Proof.Machine

/-! ### The sled leaves (R92) -/

/-- The event of a departure with a motion commanded. -/
def State.departs (s : State) : Work :=
  { Work.begin s with
    service := { s.service with sled := .moving, closed := none }, boundary := true, drive := true }

theorem body_sledDeparture_commanded {s : State} {p : SledPlace} (h : s.service.motion = some p) :
    body .sledDeparture (Work.begin s) = s.departs := by
  simp [body, Service.departed, h, State.departs]

theorem departure_taken {s : State} {p : SledPlace} {a : CurrentAction} (hpin : s.mode.resetPin = false)
    (hm : s.service.motion = some p) (hc : s.service.current = some a) :
    ∃ t, Completes .sledDeparture s t ∧ t.service.sled = .moving ∧ t.service.closed = none
      ∧ t.service.current = some a ∧ SameLedgers s t ∧ DriveWorkedOut s t := by
  refine ⟨_, completes_body rfl hpin, ?_⟩
  rw [body_sledDeparture_commanded hm]
  obtain ⟨q, k, service⟩ := Work.finish_busy (w := s.departs) hc
  rw [service]
  exact ⟨rfl, rfl, hc, Work.finish_sameLedgers rfl rfl rfl rfl rfl rfl,
    Work.finish_driveWorkedOut ((Work.chosen_onward _).drive rfl) rfl⟩

/-! ### Arrivals outbound (R94, R96) -/

/-- The event of an arrival at the commanded target, before the route goes on. -/
def State.arrived (s : State) (p : SledPlace) : Work :=
  { Work.begin s with
    service := { s.service with sled := .standing p, motion := none, closed := some p }
    boundary := true, drive := true }

theorem body_sledArrival_commanded {s : State} {p : SledPlace} (h : s.service.motion = some p) :
    body (.sledArrival p) (Work.begin s) = (s.arrived p).reached := if_pos h

/-- What an arrival asks of the head driver (R94). -/
def State.headWork (s : State) (a : CurrentAction) : HeadKind :=
  match a.action with
  | .check g => .check g
  | .purge h l => .purge h l
  | _ => .fire a.block (PerChannel.gen s.enabled) a.drops

theorem State.arrived_sends {s : State} {p : SledPlace} {a : CurrentAction} (hc : s.service.current = some a)
    (hg : a.stage = .outbound)
    (ha : a.action = .gapSpit ∨ (∃ g, a.action = .check g) ∨ ∃ h l, a.action = .purge h l) :
    (s.arrived p).reached = (s.arrived p).sendHead (s.headWork a) := by
  have current : (s.arrived p).service.current = some a := hc
  rw [Work.reached, current]
  obtain ha | ⟨g, ha⟩ | ⟨h, l, ha⟩ := ha <;> simp only [hg, ha, State.headWork]
  rfl

theorem arrival_asks {s : State} {p : SledPlace} {a : CurrentAction} (hpin : s.mode.resetPin = false)
    (hm : s.service.motion = some p) (hc : s.service.current = some a) (hg : a.stage = .outbound)
    (ha : a.action = .gapSpit ∨ (∃ g, a.action = .check g) ∨ ∃ h l, a.action = .purge h l) :
    ∃ t, Completes (.sledArrival p) s t ∧ t.service.sled = .standing p ∧ t.service.motion = none
      ∧ t.service.head = some { number := (s.service.requestNumber + 1) % 256, kind := s.headWork a }
      ∧ t.service.current = some { a with stage := .atHead } ∧ SameLedgers s t := by
  have current : ((s.arrived p).sendHead (s.headWork a)).service.current = some { a with stage := .atHead } := by
    simp [Work.sendHead, Work.setStage, State.arrived, hc]
  refine ⟨_, completes_body rfl hpin, ?_⟩
  rw [body_sledArrival_commanded hm, State.arrived_sends hc hg ha]
  obtain ⟨q, k, service⟩ := Work.finish_busy current
  rw [service]
  exact ⟨rfl, rfl, rfl, current, Work.finish_sameLedgers rfl rfl rfl rfl rfl rfl⟩

/-- The event of a WIPE's arrival at SPIT: the WIPER output off, and the sled on its way to PARK (R96). -/
def State.wiped (s : State) : Work :=
  let off : Work := { s.arrived .spit with service := { (s.arrived .spit).service with wiper := false } }
  let w := off.setStage .inbound
  { w with service := { w.service with motion := some .park }, drive := true }

theorem State.arrived_wipes {s : State} {a : CurrentAction} (hc : s.service.current = some a)
    (hg : a.stage = .outbound) (ha : a.action = .wipe) : (s.arrived .spit).reached = s.wiped := by
  have current : (s.arrived .spit).service.current = some a := hc
  rw [Work.reached, current]
  simp only [hg, ha]
  exact Work.goPark_away (by simp [State.arrived]) (by simp [State.arrived])

theorem wipe_arrives {s : State} {a : CurrentAction} (hpin : s.mode.resetPin = false)
    (hm : s.service.motion = some .spit) (hc : s.service.current = some a) (hg : a.stage = .outbound)
    (ha : a.action = .wipe) :
    ∃ t, Completes (.sledArrival .spit) s t ∧ t.service.sled = .standing .spit
      ∧ t.service.motion = some .park ∧ t.service.wiper = false
      ∧ t.service.current = some { a with stage := .inbound } ∧ SameLedgers s t := by
  have current : s.wiped.service.current = some { a with stage := .inbound } := by
    simp [State.wiped, Work.setStage, State.arrived, hc]
  refine ⟨_, completes_body rfl hpin, ?_⟩
  rw [body_sledArrival_commanded hm, State.arrived_wipes hc hg ha]
  obtain ⟨q, k, service⟩ := Work.finish_busy current
  rw [service]
  exact ⟨rfl, rfl, rfl, current, Work.finish_sameLedgers rfl rfl rfl rfl rfl rfl⟩

/-! ### Arrivals that complete the action (R96, R97, R106, R120) -/

/-- The action in progress ended on an arrival, before it leaves its sequence. -/
def State.ended (s : State) (p : SledPlace) : Work := (s.arrived p).endAction

/-- An arrival inbound, and one outbound of an action that is a motion alone, completes the action. -/
theorem State.arrived_completes {s : State} {p : SledPlace} {a : CurrentAction} (hc : s.service.current = some a)
    (h : a.stage = .inbound
      ∨ a.stage = .outbound ∧ (a.action = .home ∨ a.action = .uncap ∨ a.action = .cap)) :
    (s.arrived p).reached = (s.arrived p).complete := by
  have current : (s.arrived p).service.current = some a := hc
  rw [Work.reached, current]
  obtain hg | ⟨hg, ha | ha | ha⟩ := h
  · simp only [hg]
  all_goals simp only [hg, ha]

section
variable {s : State} {p : SledPlace} {a : CurrentAction} (hc : s.service.current = some a)
include hc

theorem State.complete_home (ha : a.action = .home) : (s.arrived p).complete = (s.ended p).setCapped false := by
  have current : (s.arrived p).service.current = some a := hc
  simp only [Work.complete, current, ha, State.ended]

theorem State.complete_uncapped (ha : a.action = .uncap ∨ a.action = .wipe) :
    (s.arrived p).complete = (s.ended p).popStack.setCapped false := by
  have current : (s.arrived p).service.current = some a := hc
  obtain ha | ha := ha <;> simp only [Work.complete, current, ha, State.ended]

theorem State.complete_capped (ha : a.action = .cap) :
    (s.arrived p).complete = (s.ended p).popStack.setCapped true := by
  have current : (s.arrived p).service.current = some a := hc
  simp only [Work.complete, current, ha, State.ended]

theorem State.complete_gapSpit (ha : a.action = .gapSpit) :
    (s.arrived p).complete = ((s.ended p).popStack.setCapped false).spitDone a := by
  have current : (s.arrived p).service.current = some a := hc
  simp only [Work.complete, current, ha, State.ended]

end

/-- With the sled standing where the action leaves it, the head stays capped or uncapped as the action left it. -/
theorem Work.SledStands.finish {b : Bool} {p : SledPlace} {w : Work} (h : w.SledStands p) (hp : p ≠ flipPlace b)
    (hb : w.service.capped = b) : w.finish.service.sled = .standing p ∧ w.finish.service.capped = b :=
  ⟨Work.finish_sledStands h, Work.finish_capped (h.capStands hp hb)⟩

theorem Work.setCapped_pointer (w : Work) (b : Bool) : (w.setCapped b).keepWet.pointer = w.keepWet.pointer := by
  unfold Work.setCapped
  dsimp only
  split <;> rfl

/-- With nothing pending and the completed action the one of the one sequence, no action follows it where none is
needed to uncap. -/
theorem State.onlyAction_ends {s : State} {p : SledPlace} {b : Bool} (honly : s.onlyAction)
    (hu : ((s.ended p).popStack.setCapped b).uncapNeeded = false) :
    ((s.ended p).popStack.setCapped b).finish.service.current = none
      ∧ ((s.ended p).popStack.setCapped b).finish.service.timeLeft = none
      ∧ ((s.ended p).popStack.setCapped b).finish.service.stack = [] := by
  obtain ⟨pending, q, stack, one⟩ := honly
  obtain ⟨act, acts⟩ := List.length_eq_one_iff.1 one
  have emptied : ((s.ended p).popStack.setCapped b).service.stack = [] := by
    change popAction s.service.stack = []
    rw [stack, popAction, acts]
    rfl
  have quiet : ∀ src, ((s.ended p).popStack.setCapped b).service.pending.get src = false := fun src => by
    change s.service.pending.get src = false
    rw [pending]
    cases src <;> rfl
  obtain ⟨k, service⟩ := Work.finish_idle (w := (s.ended p).popStack.setCapped b) rfl rfl rfl rfl hu quiet emptied
  rw [service]
  exact ⟨rfl, rfl, emptied⟩

/-- At PARK and uncapped there is nothing to uncap (R109). -/
theorem State.ended_park_uncapped (s : State) : ((s.ended .park).popStack.setCapped false).uncapNeeded = false := by
  simp [State.uncapNeeded, State.sledAway, State.ended, State.arrived, Work.endAction, Work.popStack]

/-- With no sheet in progress there is no need to uncap (R109). -/
theorem State.ended_noSheet {s : State} (h : s.sheetInProgress = false) (p : SledPlace) (b : Bool) :
    ((s.ended p).popStack.setCapped b).uncapNeeded = false := by
  have none : ((s.ended p).popStack.setCapped b).sheetInProgress = false := h
  simp [State.uncapNeeded, none]

/-- A completion at PARK that hands nothing on. -/
theorem parked_plain {s : State} {a : CurrentAction} (hc : s.service.current = some a)
    (ha : a.action = .home ∨ a.action = .uncap ∨ a.action = .wipe) :
    (s.arrived .park).complete.finish.service.sled = .standing .park
      ∧ (s.arrived .park).complete.finish.service.capped = false
      ∧ SameLedgers s (s.arrived .park).complete.finish
      ∧ (s.arrived .park).complete.finish.keepWet.pointer = s.keepWet.pointer := by
  obtain ha | ha := ha
  · rw [State.complete_home hc ha]
    obtain ⟨sled, capped⟩ := Work.SledStands.finish (b := false) (p := .park) (w := (s.ended .park).setCapped false)
      ⟨rfl, rfl⟩ (by decide) rfl
    refine ⟨sled, capped, Work.finish_sameLedgers rfl rfl rfl rfl rfl rfl, ?_⟩
    rw [Work.finish_pointer, Work.setCapped_pointer]
    rfl
  · rw [State.complete_uncapped hc ha]
    obtain ⟨sled, capped⟩ := Work.SledStands.finish (b := false) (p := .park)
      (w := (s.ended .park).popStack.setCapped false) ⟨rfl, rfl⟩ (by decide) rfl
    refine ⟨sled, capped, Work.finish_sameLedgers rfl rfl rfl rfl rfl rfl, ?_⟩
    rw [Work.finish_pointer, Work.setCapped_pointer]
    rfl

/-- A GAP SPIT's completion at PARK, with its deductions (R97, R120). -/
theorem parked_gapSpit {s : State} {a : CurrentAction} (hc : s.service.current = some a)
    (ha : a.action = .gapSpit) :
    (s.arrived .park).complete.finish.service.sled = .standing .park
      ∧ (s.arrived .park).complete.finish.service.capped = false
      ∧ (s.arrived .park).complete.finish.mode = s.mode
      ∧ (s.arrived .park).complete.finish.keepWet.pointer = (a.block + 1) % 48
      ∧ ∀ c, DeductsVolume s (s.arrived .park).complete.finish .spit c (a.volumes.get c) := by
  rw [State.complete_gapSpit hc ha]
  have stands : (((s.ended .park).popStack.setCapped false).spitDone a).SledStands .park := by
    obtain ⟨-, -, -, service, -⟩ := ((s.ended .park).popStack.setCapped false).spitDone_frame a
    rw [Work.SledStands, service]
    exact ⟨rfl, rfl⟩
  obtain ⟨sled, capped⟩ := stands.finish (b := false) (by decide) (by simp)
  refine ⟨sled, capped, by simp [State.ended, State.arrived, Work.endAction, Work.popStack, Work.setCapped], ?_,
    Work.spitDone_deducts (s := s) (w := (s.ended .park).popStack.setCapped false) rfl rfl rfl a⟩
  rw [Work.finish_pointer]
  rfl

/-- Settles O56, a clause for each motion: the departure, the arrivals at an action's work, a WIPE's, and those that
complete an action. -/
theorem sledMotionsAreFollowed : Obligations.SledMotionsAreFollowed := by
  intro s p a hpin hm hc
  refine ⟨departure_taken hpin hm hc, fun hg ha => ?_, fun hg ha hp => ?_, fun hp h => ?_, fun hp hg ha => ?_⟩
  · exact arrival_asks hpin hm hc hg (ha.imp And.left (Or.imp And.left And.left))
  · subst hp
    exact wipe_arrives hpin hm hc hg ha
  · subst hp
    refine ⟨_, completes_body rfl hpin, ?_⟩
    rw [body_sledArrival_commanded hm, State.arrived_completes hc (by tauto)]
    by_cases hspit : a.action = .gapSpit
    · obtain ⟨sled, capped, mode, pointer, deducts⟩ := parked_gapSpit hc hspit
      exact ⟨sled, capped, mode, fun other => absurd hspit other, fun _ => ⟨pointer, deducts⟩,
        fun other => by simp [hspit] at other⟩
    · have plain : a.action = .home ∨ a.action = .uncap ∨ a.action = .wipe := by tauto
      obtain ⟨sled, capped, ledgers, pointer⟩ := parked_plain hc plain
      have ⟨_, _, _, mode⟩ := ledgers
      refine ⟨sled, capped, mode, fun _ => ⟨ledgers, pointer⟩, fun spit => absurd spit hspit, fun popped honly => ?_⟩
      rw [State.complete_uncapped hc popped]
      exact State.onlyAction_ends honly s.ended_park_uncapped
  · subst hp
    refine ⟨_, completes_body rfl hpin, ?_⟩
    rw [body_sledArrival_commanded hm, State.arrived_completes hc (.inr ⟨hg, .inr (.inr ha)⟩),
      State.complete_capped hc ha]
    obtain ⟨sled, capped⟩ := Work.SledStands.finish (b := true) (p := .cap)
      (w := (s.ended .cap).popStack.setCapped true) ⟨rfl, rfl⟩ (by decide) rfl
    exact ⟨sled, capped, Work.finish_sameLedgers rfl rfl rfl rfl rfl rfl,
      fun honly noSheet => State.onlyAction_ends honly (State.ended_noSheet noSheet .cap true)⟩

end Sys2Proof.Machine
end

section
/-! SUPPORT. The in-service stack: which operations leave it as it was (R91, R106). -/

namespace Sys2Proof.Machine

/-! ### Requests (R102, R144, R145) -/

@[simp] theorem Work.request_stack (w : Work) (src : Source) :
    (w.request src).service.stack = w.service.stack := rfl

@[simp] theorem Work.withdraw_stack (w : Work) (src : Source) :
    (w.withdraw src).service.stack = w.service.stack := rfl

@[simp] theorem Work.setCapped_stack (w : Work) (b : Bool) :
    (w.setCapped b).service.stack = w.service.stack := rfl

@[simp] theorem Work.raiseRecovery_stack (w : Work) : w.raiseRecovery.service.stack = w.service.stack := by
  unfold Work.raiseRecovery
  split <;> rfl

@[simp] theorem Work.withdrawRecovery_stack (w : Work) : w.withdrawRecovery.service.stack = w.service.stack := by
  unfold Work.withdrawRecovery
  split <;> rfl

@[simp] theorem Work.screenRecovery_stack (w : Work) : w.screenRecovery.service.stack = w.service.stack := by
  simp [Work.screenRecovery, Work.putLadders]

@[simp] theorem Work.marksChanged_stack (w : Work) (c : Channel) (x : RefillChannel) :
    (w.marksChanged c x).service.stack = w.service.stack := by
  simp only [Work.marksChanged]
  split <;> simp

@[simp] theorem Work.setActive_stack (w : Work) (l : List FaultCode) :
    (w.setActive l).service.stack = w.service.stack := by
  obtain ⟨p, service, -⟩ := w.setActive_rescreened l
  rw [service]

@[simp] theorem Work.raiseCapIdle_stack (w : Work) : w.raiseCapIdle.service.stack = w.service.stack := by
  unfold Work.raiseCapIdle
  split <;> rfl

/-! ### Refill and CLEAR (R32 to R39) -/

@[simp] theorem Work.countPulse_stack (w : Work) (c : Channel) :
    (w.countPulse c).service.stack = w.service.stack := by
  simp only [Work.countPulse]
  (repeat' split) <;> simp

@[simp] theorem Work.windowEnd_stack (w : Work) (c : Channel) (f : FlowWindow) :
    (w.windowEnd c f).service.stack = w.service.stack := by
  simp only [Work.windowEnd]
  split <;> simp

/-- A run of the tests of R145 over the channels. -/
theorem Work.marksChangedAll_stack (t : PerChannel RefillChannel) (w : Work) :
    (Channel.all.foldl (fun v c => v.marksChanged c (t.get c)) w).service.stack = w.service.stack :=
  foldl_keeps _ (fun v : Work => v.service.stack) (fun _ _ => by simp) _ _

@[simp] theorem Work.clearStarved_stack (w : Work) (set : ChannelSet) :
    (w.clearStarved set).service.stack = w.service.stack := Work.marksChangedAll_stack _ _

@[simp] theorem Work.clearLocked_stack (w : Work) : w.clearLocked.service.stack = w.service.stack :=
  Work.marksChangedAll_stack _ _

@[simp] theorem Work.takeClear_stack (w : Work) (ref : Nat) (faults : Bool) (ladders starved : ChannelSet) :
    (w.takeClear ref faults ladders starved).service.stack = w.service.stack := by
  simp only [Work.takeClear, Work.clearParts, Work.clearLadders, Work.putLadders, Work.clearFaultsPart]
  (repeat' split) <;> simp

/-! ### Sheets and steps (R53, R69, R75, R108) -/

@[simp] theorem Work.setUnder_stack (w : Work) (b : Bool) : (w.setUnder b).service.stack = w.service.stack := by
  simp only [Work.setUnder]
  (repeat' split) <;> simp

@[simp] theorem Work.setPhase_stack (w : Work) (p : Phase) : (w.setPhase p).service.stack = w.service.stack := by
  simp only [Work.setPhase, Work.phaseEffects]
  (repeat' split) <;> simp

@[simp] theorem Work.positionEvent_stack (w : Work) : w.positionEvent.service.stack = w.service.stack := by
  have tests : ∀ v : Work, v.underTest.leaveTest.service.stack = v.service.stack := fun v => by
    simp only [Work.leaveTest, Work.underTest]
    (repeat' split) <;> simp
  simp only [Work.positionEvent]
  split <;> simp [tests]

@[simp] theorem Work.takeSheet_stack (w : Work) (r : SheetRecord) :
    (w.takeSheet r).service.stack = w.service.stack := by
  simp only [Work.takeSheet]
  (repeat' split) <;> simp

@[simp] theorem Work.takeAbort_stack (w : Work) : w.takeAbort.service.stack = w.service.stack := by
  simp [Work.takeAbort, Work.removeSheetStops]

@[simp] theorem Work.takeLeading_stack (w : Work) : w.takeLeading.service.stack = w.service.stack := by
  simp [Work.takeLeading]

@[simp] theorem Work.takeTrailing_stack (w : Work) : w.takeTrailing.service.stack = w.service.stack := by
  simp [Work.takeTrailing]

/-! ### Orders, expiries, the link, START (R111, R117, R182, R196) -/

@[simp] theorem Work.takeService_stack (w : Work) (ref : Nat) (a : Action) (fits : Bool) :
    (w.takeService ref a fits).service.stack = w.service.stack := by
  simp only [Work.takeService]
  (repeat' split) <;> simp

@[simp] theorem Work.expiry_stack (w : Work) : w.expiry.service.stack = w.service.stack := by
  simp only [Work.expiry, Work.missedExpiry]
  (repeat' split) <;> simp

@[simp] theorem Work.loseController_stack (w : Work) : w.loseController.service.stack = w.service.stack := by
  simp only [Work.loseController]
  split <;> simp

@[simp] theorem Work.hearBeacon_stack (w : Work) (stopping : Bool) :
    (w.hearBeacon stopping).service.stack = w.service.stack := by
  simp only [Work.hearBeacon]
  (repeat' split) <;> simp

@[simp] theorem Work.takeStart_stack (w : Work) : w.takeStart.service.stack = w.service.stack := by
  have ink : w.startedInk.service = w.enterRun.service :=
    foldl_keeps _ (fun v : Work => v.service) (fun _ _ => by simp) _ _
  have keepWet : ∀ v : Work, v.startKeepWet.service.stack = v.service.stack := fun v => by
    simp only [Work.startKeepWet]
    split <;> simp
  have controller : ∀ v : Work, v.controllerTest.service.stack = v.service.stack := fun v => by
    unfold Work.controllerTest
    split <;> simp
  simp [Work.takeStart_eq, Work.startLink_eq, Work.startBlocks, Work.startNozzle, Work.statusTest_facts, keepWet,
    controller, ink, Work.enterRun]

/-! ### The answers of the sled and of the head driver, and failure (R94, R96, R100) -/

@[simp] theorem Work.commandSled_stack (w : Work) (p : SledPlace) :
    (w.commandSled p).service.stack = w.service.stack := by
  unfold Work.commandSled
  split <;> rfl

@[simp] theorem Work.checkDone_stack (w : Work) (a : CurrentAction) (groups : List Nat) (ended : Option Sequence) :
    (w.checkDone a groups ended).service.stack = w.service.stack := by
  simp only [Work.checkDone, Work.checkEvent, Work.forcedDone]
  (repeat' split) <;> simp

@[simp] theorem Work.takeResult_stack (w : Work) (number g : Nat) (missed : List Nat) :
    (w.takeResult number g missed).service.stack = w.service.stack := by
  unfold Work.takeResult
  (repeat' split) <;> rfl

@[simp] theorem Work.fail_stack (w : Work) : w.fail.service.stack = w.service.stack := by
  simp only [Work.fail]
  split <;> simp <;> rfl

/-- Every command but the answers of the sled and of the head driver leaves the stack. -/
theorem body_stack {i : Instr} (w : Work) (hs : ∀ p, i ≠ .sledArrival p) (hd : ∀ n, i ≠ .headDone n) :
    (body i w).service.stack = w.service.stack := by
  cases i
  case sledArrival p => exact absurd rfl (hs p)
  case headDone n => exact absurd rfl (hd n)
  all_goals
    simp only [body]
  any_goals
    (repeat' split) <;> simp

end Sys2Proof.Machine
end

section
/-! PROOFS. The level numbers of the in-service stack fall strictly towards its top at every step. -/

namespace Sys2Proof.Machine

/-! ### A completed action and the routes (R96, R106) -/

/-- The stack of `w` is that of `v`, or that of `v` with an action or a whole sequence gone: as levels, a part of
it. -/
def Work.Drops (v w : Work) : Prop :=
  (w.service.stack.map Sequence.level).Sublist (v.service.stack.map Sequence.level)

theorem Work.Drops.of_eq {v w : Work} (h : w.service.stack = v.service.stack) : v.Drops w := by
  rw [Work.Drops, h]

theorem Work.Drops.trans {u v w : Work} (h : u.Drops v) (k : v.Drops w) : u.Drops w := List.Sublist.trans k h

theorem State.stackFalls_iff (s : State) :
    s.stackFalls ↔ (s.service.stack.map Sequence.level).Pairwise (· < ·) := List.pairwise_map.symm

theorem Work.Drops.stackFalls {v w : Work} (h : v.Drops w) (hv : v.stackFalls) : w.stackFalls := by
  rw [State.stackFalls_iff] at *
  exact hv.sublist h

theorem popAction_levels (l : List Sequence) :
    ((popAction l).map Sequence.level).Sublist (l.map Sequence.level) := by
  unfold popAction
  split
  · exact .refl _
  · split
    · exact List.sublist_cons_self ..
    · exact .refl _

theorem Work.popStack_drops (w : Work) : w.Drops w.popStack := popAction_levels _

theorem Work.complete_drops (w : Work) : w.Drops w.complete := by
  have popped : ∀ v : Work, v.service.stack = w.endAction.popStack.service.stack → w.Drops v := fun v hv =>
    (Work.popStack_drops w.endAction).trans (.of_eq hv)
  simp only [Work.complete]
  split
  · exact .of_eq rfl
  · split
    case h_1 => exact .of_eq rfl
    all_goals exact popped _ (by simp)

theorem Work.goPark_drops (w : Work) : w.Drops w.goPark := by
  have sent : w.Drops ((w.setStage .inbound).commandSled .park) := .of_eq (Work.commandSled_stack _ _)
  simp only [Work.goPark]
  split
  · exact sent.trans (Work.complete_drops _)
  · exact sent

theorem Work.reached_drops (w : Work) : w.Drops w.reached := by
  obtain e | e | e | ⟨k, e⟩ := w.reached_cases <;> rw [e]
  · exact .of_eq rfl
  · exact w.complete_drops
  · exact Work.goPark_drops _
  · exact .of_eq rfl

theorem Work.headAnswered_drops (w : Work) : w.Drops w.headAnswered := by
  obtain e | e | e := w.headAnswered_cases <;> rw [e]
  · exact .of_eq rfl
  · exact Work.goPark_drops _
  · exact Work.complete_drops _

theorem Work.firstLeg_drops (w : Work) (p : SledPlace) : w.Drops (w.firstLeg p) := by
  have sent : w.Drops (w.commandSled p) := .of_eq (w.commandSled_stack p)
  simp only [Work.firstLeg]
  split
  · exact sent.trans (Work.reached_drops _)
  · exact sent

theorem Work.startAction_drops (w : Work) (a : Action) : w.Drops (w.startAction a) := by
  have launched : w.Drops (w.launch a) := .of_eq rfl
  cases a
  case sheetSpit => exact .of_eq rfl
  all_goals exact launched.trans (Work.firstLeg_drops _ _)

/-- A body takes from the stack at most. -/
theorem body_drops (i : Instr) (w : Work) : w.Drops (body i w) := by
  cases i
  case sledArrival p =>
    simp only [body]
    split
    · exact .trans (.of_eq rfl) (Work.reached_drops _)
    · exact .of_eq rfl
  case headDone n =>
    simp only [body]
    (repeat' split)
    · exact w.headAnswered_drops
    all_goals exact .of_eq rfl
  all_goals exact .of_eq (body_stack w nofun nofun)

/-! ### The choice (R104, R105) -/

/-- One request more in the choice of R105: it is taken over the best so far where its level is lower. -/
def State.choose (s : State) (best : Option Source) (src : Source) : Option Source :=
  if s.eligible src then
    match best with
    | none => some src
    | some b => if s.sourceLevel src < s.sourceLevel b then some src else some b
  else best

theorem State.chosenSource_eq (s : State) : s.chosenSource = Source.all.foldl s.choose none := rfl

theorem State.choose_off {s : State} {src : Source} (h : s.eligible src = false) (best : Option Source) :
    s.choose best src = best := if_neg (by simp [h])

theorem State.choose_first {s : State} {src : Source} (h : s.eligible src = true) : s.choose none src = some src :=
  if_pos h

theorem State.choose_next {s : State} {src : Source} (h : s.eligible src = true) (b : Source) :
    s.choose (some b) src = if s.sourceLevel src < s.sourceLevel b then some src else some b := if_pos h

/-- What the choice among a list of sources has found: none only where none is eligible, and otherwise an eligible
one that stands before every other. -/
def State.Chosen (s : State) (l : List Source) : Option Source → Prop
  | none => ∀ o ∈ l, s.eligible o = false
  | some x => x ∈ l ∧ s.eligible x = true ∧ ∀ o ∈ l, s.eligible o = true → s.choosesBefore x o

/-- One source more, behind those looked at in source order. -/
theorem State.Chosen.choose {s : State} {l : List Source} {best : Option Source} (h : s.Chosen l best) {src : Source}
    (behind : ∀ o ∈ l, Source.all.idxOf o ≤ Source.all.idxOf src) : s.Chosen (l ++ [src]) (s.choose best src) := by
  have itself : s.choosesBefore src src := .inr ⟨rfl, le_rfl⟩
  cases he : s.eligible src
  · rw [State.choose_off he]
    cases best with
    | none => simpa [State.Chosen, or_imp, forall_and, he] using h
    | some b =>
      obtain ⟨mem, eligible, first⟩ := h
      exact ⟨List.mem_append_left _ mem, eligible, by simpa [or_imp, forall_and, he] using first⟩
  · cases best with
    | none =>
      rw [State.choose_first he]
      refine ⟨by simp, he, fun o ho eligible => ?_⟩
      rcases List.mem_append.1 ho with ho | ho
      · simp [h o ho] at eligible
      · rwa [List.mem_singleton.1 ho]
    | some b =>
      obtain ⟨mem, eligible, first⟩ := h
      rw [State.choose_next he]
      split
      · rename_i lower
        refine ⟨by simp, he, fun o ho eligible => ?_⟩
        rcases List.mem_append.1 ho with ho | ho
        · refine .inl (lower.trans_le ?_)
          exact (first o ho eligible).elim le_of_lt fun k => k.1.le
        · rwa [List.mem_singleton.1 ho]
      · rename_i notLower
        refine ⟨List.mem_append_left _ mem, eligible, fun o ho eligible => ?_⟩
        rcases List.mem_append.1 ho with ho | ho
        · exact first o ho eligible
        · rw [List.mem_singleton.1 ho]
          exact (Nat.lt_or_eq_of_le (Nat.le_of_not_lt notLower)).imp id fun same => ⟨same, behind b mem⟩

theorem State.chosen_chosenSource (s : State) : s.Chosen Source.all s.chosenSource := by
  have run : ∀ l : List Source, l.Pairwise (fun a b => Source.all.idxOf a ≤ Source.all.idxOf b) →
      s.Chosen l (l.foldl s.choose none) := fun l => by
    induction l using List.reverseRecOn with
    | nil => exact fun _ => nofun
    | append_singleton l src ih =>
      intro ordered
      obtain ⟨ordered, -, behind⟩ := List.pairwise_append.1 ordered
      rw [List.foldl_concat]
      exact (ih ordered).choose fun o ho => behind o ho src (by simp)
  exact run _ (by decide)

theorem Source.mem_all (o : Source) : o ∈ Source.all := by cases o <;> decide

/-- The choice falls on an eligible request that stands before every other one (R105). -/
theorem State.chosenSource_some {s : State} {src : Source} (h : s.chosenSource = some src) :
    s.eligible src = true ∧ ∀ o, s.eligible o = true → s.choosesBefore src o := by
  have chosen := s.chosen_chosenSource
  rw [h] at chosen
  obtain ⟨-, eligible, first⟩ := chosen
  exact ⟨eligible, fun o ho => first o (Source.mem_all o) ho⟩

/-- With nothing chosen nothing is eligible. -/
theorem State.chosenSource_none {s : State} (h : s.chosenSource = none) (o : Source) : s.eligible o = false := by
  have chosen := s.chosen_chosenSource
  rw [h] at chosen
  exact chosen o (Source.mem_all o)

theorem Work.requestStarted_stack (w : Work) (src : Source) (ch : Option Channel) :
    (w.requestStarted src ch).service.stack = w.service.stack := by
  unfold Work.requestStarted
  split <;> simp

/-- An eligible request is of a level below that of the top of the stack, so that its sequence goes above it. -/
theorem Work.push_stackFalls {w : Work} {src : Source} (h : w.stackFalls) (he : w.eligible src = true)
    (acts : List Action) (ch : Option Channel) : (w.push src acts ch).stackFalls := by
  refine List.pairwise_cons.2 ⟨fun q hq => ?_, h⟩
  simp only [State.eligible, Bool.and_eq_true] at he
  obtain ⟨⟨-, top⟩, -⟩ := he
  cases hs : w.service.stack with
  | nil => simp [hs] at hq
  | cons q' qs =>
    have falls : w.service.stack.Pairwise fun a b => a.level < b.level := h
    simp only [hs, decide_eq_true_eq, List.mem_cons, List.pairwise_cons] at top hq falls
    rcases hq with rfl | hq
    · exact top
    · exact top.trans (falls.1 q hq)

theorem Work.beginSource_stackFalls {w : Work} {src : Source} (h : w.stackFalls) (he : w.eligible src = true) :
    (w.beginSource src).stackFalls := by
  simp only [Work.beginSource]
  split
  · exact h
  · rename_i a acts _
    split
    · exact (w.startAction_drops _).stackFalls h
    · generalize (if src = .recovery then w.recoveryChannel else none) = ch
      have started : (w.push src (a :: acts) ch).Drops ((w.push src (a :: acts) ch).requestStarted src ch) :=
        .of_eq (Work.requestStarted_stack ..)
      exact (started.trans (Work.startAction_drops _ a)).stackFalls (Work.push_stackFalls h he _ _)

theorem Work.beginTop_drops (w : Work) (a : Action) : w.Drops (w.beginTop a) := by
  unfold Work.beginTop
  split <;> exact w.startAction_drops _

theorem Work.arbitrate_stackFalls (n : Nat) {w : Work} (h : w.stackFalls) : (Work.arbitrate n w).stackFalls := by
  induction n generalizing w with
  | zero => exact h
  | succ n ih =>
    have asked : (if w.uncapNeeded then w.request .uncapNeed else w).stackFalls := by split <;> exact h
    simp only [Work.arbitrate]
    generalize (if w.uncapNeeded then w.request .uncapNeed else w) = v at asked ⊢
    split
    · exact asked
    · have screened : (if v.service.pending.get .recovery then v.screenRecovery else v).stackFalls := by
        split
        · exact (Work.Drops.of_eq v.screenRecovery_stack).stackFalls asked
        · exact asked
      generalize (if v.service.pending.get .recovery then v.screenRecovery else v) = u at screened ⊢
      split
      · exact ih (Work.beginSource_stackFalls screened (State.chosenSource_some ‹_›).1)
      · split
        · exact ih ((u.beginTop_drops _).stackFalls screened)
        · exact screened

theorem Work.finish_stackFalls {w : Work} (h : w.stackFalls) : w.finish.stackFalls := by
  obtain ⟨p, guarded, -⟩ := w.guarded_rescreened
  have before : w.overfillTests.faultStage.coverStage.guardStage.stackFalls :=
    (Work.Drops.of_eq (v := w) (by rw [guarded])).stackFalls h
  have chosen : w.chosen.stackFalls := by
    unfold Work.chosen
    generalize w.overfillTests.faultStage.coverStage.guardStage = v at before ⊢
    have arbitrated := Work.arbitrate_stackFalls 16 before
    simp only [Work.arbiterStage]
    generalize Work.arbitrate 16 v = u at arbitrated ⊢
    (repeat' split)
    · exact arbitrated
    · exact arbitrated
    · exact before
  obtain ⟨-, -, service, -, -⟩ := w.finish_chosen
  rwa [State.stackFalls, service]

/-! ### Every step -/

/-- Settles O10: a body takes from the stack at most, power-on and RESTART empty it, and the arbiter enters a
sequence of an eligible request alone, whose level is below that of the top. -/
theorem stepKeepsTheStackFalling : Obligations.StepKeepsTheStackFalling := by
  intro s t h hstep
  obtain rfl | ⟨l, rfl⟩ | ⟨l, n, p, pin, rfl⟩ | ⟨l, ref, straps, rfl⟩ | ⟨l, i, -, rfl⟩ := step_cases hstep
  · unfold State.tick
    split <;> exact h
  · exact h
  · exact List.Pairwise.nil
  · exact Work.finish_stackFalls List.Pairwise.nil
  · exact Work.finish_stackFalls ((body_drops i (Work.begin { s with pending := l })).stackFalls h)

end Sys2Proof.Machine
end

section
/-! SUPPORT. The arbiter's boundary at the end of an event: where no action may start it raises UNCAP-NEED at most
(R101, R104, R109). -/

namespace Sys2Proof.Machine

/-- With an action in progress, the arbiter stopped or the station outside RUN, nothing starts. -/
theorem Work.arbitrate_stands {w : Work} (h : w.mayStart = false) (n : Nat) :
    Work.arbitrate n w = w ∨ Work.arbitrate n w = w.request .uncapNeed := by
  cases n with
  | zero => exact .inl rfl
  | succ n =>
    have asked : (w.request .uncapNeed).mayStart = false := h
    cases hu : w.uncapNeeded <;> simp [Work.arbitrate, hu, h, asked]

theorem Work.request_pending {w : Work} {o src : Source} (h : w.service.pending.get src = true) :
    (w.request o).service.pending.get src = true := by
  rw [Work.request, PerSource.get_set]
  split
  · rfl
  · exact h

/-- Nothing has started: of the service unit pending flags and the cap idle count may differ. -/
theorem Work.arbiterStage_stands {w : Work} (h : w.mayStart = false) :
    ∃ p k, w.arbiterStage.service = { w.service with pending := p, capIdle := k }
      ∧ w.arbiterStage.keepWet = w.keepWet
      ∧ ∀ src, w.service.pending.get src = true → p.get src = true := by
  have asked : ∀ src, w.service.pending.get src = true → (w.request .uncapNeed).service.pending.get src = true :=
    fun src => Work.request_pending
  simp only [Work.arbiterStage]
  rcases Work.arbitrate_stands h 16 with e | e <;> rw [e] <;> (repeat' split)
  · exact ⟨_, _, rfl, rfl, fun _ => id⟩
  · exact ⟨_, _, rfl, rfl, fun _ => id⟩
  · exact ⟨_, _, rfl, rfl, fun _ => id⟩
  · exact ⟨_, _, rfl, rfl, asked⟩
  · exact ⟨_, _, rfl, rfl, asked⟩
  · exact ⟨_, _, rfl, rfl, fun _ => id⟩

theorem State.mayStart_congr {s t : State} (hm : t.mode = s.mode) (hs : t.service.stopped = s.service.stopped)
    (hc : t.service.current = s.service.current) : t.mayStart = s.mayStart := by
  simp [State.mayStart, State.inRun, hm, hs, hc]

/-- An event that leaves its body where no action may start leaves the service unit, but for requests and the cap idle
count, and the keep-wet unit. -/
theorem Work.finish_stands {w : Work} (h : w.mayStart = false) :
    ∃ p k, w.finish.service = { w.service with pending := p, capIdle := k } ∧ w.finish.keepWet = w.keepWet := by
  obtain ⟨p, guarded, -⟩ := w.guarded_rescreened
  obtain ⟨q, k, stage, keepWet, -⟩ := Work.arbiterStage_stands
    (w := w.overfillTests.faultStage.coverStage.guardStage)
    ((State.mayStart_congr (by simp) (by rw [guarded]) (by rw [guarded])).trans h)
  obtain ⟨-, keepWetEnd, service, -, -⟩ := w.finish_chosen
  refine ⟨q, k, by rw [service, Work.chosen, stage, guarded], ?_⟩
  rw [keepWetEnd, Work.chosen, keepWet]
  simp

/-- An event that moves no ink and raises nothing comes to the arbiter as its body left it. -/
theorem Work.finish_service {w : Work} (hi : w.ink = w.pre.ink) (hr : w.raised = []) (hc : w.cover = false)
    (hg : w.guardDue = false) : w.finish.service = w.arbiterStage.service := by
  obtain ⟨-, -, service, -, -⟩ := w.finish_chosen
  rw [service, Work.chosen, Work.overfillTests_same hi, Work.faultStage_none hr, Work.coverStage_off hc,
    Work.guardStage_off hg]

/-- No operation of the arbiter moves a cap idle count that stands at 0. -/
theorem arbiterClosed_capIdle : ArbiterClosed fun w => w.service.capIdle = 0 where
  request h := h
  screen {w} h := by
    obtain ⟨⟨p, service, -⟩, -⟩ := w.screenRecovery_rescreened False
    rw [service]
    exact h
  push {w src acts ch} h _ _ _ := by
    unfold Work.requestStarted Work.raiseRecovery
    (repeat' split) <;> exact h
  launch h _ _ := h
  hold h _ := h
  command {w p} h := by
    unfold Work.commandSled
    split <;> exact h
  stage h := h
  head h := h
  wiper h := h
  ended h _ := h
  pop h := h
  capped h _ := h
  idle _ := rfl

end Sys2Proof.Machine
end

section
/-! PROOFS. SERVICE orders: taken, waiting, or refused; and SET MASK. -/

namespace Sys2Proof.Machine

/-! ### The tests of R111 -/

theorem Channel.ofNum_eq_some (n : Nat) (c : Channel) : Channel.ofNum n = some c ↔ n = c.num := by
  constructor
  · intro h
    unfold Channel.ofNum at h
    split at h <;> cases h <;> rfl
  · rintro rfl
    cases c <;> rfl

/-- The channel that a group number names is enabled. -/
def State.groupEnabled (s : State) (g : Nat) : Bool := (Channel.ofNum (g / Config.groupsPerChannel)).any s.enabled

theorem State.checkListFits_def (s : State) (groups : List Nat) :
    s.checkListFits groups
      = (decide (1 ≤ groups.length) && decide (groups.length ≤ 16) && groups.all s.groupEnabled) := by
  unfold State.checkListFits
  congr 2
  funext g
  unfold State.groupEnabled
  cases Channel.ofNum (g / Config.groupsPerChannel) <;> rfl

theorem State.groupEnabled_iff (s : State) (g : Nat) :
    s.groupEnabled g = true ↔ g ≤ 575 ∧ ∃ c, s.enabled c = true ∧ g / 96 = c.num := by
  have small : ∀ c : Channel, c.num ≤ 5 := fun c => by cases c <;> decide
  have named : ∀ c, Channel.ofNum (g / Config.groupsPerChannel) = some c ↔ g / 96 = c.num := Channel.ofNum_eq_some _
  unfold State.groupEnabled
  cases hc : Channel.ofNum (g / Config.groupsPerChannel) with
  | none =>
    have none : ∀ c : Channel, g / 96 ≠ c.num := fun c h => by simp [(named c).2 h] at hc
    simp [none]
  | some d =>
    have hd := (named d).1 hc
    refine ⟨fun on => ⟨?_, d, on, hd⟩, ?_⟩
    · have := small d
      omega
    · rintro ⟨-, c, on, hg⟩
      obtain rfl : d = c := Option.some.inj (hc.symm.trans ((named c).2 hg))
      exact on

/-- The range test of the order as R111 puts it. -/
theorem State.checkListFits_eq (s : State) (ref : Nat) (groups : List Nat) :
    s.checkListFits groups = s.serviceFits (.serviceCheck ref groups) := by
  rw [Bool.eq_iff_iff]
  simp only [State.checkListFits_def, State.serviceFits, Bool.and_eq_true, List.all_eq_true, decide_eq_true_eq,
    List.any_eq_true]
  refine and_congr_right fun _ => forall₂_congr fun g _ => (s.groupEnabled_iff g).trans ?_
  simp [Channel.mem_all]

/-- A SERVICE order comes to the arbiter with the range test of R111. -/
theorem body_service {c : Instr} {s : State} {ref : Nat} {a : Action} (h : serviceRequest c = some (ref, a))
    (hr : s.mode.mode = .run) :
    special c = false ∧ body c (Work.begin s) = (Work.begin s).takeService ref a (s.serviceFits c) := by
  have inRun : s.inRun = true := by simp [State.inRun, hr]
  cases c <;> simp only [serviceRequest, Option.some.injEq, Prod.mk.injEq, reduceCtorEq] at h <;>
    obtain ⟨rfl, rfl⟩ := h <;> refine ⟨rfl, (if_pos inRun).trans ?_⟩
  case serviceCheck ref groups => exact congrArg _ (s.checkListFits_eq ref groups)
  all_goals rfl

/-! ### An order taken -/

/-- The order entered at the arbiter, pending (R102, R111). -/
def State.ordered (s : State) (ref : Nat) (a : Action) : Work :=
  (({ Work.begin s with service := { s.service with order := some a } } : Work).request .order).outcome .service ref
    .accepted

theorem Work.takeService_taken {s : State} {a : Action} (ref : Nat) (h : s.orderInHand = false) :
    (Work.begin s).takeService ref a true = s.ordered ref a :=
  (if_neg (by simp [h])).trans (if_neg (by simp))

theorem Work.takeService_busy {s : State} {a : Action} (ref : Nat) (fits : Bool) (h : s.orderInHand = true) :
    (Work.begin s).takeService ref a fits = (Work.begin s).outcome .service ref .refusedBusy := if_pos h

theorem Work.takeService_range {s : State} {a : Action} (ref : Nat) (h : s.orderInHand = false) :
    (Work.begin s).takeService ref a false = (Work.begin s).outcome .service ref .refusedRange :=
  (if_neg (by simp [h])).trans (if_pos rfl)

/-- An order to the arbiter that is ACCEPTED moves no ledger and raises no fault. -/
theorem Work.finish_accepted {s : State} {w : Work} {ref : Nat} (hi : w.ink = s.ink) (ht : w.tally = s.tally)
    (hb : w.bands = s.bands) (hm : w.mode = s.mode) (hf : w.faults = s.faults) (hp : w.pre = s) (hr : w.raised = [])
    (hc : w.cover = false) (hg : w.guardDue = false)
    (ho : w.link.outcome = some { kind := .service, ref := ref, code := .accepted }) :
    w.finish.shows .service ref .accepted ∧ SameLedgers s w.finish ∧ w.finish.faults = s.faults := by
  obtain ⟨-, -, -, -, -, -, -, -, -, -, outcome, -⟩ := w.finish_link
  exact ⟨outcome.trans ho, Work.finish_sameLedgers hi ht hb hm hc hg,
    (Work.finish_faults_stand (by rw [hi, hp]) hr).trans hf⟩

theorem State.ordered_waits {s : State} (h : s.mayStart = false) (ref : Nat) (a : Action) :
    let t := (s.ordered ref a).finish
    t.service.pending.order = true ∧ t.service.order = some a ∧ t.service.stack = s.service.stack
      ∧ t.service.current = s.service.current := by
  obtain ⟨p, k, stage, -, kept⟩ := Work.arbiterStage_stands (w := s.ordered ref a) h
  dsimp only
  rw [Work.finish_service rfl rfl rfl rfl, stage]
  exact ⟨kept .order rfl, rfl, rfl, rfl⟩

/-! ### SET MASK -/

/-- The mask level taken, at a boundary (R103). -/
def State.masked (s : State) (ref level : Nat) : Work :=
  ({ Work.begin s with service := { s.service with mask := level }, boundary := true } : Work).outcome .service ref
    .accepted

theorem body_setMask_taken {s : State} {ref level : Nat} (hr : s.mode.mode = .run) (h : level ≤ 7) :
    body (.setMask ref level) (Work.begin s) = s.masked ref level :=
  (if_pos (by simp [State.inRun, hr])).trans (if_neg (by omega))

theorem body_setMask_range {s : State} {ref level : Nat} (hr : s.mode.mode = .run) (h : 7 < level) :
    body (.setMask ref level) (Work.begin s) = (Work.begin s).outcome .service ref .refusedRange :=
  (if_pos (by simp [State.inRun, hr])).trans (if_pos h)

theorem completes_setMask {s : State} {ref level : Nat} (hr : s.running) (h : level ≤ 7) :
    Completes (.setMask ref level) s (s.masked ref level).finish := by
  obtain ⟨hpin, hrun⟩ := hr
  rw [← body_setMask_taken hrun h]
  exact completes_body rfl hpin

/-! ### The statement -/

/-- Settles O30: the tests of R111 as the meanings make them, and what the order entered calls for. -/
theorem serviceOrderIsTakenOrRefused : Obligations.ServiceOrderIsTakenOrRefused := by
  refine ⟨fun c s ref a hreq ⟨hpin, hrun⟩ hand fits => ?_, fun c s ref a hreq ⟨hpin, hrun⟩ => ?_,
    fun s ref level hr => ⟨fun h => ?_, fun h => ?_⟩⟩
  · obtain ⟨plain, taken⟩ := body_service hreq hrun
    rw [fits, Work.takeService_taken ref hand] at taken
    have done := completes_body plain hpin
    rw [taken] at done
    obtain ⟨shows, ledgers, faults⟩ := Work.finish_accepted (s := s) (w := s.ordered ref a) rfl rfl rfl rfl rfl rfl rfl
      rfl rfl rfl
    exact ⟨_, done, shows, ledgers, faults, fun waits => State.ordered_waits waits ref a⟩
  · obtain ⟨plain, came⟩ := body_service hreq hrun
    refine ⟨fun hand => ?_, fun hand fits => ?_⟩
    · exact completes_outcome plain hpin (came.trans (Work.takeService_busy ref _ hand))
    · rw [fits] at came
      exact completes_outcome plain hpin (came.trans (Work.takeService_range ref hand))
  · obtain ⟨shows, ledgers, faults⟩ := Work.finish_accepted (s := s) (w := s.masked ref level) rfl rfl rfl rfl rfl rfl
      rfl rfl rfl rfl
    exact ⟨_, completes_setMask hr h, Work.finish_mask _, shows, ledgers, faults⟩
  · obtain ⟨hpin, hrun⟩ := hr
    exact completes_outcome rfl hpin (body_setMask_range hrun h)

end Sys2Proof.Machine
end

section
/-! PROOFS. The timers of the service arbiter: an action whose time is up, and the cap idle count at its end. -/

namespace Sys2Proof.Machine

/-! ### Failure (R100, R101) -/

theorem Work.releaseRefill_service (w : Work) : w.releaseRefill.service = w.service := by
  unfold Work.releaseRefill
  split <;> rfl

/-- What a failure leaves of the service unit: no action, motion or head request, the sled UNKNOWN, and the arbiter
stopped. -/
theorem Work.fail_service (w : Work) :
    w.fail.service = { w.service with
      current := none, timeLeft := none, head := none, motion := none, sled := .unknown, stopped := true } := by
  simp only [Work.fail]
  split
  · exact Work.releaseRefill_service _
  · rfl

theorem Work.fail_raised (w : Work) :
    w.fail.raised = w.raised ++ [{ code := .serviceTimeout, detail := .none }] := by
  simp only [Work.fail]
  split <;> simp <;> rfl

theorem actionTimeout_fails {s : State} {a : CurrentAction} (hpin : s.mode.resetPin = false)
    (hc : s.service.current = some a) (ht : s.service.timeLeft = some 0) :
    Completes .actionTimeout s (Work.begin s).fail.finish := by
  have fails : body .actionTimeout (Work.begin s) = (Work.begin s).fail := if_pos ⟨by simp [hc], ht⟩
  rw [← fails]
  exact completes_body rfl hpin

/-! ### The cap idle count (R110) -/

/-- CAP-IDLE raised with its count back at 0. -/
def State.capIdled (s : State) : Work :=
  ({ Work.begin s with service := { s.service with capIdle := 0 } } : Work).request .capIdle

theorem completes_capIdleExpiry {s : State} (hpin : s.mode.resetPin = false) (hi : s.idleUncapped = true)
    (ht : s.sec3.capIdleTime ≤ s.service.capIdle) : Completes .capIdleExpiry s s.capIdled.finish := by
  have raised : body .capIdleExpiry (Work.begin s) = s.capIdled := if_pos ⟨hi, ht⟩
  rw [← raised]
  exact completes_body rfl hpin

/-! ### The statement -/

/-- Settles O58: a failure stops the arbiter, so that nothing starts at the boundary it makes; and no operation of the
arbiter moves the cap idle count from 0. -/
theorem serviceTimersAct : Obligations.ServiceTimersAct := by
  refine ⟨fun s a hpin hc ht => ⟨_, actionTimeout_fails hpin hc ht, ?_⟩,
    fun s hpin hi ht => ⟨_, completes_capIdleExpiry hpin hi ht, ?_, ?_, fun stopped => ?_⟩⟩
  · have service := (Work.begin s).fail_service
    have stopped : (Work.begin s).fail.mayStart = false := by simp [State.mayStart, service]
    obtain ⟨p, k, stands, keepWet⟩ := Work.finish_stands stopped
    obtain ⟨active, drive⟩ := Work.finish_stops (w := (Work.begin s).fail)
      (r := { code := .serviceTimeout, detail := .none }) (by simp [Work.fail_raised]) rfl
    rw [stands, service]
    exact ⟨rfl, rfl, rfl, rfl, rfl, rfl, rfl, rfl, active, drive, keepWet.trans (by simp),
      Work.finish_sameLedgers (by simp) (by simp) (by simp) (by simp) (by simp) (by simp)⟩
  · rw [Work.finish_service rfl rfl rfl rfl]
    exact arbiterClosed_capIdle.arbiterStage rfl
  · exact Work.finish_sameLedgers rfl rfl rfl rfl rfl rfl
  · obtain ⟨p, k, stage, -, kept⟩ := Work.arbiterStage_stands (w := s.capIdled)
      (by simp [State.mayStart, State.capIdled, Work.request, stopped])
    rw [Work.finish_service rfl rfl rfl rfl, stage]
    exact kept .capIdle rfl

end Sys2Proof.Machine
end

section
/-! SUPPORT. What the statements say of the arbiter's choice as the conditions that the model reads: the needs of an
action, the sequence of a request with the tests of R144, UNCAP-NEED, and eligibility (R93, R96, R102, R104, R109). -/

namespace Sys2Proof.Machine

/-! ### The needs of an action (R93, R96) -/

theorem State.sheetClear_iff (s : State) :
    s.sheetClear = true ↔ s.feed.underSegment = false
      ∧ (s.feed.phase = .active ∨ s.feed.phase = .trailing → ∀ p ∈ s.feed.capture,
          s.feed.commanded < p + s.sec2.sensorDistance) := by
  rw [← State.sheetAtSensor_iff]
  unfold State.sheetClear State.sheetBase
  cases s.feed.capture <;> cases s.sheetAtSensor <;> simp

theorem State.purgeInked_iff (s : State) (heavy : Bool) (set : ChannelSet) :
    s.purgeInked heavy set = true ↔ ∀ c, set.get c = true → s.enabled c = true ∧ (s.ink.get c).state = .known
      ∧ (if heavy then (s.settingsOf c).heavyPurge else (s.settingsOf c).lightPurge)
          + (s.settingsOf c).reserve ≤ (s.ink.get c).estimate := by
  simp only [State.purgeInked, State.inkTest, List.all_eq_true, Channel.mem_all, true_implies, Bool.or_eq_true,
    Bool.not_eq_true', Bool.and_eq_true, decide_eq_true_eq, and_assoc]
  exact forall_congr' fun c => by cases set.get c <;> simp [State.purgeVolume]

theorem State.needsHold_iff (s : State) (a : Action) : s.needsHold a = true ↔ s.mayBegin a := by
  cases a
  case sheetSpit =>
    simp only [State.needsHold, State.mayBegin, State.sheetSpitAllowed, Bool.and_eq_true, decide_eq_true_eq, and_assoc]
    cases s.feed.sheet <;> simp
  case purge =>
    simp only [State.needsHold, State.mayBegin, Bool.and_eq_true, State.sheetClear_iff, State.purgeInked_iff, and_assoc]
  all_goals simp only [State.needsHold, State.mayBegin, State.sheetClear_iff, and_true]

theorem State.mayBegin_congr {s t : State} (hf : t.feed = s.feed) (hs : t.service.sled = s.service.sled)
    (hm : t.mode = s.mode) (hi : t.ink = s.ink) (ht : t.tally = s.tally) (a : Action) :
    t.mayBegin a ↔ s.mayBegin a := by
  unfold State.mayBegin State.sec2 State.enabled State.settingsOf
  rw [hf, hs, hm, hi, ht]

/-! ### UNCAP-NEED (R109) -/

theorem State.uncapNeeded_iff (s : State) : s.uncapNeeded = true ↔ s.wantsUncap := by
  have active : s.inActiveSet = true ↔ ∃ r ∈ s.feed.sheet, r.active.get s.mode.station = true := by
    unfold State.inActiveSet
    cases s.feed.sheet <;> simp
  simp only [State.uncapNeeded, Bool.and_eq_true, Bool.or_eq_true, active, State.sheetInProgress_iff,
    State.sledAway_iff, State.inRun, decide_eq_true_eq, Option.isNone_iff_eq_none, List.isEmpty_iff, and_assoc]

/-! ### The tests of R144 -/

theorem State.ladderHasFailed_iff (s : State) (l : Ladder) :
    s.ladderHasFailed l = true ↔ ∃ f ∈ s.nozzle.failed, f.channel.num * 96 + f.nozzle / 64 ∈ l.affected := by
  have entry : ∀ f : FailedNozzle, f.channel.num * Config.groupsPerChannel + f.nozzle / Config.groupNozzles
      = f.channel.num * 96 + f.nozzle / 64 := fun _ => rfl
  simp only [State.ladderHasFailed, State.groupHasFailed, List.any_eq_true, decide_eq_true_eq, entry]
  exact ⟨fun ⟨_, hg, f, hf, h⟩ => ⟨f, hf, h ▸ hg⟩, fun ⟨f, hf, h⟩ => ⟨_, h, f, hf, rfl⟩⟩

theorem State.offersRecovery_eq (s : State) (c : Channel) : s.offersRecovery c = s.recoverable c := by
  have failed := s.ladderHasFailed_iff (s.nozzle.ladders.get c)
  rw [Bool.eq_iff_iff]
  simp only [State.offersRecovery, State.recoverable, Ladder.due, State.refillMarked, Bool.and_eq_true, failed,
    List.any_eq_true, decide_eq_true_eq, Bool.or_eq_true, Bool.not_eq_true', Bool.and_eq_false_iff,
    Bool.or_eq_false_iff, decide_eq_false_iff_not, Nat.not_le, Nat.lt_succ_iff]

/-- A channel passes the tests of R144 where they leave its ladder due, and then they leave it as it was. -/
theorem State.screenedLadder_due (s : State) (c : Channel) : (s.screenedLadder c).due = s.recoverable c := by
  simp only [State.screenedLadder, State.recoverable]
  cases hd : (s.nozzle.ladders.get c).due
  · simp [hd]
  cases hf : s.ladderHasFailed (s.nozzle.ladders.get c)
  · simp [Ladder.due]
  cases hm : decide (3 ≤ (s.nozzle.ladders.get c).level) && s.refillMarked c
  · simp [hd]
  · simp [Ladder.due]

theorem State.screenedLadder_kept {s : State} {c : Channel} (h : s.recoverable c = true) :
    s.screenedLadder c = s.nozzle.ladders.get c := by
  simp only [State.recoverable, Bool.and_eq_true, Bool.not_eq_true'] at h
  obtain ⟨⟨due, failed⟩, unmarked⟩ := h
  simp [State.screenedLadder, due, failed, unmarked]

theorem State.ladderHasFailed_congr {s t : State} (h : t.nozzle.failed = s.nozzle.failed) (l : Ladder) :
    t.ladderHasFailed l = s.ladderHasFailed l := by
  rw [Bool.eq_iff_iff, State.ladderHasFailed_iff, State.ladderHasFailed_iff, h]

/-- The tests of R144 once more change nothing. -/
theorem State.recoverable_screened {s t : State} (hl : ∀ c, t.nozzle.ladders.get c = s.screenedLadder c)
    (hf : t.nozzle.failed = s.nozzle.failed) (hr : t.refill = s.refill) (c : Channel) :
    t.recoverable c = s.recoverable c := by
  have due := s.screenedLadder_due c
  cases h : s.recoverable c
  · have undue : (t.nozzle.ladders.get c).due = false := by rw [hl, due, h]
    simp [State.recoverable, undue]
  · rw [← h]
    simp only [State.recoverable, State.refillMarked, hl, State.screenedLadder_kept h, State.ladderHasFailed_congr hf,
      hr]

/-- The sequence of a request, with the channel that a RECOVERY serves (R102, R144). -/
theorem State.sequenceOf_eq (s : State) (src : Source) :
    s.sequenceOf src = (s.requestActions src, if src = .recovery then s.recoveryChannel else none) := by
  cases src
  case order => cases h : s.service.order <;> simp [State.sequenceOf, State.requestActions, h]
  case recovery =>
    have same : s.offersRecovery = s.recoverable := funext s.offersRecovery_eq
    simp only [State.sequenceOf, State.requestActions, State.recoveryChannel, same, if_true]
    cases hc : Channel.all.find? s.recoverable with
    | none => rfl
    | some c =>
      refine Prod.ext ?_ rfl
      dsimp only
      unfold ladderActions
      split <;> simp_all
  all_goals rfl

/-! ### Eligibility (R104) -/

/-- Eligibility with no action in progress and the arbiter not stopped. -/
theorem State.eligible_iff {s : State} (hr : s.mode.mode = .run) (hs : s.service.stopped = false) (src : Source) :
    s.eligible src = true ↔ s.mayChoose src := by
  have level : s.sec3.levels.get src = s.sourceLevel src := rfl
  have inRun : s.inRun = true := by simp [State.inRun, hr]
  rw [State.mayChoose, State.sequenceOf_eq, level]
  unfold State.eligible
  rw [hs, inRun]
  cases s.service.stack <;> cases s.requestActions src <;> simp [State.needsHold_iff, and_assoc]

end Sys2Proof.Machine
end

section
/-! SUPPORT. How an action starts at the arbiter's boundary, and the boundary itself (R95, R96, R105). -/

namespace Sys2Proof.Machine

/-! ### An action under way (R95, R96) -/

/-- Of an action under way the route goes on: the action itself, its time limit, the stack and the requests stand. -/
def Work.Underway (v w : Work) : Prop :=
  w.service.current.map CurrentAction.action = v.service.current.map CurrentAction.action
    ∧ w.service.timeLeft = v.service.timeLeft ∧ w.service.stack = v.service.stack
    ∧ w.service.pending = v.service.pending

theorem Work.Underway.trans {u v w : Work} (h : u.Underway v) (k : v.Underway w) : u.Underway w := by
  obtain ⟨h1, h2, h3, h4⟩ := h
  obtain ⟨k1, k2, k3, k4⟩ := k
  exact ⟨k1.trans h1, k2.trans h2, k3.trans h3, k4.trans h4⟩

theorem Work.commandSled_underway (w : Work) (p : SledPlace) : w.Underway (w.commandSled p) := by
  unfold Work.commandSled
  split <;> exact ⟨rfl, rfl, rfl, rfl⟩

theorem Work.setStage_underway (w : Work) (g : Stage) : w.Underway (w.setStage g) := by
  refine ⟨?_, rfl, rfl, rfl⟩
  rw [Work.setStage_current]
  cases w.service.current <;> rfl

theorem Work.sendHead_underway (w : Work) (k : HeadKind) : w.Underway (w.sendHead k) :=
  .trans ⟨rfl, rfl, rfl, rfl⟩ (Work.setStage_underway _ _)

theorem Work.goPark_underway {w : Work} (h : w.sledThere .park = false) : w.Underway w.goPark := by
  simp only [Work.goPark, h, Bool.false_eq_true, if_false]
  exact (w.setStage_underway _).trans (Work.commandSled_underway _ _)

theorem Work.SledStands.there {p q : SledPlace} {w : Work} (h : w.SledStands p) :
    w.sledThere q = true ↔ q = p := by
  obtain ⟨sled, closed⟩ := h
  simp [State.sledThere, sled, closed, eq_comm]

/-- The sled away from the first target: the leg only begins. -/
theorem Work.firstLeg_away {w : Work} {q : SledPlace} (h : w.sledThere q = false) :
    w.firstLeg q = w.commandSled q := if_neg (by simp [h])

/-- The first leg from a sled that stands, toward a place where the action does not end at once. -/
theorem Work.firstLeg_underway {w : Work} {p q : SledPlace} {b : CurrentAction} (h : w.SledStands p)
    (hc : w.service.current = some b) (hg : b.stage = .outbound)
    (hend : q = p → b.action ≠ .home ∧ b.action ≠ .uncap ∧ b.action ≠ .cap) (hw : b.action = .wipe → q ≠ .park) :
    w.Underway (w.firstLeg q) := by
  cases there : w.sledThere q
  · rw [Work.firstLeg_away there]
    exact w.commandSled_underway q
  obtain rfl := h.there.1 there
  obtain ⟨noHome, noUncap, noCap⟩ := hend rfl
  have stands : (w.commandSled q).SledStands q := (arbiterClosed_sledStands q).command h
  have current : (w.commandSled q).service.current = some b := by simp [hc]
  rw [Work.firstLeg, if_pos there]
  refine (w.commandSled_underway q).trans ?_
  unfold Work.reached
  rw [current]
  dsimp only
  rw [hg]
  cases ha : b.action <;> dsimp only
  case home => exact absurd ha noHome
  case uncap => exact absurd ha noUncap
  case cap => exact absurd ha noCap
  case sheetSpit => exact ⟨rfl, rfl, rfl, rfl⟩
  case wipe =>
    have away : (w.commandSled q).sledThere .park = false := by
      rw [Bool.eq_false_iff, Ne, stands.there]
      exact fun e => hw ha e.symm
    exact .trans ⟨rfl, rfl, rfl, rfl⟩
      (Work.goPark_underway (w := { w.commandSled q with service := { (w.commandSled q).service with wiper := false } })
        away)
  case gapSpit | check | purge => exact Work.sendHead_underway _ _

/-- An action started from a sled that stands is in progress, unless it ends where the sled stands. -/
theorem Work.startAction_underway {w : Work} {p : SledPlace} {a : Action} (h : w.SledStands p)
    (hpark : a = .uncap ∨ a = .home → p ≠ .park) (hcap : a = .cap → p ≠ .cap) :
    (w.launch a).Underway (w.startAction a) := by
  have stands : (w.launch a).SledStands p := h
  cases a
  case sheetSpit => exact Work.sendHead_underway _ _
  case home => exact Work.firstLeg_underway stands rfl rfl (fun e => absurd e.symm (hpark (by simp))) nofun
  case uncap => exact Work.firstLeg_underway stands rfl rfl (fun e => absurd e.symm (hpark (by simp))) nofun
  case cap => exact Work.firstLeg_underway stands rfl rfl (fun e => absurd e.symm (hcap rfl)) nofun
  case wipe => exact Work.firstLeg_underway stands rfl rfl (fun _ => ⟨nofun, nofun, nofun⟩) nofun
  case purge heavy set =>
    have held : ((w.launch (.purge heavy set)).holdRefill).SledStands p := stands
    exact Work.firstLeg_underway held rfl rfl (fun _ => ⟨nofun, nofun, nofun⟩) nofun
  case gapSpit | check => exact Work.firstLeg_underway stands rfl rfl (fun _ => ⟨nofun, nofun, nofun⟩) nofun

/-- HOME from a sled that is nowhere (R95). -/
theorem Work.startHome_underway {w : Work} (h : w.sledThere .park = false) :
    (w.launch .home).Underway (w.startAction .home) := by
  have leg : w.startAction .home = (w.launch .home).commandSled .park := Work.firstLeg_away h
  rw [leg]
  exact Work.commandSled_underway _ _

/-! ### The boundary (R104, R105, R109) -/

/-- The station at a boundary with UNCAP-NEED raised where R109 asks for it. -/
def Work.asked (w : Work) : Work := if w.uncapNeeded then w.request .uncapNeed else w

/-- The station as the choice finds it, the tests of R144 made on a pending RECOVERY. -/
def Work.polled (w : Work) : Work :=
  if w.asked.service.pending.get .recovery then w.asked.screenRecovery else w.asked

theorem Work.asked_mayStart (w : Work) : w.asked.mayStart = w.mayStart := by
  unfold Work.asked
  split <;> rfl

theorem Work.arbitrate_chosen {w : Work} {src : Source} (h : w.mayStart = true) (hc : w.polled.chosenSource = some src)
    (n : Nat) : Work.arbitrate (n + 1) w = Work.arbitrate n (w.polled.beginSource src) := by
  rw [← w.asked_mayStart] at h
  unfold Work.polled at *
  unfold Work.asked at *
  simp only [Work.arbitrate, h, hc, Bool.not_true, Bool.false_eq_true, if_false]

theorem Work.arbitrate_top {w : Work} {a : Action} (h : w.mayStart = true) (hc : w.polled.chosenSource = none)
    (ht : w.polled.topReady = some a) (n : Nat) :
    Work.arbitrate (n + 1) w = Work.arbitrate n (w.polled.beginTop a) := by
  rw [← w.asked_mayStart] at h
  unfold Work.polled at *
  unfold Work.asked at *
  simp only [Work.arbitrate, h, hc, ht, Bool.not_true, Bool.false_eq_true, if_false]

theorem Work.arbitrate_rests {w : Work} (h : w.mayStart = true) (hc : w.polled.chosenSource = none)
    (ht : w.polled.topReady = none) (n : Nat) : Work.arbitrate (n + 1) w = w.polled := by
  rw [← w.asked_mayStart] at h
  unfold Work.polled at *
  unfold Work.asked at *
  simp only [Work.arbitrate, h, hc, ht, Bool.not_true, Bool.false_eq_true, if_false]

/-- With the arbiter stopped the boundary raises UNCAP-NEED alone. -/
theorem Work.arbitrate_asked {w : Work} (h : w.mayStart = false) (n : Nat) :
    Work.arbitrate (n + 1) w = w.asked := by
  rw [← w.asked_mayStart] at h
  unfold Work.asked at *
  simp only [Work.arbitrate, h, Bool.not_false, if_true]

theorem Work.asked_stands (w : Work) :
    ∃ p, w.asked.toState = { w.toState with service := { w.service with pending := p } }
      ∧ ∀ o, o ≠ .uncapNeed → p.get o = w.service.pending.get o := by
  unfold Work.asked
  split
  · exact ⟨_, rfl, fun o ho => by simp [PerSource.get_set, ho]⟩
  · exact ⟨_, rfl, fun _ _ => rfl⟩

/-- What the choice finds of the station: but for requests and the ladders, the station at the boundary. -/
theorem Work.polled_stands (w : Work) :
    ∃ p l, w.polled.toState = { w.toState with
      service := { w.service with pending := p }, nozzle := { w.nozzle with ladders := l } }
      ∧ (∀ o, o ≠ .recovery → p.get o = w.asked.service.pending.get o)
      ∧ (p.get .recovery = true → w.asked.service.pending.get .recovery = true) := by
  obtain ⟨p, asked, -⟩ := w.asked_stands
  unfold Work.polled
  split
  · rename_i pending
    simp only [Work.screenRecovery, Work.putLadders, Work.withdrawRecovery]
    split
    · refine ⟨w.asked.service.pending.set .recovery false, PerChannel.gen w.asked.screenedLadder, ?_,
        fun o ho => by simp [PerSource.get_set, ho], fun _ => pending⟩
      simp only [Work.withdraw, asked]
    · refine ⟨p, PerChannel.gen w.asked.screenedLadder, ?_, ?_, fun _ => pending⟩
      · simp only [asked]
      · simp [asked]
  · refine ⟨p, w.nozzle.ladders, asked, ?_, ?_⟩ <;> simp [asked]

/-! ### RECOVERY at the boundary (R144, R145) -/

theorem Work.screenRecovery_recoverable (w : Work) (c : Channel) : w.screenRecovery.recoverable c = w.recoverable c :=
  State.recoverable_screened (fun c => by simp [Work.screenRecovery, Work.putLadders])
    (by simp [Work.screenRecovery, Work.putLadders]) (by simp) c

theorem Work.screenRecovery_channel (w : Work) : w.screenRecovery.recoveryChannel = w.recoveryChannel := by
  have same : w.screenRecovery.recoverable = w.recoverable := funext w.screenRecovery_recoverable
  simp only [State.recoveryChannel, same]

/-- A RECOVERY runs the sequence that it would have run before the tests. -/
theorem Work.screenRecovery_actions (w : Work) :
    w.screenRecovery.requestActions .recovery = w.requestActions .recovery := by
  simp only [State.requestActions, w.screenRecovery_channel]
  cases hc : w.recoveryChannel with
  | none => rfl
  | some c =>
    have kept : w.screenRecovery.nozzle.ladders.get c = w.nozzle.ladders.get c := by
      rw [← State.screenedLadder_kept (List.find?_some hc)]
      simp [Work.screenRecovery, Work.putLadders]
    simp only [kept]

/-- A pending RECOVERY that some channel passes the tests for is not withdrawn. -/
theorem Work.screenRecovery_pending {w : Work} {c : Channel} (hb : w.nozzle.blocked = false)
    (hc : w.recoverable c = true) : w.screenRecovery.service = w.service := by
  have due : Channel.all.any (fun d => (w.screenedLadder d).due) = true :=
    List.any_eq_true.2 ⟨c, Channel.mem_all c, by rw [State.screenedLadder_due, hc]⟩
  simp [Work.screenRecovery, Work.putLadders, Work.withdrawRecovery, State.someDue, hb, due]

/-- The sequences that the choice finds are those of the boundary, a RECOVERY's where it is still pending. -/
theorem Work.polled_sequenceOf (w : Work) {o : Source}
    (h : o = .recovery → w.asked.service.pending.get .recovery = true) :
    w.polled.sequenceOf o = w.sequenceOf o := by
  have asked : ∀ o, w.asked.sequenceOf o = w.sequenceOf o := fun o => by
    unfold Work.asked
    split <;> cases o <;> rfl
  by_cases ho : o = .recovery
  · subst ho
    rw [← asked, Work.polled, if_pos (h rfl), State.sequenceOf_eq, State.sequenceOf_eq,
      Work.screenRecovery_actions, Work.screenRecovery_channel]
  · obtain ⟨p, l, stands, -⟩ := w.polled_stands
    rw [stands]
    cases o
    case recovery => exact absurd rfl ho
    all_goals rfl

/-! ### The choice at the boundary (R104, R105) -/

theorem State.mayChoose_congr {s t : State} {o : Source}
    (hs : ∃ p, t.service = { s.service with pending := p } ∧ p.get o = s.service.pending.get o)
    (hq : t.sequenceOf o = s.sequenceOf o) (hm : t.mode = s.mode) (hf : t.feed = s.feed) (hi : t.ink = s.ink)
    (ht : t.tally = s.tally) : t.mayChoose o ↔ s.mayChoose o := by
  obtain ⟨p, service, pending⟩ := hs
  have begins := State.mayBegin_congr hf (by rw [service]) hm hi ht
  simp only [State.mayChoose, hq, begins, service, pending, State.sec3, hm]

/-- What is eligible once the tests of R144 are made may be chosen at the boundary, with RECOVERY not pending under
the block condition (R145). -/
theorem Work.polled_eligible {w : Work} (hr : w.mode.mode = .run) (hs : w.service.stopped = false)
    (hb : w.service.pending.get .recovery = true → w.nozzle.blocked = false) (o : Source) :
    w.polled.eligible o = true ↔ w.asked.mayChoose o := by
  obtain ⟨q, asked, kept⟩ := w.asked_stands
  obtain ⟨p, l, stands, other, recovery⟩ := w.polled_stands
  have askedRecovery : w.asked.service.pending.get .recovery = w.service.pending.get .recovery := by
    rw [asked]
    exact kept .recovery (by decide)
  have same : (o = .recovery → w.asked.service.pending.get .recovery = true) →
      w.polled.sequenceOf o = w.asked.sequenceOf o := fun h => by
    rw [w.polled_sequenceOf h, asked]
    cases o <;> rfl
  rw [State.eligible_iff (by rw [stands]; exact hr) (by rw [stands]; exact hs)]
  have choose : p.get o = w.asked.service.pending.get o →
      (o = .recovery → w.asked.service.pending.get .recovery = true) →
      (w.polled.mayChoose o ↔ w.asked.mayChoose o) := fun hp h =>
    State.mayChoose_congr ⟨p, by rw [stands, asked], hp⟩ (same h) (by rw [stands, asked]) (by rw [stands, asked])
      (by rw [stands, asked]) (by rw [stands, asked])
  by_cases ho : o = .recovery
  · subst ho
    cases pending : w.asked.service.pending.get .recovery
    · have unpolled : ¬ p.get .recovery = true := fun h => by simp [recovery h] at pending
      refine iff_of_false (fun h => unpolled ?_) (fun h => ?_)
      · rw [stands] at h
        exact h.1
      · simp [h.1] at pending
    · cases offered : w.asked.recoveryChannel with
      | none =>
        have idle : (w.asked.sequenceOf .recovery).1 = [] := by
          rw [State.sequenceOf_eq, State.requestActions, offered]
        refine iff_of_false (fun h => ?_) fun h => ?_
        · obtain ⟨-, -, -, a, first, -⟩ := h
          simp [same fun _ => pending, idle] at first
        · obtain ⟨-, -, -, a, first, -⟩ := h
          simp [idle] at first
      | some c =>
        refine choose ?_ fun _ => pending
        have unblocked : w.asked.nozzle.blocked = false := by
          rw [asked]
          exact hb (askedRecovery ▸ pending)
        have service := Work.screenRecovery_pending unblocked (List.find?_some offered)
        have polled : w.polled = w.asked.screenRecovery := if_pos pending
        rw [← service, ← polled, stands]
  · exact choose (other o ho) fun h => absurd h ho

/-- The source that stands before every other is the one chosen. -/
theorem State.choosesBefore_antisymm {s : State} {a b : Source} (h : s.choosesBefore a b) (k : s.choosesBefore b a) :
    a = b := by
  refine (List.idxOf_inj (Source.mem_all a)).1 ?_
  unfold State.choosesBefore at h k
  omega

/-- The choice falls on the source that may be chosen and stands before every other. -/
theorem State.chosenSource_eq_some {s : State} {src : Source} (h : s.eligible src = true)
    (first : ∀ o, s.eligible o = true → s.choosesBefore src o) : s.chosenSource = some src := by
  cases hc : s.chosenSource with
  | none => simp [State.chosenSource_none hc src] at h
  | some x =>
    obtain ⟨eligible, before⟩ := State.chosenSource_some hc
    rw [State.choosesBefore_antisymm (first x eligible) (before src h)]

theorem State.chosenSource_eq_none {s : State} (h : ∀ o, ¬ s.eligible o = true) : s.chosenSource = none := by
  cases hc : s.chosenSource with
  | none => rfl
  | some x => exact absurd (State.chosenSource_some hc).1 (h x)

end Sys2Proof.Machine
end

section
/-! PROOFS. The arbiter's choice at the boundary that a SET MASK makes, and a WIPE ordered alone. -/

namespace Sys2Proof.Machine

/-! ### A request and the top of the stack at their start (R95, R105) -/

theorem Work.beginSource_home {w : Work} {src : Source} {a : Action} {acts : List Action}
    (hq : w.requestActions src = a :: acts) (hh : w.homeFirst a = true) :
    w.beginSource src = w.startAction .home := by
  simp only [Work.beginSource, hq, hh, if_true]

theorem Work.beginSource_start {w : Work} {src : Source} {a : Action} {acts : List Action} {ch : Option Channel}
    (hq : w.sequenceOf src = (a :: acts, ch)) (hh : w.homeFirst a = false) :
    w.beginSource src = ((w.push src (a :: acts) ch).requestStarted src ch).startAction a := by
  rw [State.sequenceOf_eq, Prod.mk.injEq] at hq
  obtain ⟨actions, rfl⟩ := hq
  simp only [Work.beginSource, actions, hh, Bool.false_eq_true, if_false]

theorem Work.beginTop_start {w : Work} {a : Action} (hh : w.homeFirst a = false) : w.beginTop a = w.startAction a :=
  if_neg (by simp [hh])

/-- At its owner the start of a request touches the RECOVERY flag alone of the service unit (R145). -/
theorem Work.requestStarted_service (w : Work) (src : Source) (ch : Option Channel) :
    ∃ p, (w.requestStarted src ch).service = { w.service with pending := p }
      ∧ ∀ o, o ≠ .recovery → p.get o = w.service.pending.get o := by
  unfold Work.requestStarted Work.raiseRecovery
  (repeat' split)
  · exact ⟨_, rfl, fun o ho => by simp [PerSource.get_set, ho]⟩
  all_goals exact ⟨_, rfl, fun _ _ => rfl⟩

/-- A request whose first action does not end where the sled stands: its sequence is on the stack, its action under
way. -/
theorem Work.beginSource_starts {w : Work} {p : SledPlace} {src : Source} {a : Action} {acts : List Action}
    {ch : Option Channel} (h : w.SledStands p) (hq : w.sequenceOf src = (a :: acts, ch))
    (hpark : a = .uncap ∨ a = .home → p ≠ .park) (hcap : a = .cap → p ≠ .cap) :
    (w.beginSource src).service.current.map CurrentAction.action = some a
      ∧ (w.beginSource src).service.timeLeft = some (w.timeLimit a)
      ∧ (w.beginSource src).service.stack
        = { source := src, level := w.sec3.levels.get src, actions := a :: acts, channel := ch } :: w.service.stack
      ∧ ∀ o, o ≠ .recovery →
        (w.beginSource src).service.pending.get o = (w.service.pending.get o && decide (o ≠ src)) := by
  have sled : w.service.sled = .standing p := h.1
  rw [Work.beginSource_start hq (by simp [State.homeFirst, sled])]
  obtain ⟨q, started, other⟩ := (w.push src (a :: acts) ch).requestStarted_service src ch
  obtain ⟨-, -, -, -, -, -, mode, -⟩ := (w.push src (a :: acts) ch).requestStarted_frame src ch
  generalize (w.push src (a :: acts) ch).requestStarted src ch = v at started mode ⊢
  have stands : v.SledStands p := by
    rw [Work.SledStands, started]
    exact h
  obtain ⟨current, time, stack, pending⟩ := Work.startAction_underway stands hpark hcap
  refine ⟨current, time.trans ?_, stack.trans ?_, fun o ho => ?_⟩
  · change some (v.timeLimit a) = _
    unfold State.timeLimit State.sec3
    rw [mode]
    rfl
  · change v.service.stack = _
    rw [started]
    rfl
  · rw [pending]
    change v.service.pending.get o = _
    rw [started]
    refine (other o ho).trans ?_
    simp only [Work.push, PerSource.get_set]
    split <;> simp_all

/-! ### The boundary that a SET MASK makes (R103) -/

theorem Work.arbiterStage_boundary {w : Work} (h : w.boundary = true) :
    ∃ k, w.arbiterStage.service = { (Work.arbitrate 16 w).service with capIdle := k } := by
  simp only [Work.arbiterStage, h, Bool.true_or, if_true]
  split
  · exact ⟨_, rfl⟩
  · exact ⟨_, rfl⟩

section
variable {s : State} {ref level : Nat}

theorem setMask_ends (hr : s.running) (hl : level ≤ 7) :
    ∃ t k, Completes (.setMask ref level) s t
      ∧ t.service = { (Work.arbitrate 16 (s.masked ref level)).service with capIdle := k } := by
  obtain ⟨k, stage⟩ := Work.arbiterStage_boundary (w := s.masked ref level) rfl
  exact ⟨_, k, completes_setMask hr hl, (Work.finish_service rfl rfl rfl rfl).trans stage⟩

theorem State.masked_asked (s : State) (ref level : Nat) :
    (s.masked ref level).asked.service = (s.atMask level).service := by
  have wants : (s.masked ref level).uncapNeeded = true ↔ s.wantsUncap := s.uncapNeeded_iff
  unfold Work.asked State.atMask
  by_cases h : s.wantsUncap
  · simp only [if_pos (wants.2 h), if_pos h]
    rfl
  · simp only [if_neg (wants.not.2 h), if_neg h]
    rfl

theorem State.atMask_sequenceOf (s : State) (level : Nat) (o : Source) :
    (s.atMask level).sequenceOf o = s.sequenceOf o := by cases o <;> rfl

theorem State.masked_mayChoose (s : State) (ref level : Nat) (o : Source) :
    (s.masked ref level).asked.mayChoose o ↔ (s.atMask level).mayChoose o := by
  obtain ⟨p, asked, -⟩ := (s.masked ref level).asked_stands
  refine State.mayChoose_congr ⟨_, s.masked_asked ref level, rfl⟩ ?_ ?_ ?_ ?_ ?_ <;> rw [asked]
  · cases o <;> rfl
  all_goals rfl

/-- The station as the choice finds it after a SET MASK. -/
theorem State.masked_polled (s : State) (ref level : Nat) :
    ∃ p, (s.masked ref level).polled.service = { s.service with mask := level, pending := p }
      ∧ (s.masked ref level).polled.mode = s.mode ∧ (s.masked ref level).polled.feed = s.feed
      ∧ (s.masked ref level).polled.ink = s.ink ∧ (s.masked ref level).polled.tally = s.tally
      ∧ ∀ o, o ≠ .recovery → p.get o = (s.atMask level).service.pending.get o := by
  obtain ⟨p, l, stands, other, -⟩ := (s.masked ref level).polled_stands
  rw [State.masked_asked] at other
  rw [stands]
  exact ⟨p, rfl, rfl, rfl, rfl, rfl, other⟩

/-- An action may start at the boundary. -/
theorem State.masked_mayStart (hr : s.mode.mode = .run) (hc : s.service.current = none)
    (hs : s.service.stopped = false) : (s.masked ref level).mayStart = true := by
  have inRun : s.inRun = true := by simp [State.inRun, hr]
  change (s.inRun && !s.service.stopped && s.service.current.isNone) = true
  simp [inRun, hs, hc]

theorem State.masked_eligible (hr : s.mode.mode = .run) (hs : s.service.stopped = false) (hu : s.recoveryUnblocked)
    (o : Source) : (s.masked ref level).polled.eligible o = true ↔ (s.atMask level).mayChoose o :=
  (Work.polled_eligible (w := s.masked ref level) hr hs hu o).trans (s.masked_mayChoose ref level o)

/-- The request chosen, with its sequence. -/
theorem State.masked_chosen {src : Source} {q : List Action × Option Channel} (hr : s.mode.mode = .run)
    (hs : s.service.stopped = false) (hu : s.recoveryUnblocked) (choose : (s.atMask level).mayChoose src)
    (first : ∀ o, (s.atMask level).mayChoose o → s.choosesBefore src o) (hq : s.sequenceOf src = q) :
    (s.masked ref level).polled.chosenSource = some src ∧ (s.masked ref level).polled.sequenceOf src = q
      ∧ (s.masked ref level).polled.eligible src = true := by
  obtain ⟨p, -, mode, -⟩ := s.masked_polled ref level
  have eligible := State.masked_eligible (ref := ref) (level := level) hr hs hu
  refine ⟨State.chosenSource_eq_some ((eligible src).2 choose) fun o ho => ?_, ?_, (eligible src).2 choose⟩
  · rw [State.choosesBefore, State.sec3, mode]
    exact first o ((eligible o).1 ho)
  · rw [← hq, Work.polled_sequenceOf]
    · cases src <;> rfl
    · rintro rfl
      rw [State.masked_asked]
      exact choose.1

/-- With the stopped mark nothing starts (R101). -/
theorem setMask_stopped (hr : s.running) (hl : level ≤ 7) (hc : s.service.current = none)
    (hs : s.service.stopped = true) :
    ∃ t, Completes (.setMask ref level) s t ∧ t.service.current = none
      ∧ t.service.pending = (s.atMask level).service.pending ∧ t.service.stack = s.service.stack := by
  obtain ⟨t, k, done, service⟩ := setMask_ends (ref := ref) hr hl
  have stopped : (s.masked ref level).mayStart = false := by
    change (s.inRun && !s.service.stopped && s.service.current.isNone) = false
    simp [hs]
  rw [Work.arbitrate_asked stopped 15, State.masked_asked] at service
  exact ⟨t, done, by rw [service]; exact hc, by rw [service], by rw [service]; rfl⟩

/-- The request chosen starts its sequence (R105 step 1). -/
theorem setMask_begins {p : SledPlace} {src : Source} {a : Action} {acts : List Action} {ch : Option Channel}
    (hr : s.running) (hl : level ≤ 7) (hc : s.service.current = none) (hu : s.recoveryUnblocked)
    (hs : s.service.stopped = false) (sled : s.service.sled = .standing p) (closed : s.service.closed = some p)
    (choose : (s.atMask level).mayChoose src) (first : ∀ o, (s.atMask level).mayChoose o → s.choosesBefore src o)
    (hq : s.sequenceOf src = (a :: acts, ch)) (hpark : a = .uncap ∨ a = .home → p ≠ .park)
    (hcap : a = .cap → p ≠ .cap) :
    ∃ t, Completes (.setMask ref level) s t ∧ t.service.current.map CurrentAction.action = some a
      ∧ t.service.timeLeft = some (s.timeLimit a)
      ∧ t.service.stack
          = { source := src, level := s.sec3.levels.get src, actions := a :: acts, channel := ch } :: s.service.stack
      ∧ ∀ o, o ≠ .recovery →
        t.service.pending.get o = ((s.atMask level).service.pending.get o && decide (o ≠ src)) := by
  obtain ⟨t, k, done, service⟩ := setMask_ends (ref := ref) hr hl
  obtain ⟨-, hrun⟩ := hr
  obtain ⟨chosen, sequence, -⟩ := State.masked_chosen (ref := ref) hrun hs hu choose first hq
  obtain ⟨p', polled, mode, -, -, -, pending⟩ := s.masked_polled ref level
  obtain ⟨current, time, stack, kept⟩ := Work.beginSource_starts
    (w := (s.masked ref level).polled) (p := p) (by rw [Work.SledStands, polled]; exact ⟨sled, closed⟩) sequence hpark hcap
  obtain ⟨b, running, -⟩ := Option.map_eq_some_iff.1 current
  rw [Work.arbitrate_chosen (State.masked_mayStart hrun hc hs) chosen 15, Work.arbitrate_busy running] at service
  refine ⟨t, done, by rw [service]; exact current, ?_, ?_, fun o ho => ?_⟩
  · rw [service]
    refine time.trans ?_
    unfold State.timeLimit State.sec3
    rw [mode]
  · rw [service]
    refine stack.trans ?_
    rw [polled, State.sec3, mode]
    rfl
  · rw [service]
    refine (kept o ho).trans ?_
    rw [polled]
    exact congrArg (· && _) (pending o ho)

/-- With the sled UNKNOWN HOME starts first, the request still pending (R95). -/
theorem setMask_homes {src : Source} {a : Action} {acts : List Action} {ch : Option Channel}
    (hr : s.running) (hl : level ≤ 7) (hc : s.service.current = none) (hu : s.recoveryUnblocked)
    (hs : s.service.stopped = false) (sled : s.service.sled = .unknown) (closed : s.service.closed = none)
    (choose : (s.atMask level).mayChoose src) (first : ∀ o, (s.atMask level).mayChoose o → s.choosesBefore src o)
    (hq : s.sequenceOf src = (a :: acts, ch)) :
    ∃ t, Completes (.setMask ref level) s t ∧ t.service.current.map CurrentAction.action = some .home
      ∧ t.service.stack = s.service.stack ∧ t.service.pending.get src = true := by
  obtain ⟨t, k, done, service⟩ := setMask_ends (ref := ref) hr hl
  obtain ⟨-, hrun⟩ := hr
  obtain ⟨chosen, sequence, eligible⟩ := State.masked_chosen (ref := ref) hrun hs hu choose first hq
  obtain ⟨p, polled, mode, -⟩ := s.masked_polled ref level
  have away : (s.masked ref level).polled.sledThere .park = false := by
    simp [State.sledThere, polled, sled, closed]
  have moves : a.moves = true := by
    obtain ⟨-, -, -, b, hb, begins⟩ := choose
    rw [State.atMask_sequenceOf, hq] at hb
    obtain rfl : a = b := Option.some.inj hb
    cases a
    case sheetSpit =>
      have atPark : s.service.sled = .standing .park := begins.2.2
      simp [sled] at atPark
    all_goals rfl
  rw [State.sequenceOf_eq, Prod.mk.injEq] at sequence
  have homes := Work.beginSource_home sequence.1 (w := (s.masked ref level).polled)
    (by simp [State.homeFirst, polled, sled, moves])
  obtain ⟨current, -, stack, kept⟩ := Work.startHome_underway away
  rw [← homes] at current stack kept
  obtain ⟨b, running, -⟩ := Option.map_eq_some_iff.1 current
  rw [Work.arbitrate_chosen (State.masked_mayStart hrun hc hs) chosen 15, Work.arbitrate_busy running] at service
  refine ⟨t, done, by rw [service]; exact current, ?_, ?_⟩
  · rw [service]
    refine stack.trans ?_
    change (s.masked ref level).polled.service.stack = _
    rw [polled]
  · rw [service]
    refine (congrArg (·.get src) kept).trans ?_
    exact ((State.eligible_iff (mode ▸ hrun) (by rw [polled]; exact hs) src).1 eligible).1

/-- With no request to choose the choice comes to the top of the stack. -/
theorem State.masked_unchosen (hr : s.mode.mode = .run) (hs : s.service.stopped = false) (hu : s.recoveryUnblocked)
    (none : ∀ o, ¬ (s.atMask level).mayChoose o) : (s.masked ref level).polled.chosenSource = Option.none :=
  State.chosenSource_eq_none fun o ho => none o ((State.masked_eligible hr hs hu o).1 ho)

/-- The top of the stack goes on with its next action (R105 step 2). -/
theorem setMask_continues {p : SledPlace} {q : Sequence} {qs : List Sequence} {a : Action} {acts : List Action}
    (hr : s.running) (hl : level ≤ 7) (hc : s.service.current = none) (hu : s.recoveryUnblocked)
    (hs : s.service.stopped = false) (sled : s.service.sled = .standing p) (closed : s.service.closed = some p)
    (none : ∀ o, ¬ (s.atMask level).mayChoose o) (hstack : s.service.stack = q :: qs) (hq : q.actions = a :: acts)
    (begins : s.mayBegin a) (hpark : a = .uncap ∨ a = .home → p ≠ .park) (hcap : a = .cap → p ≠ .cap) :
    ∃ t, Completes (.setMask ref level) s t ∧ t.service.current.map CurrentAction.action = some a
      ∧ t.service.stack = s.service.stack := by
  obtain ⟨t, k, done, service⟩ := setMask_ends (ref := ref) hr hl
  obtain ⟨-, hrun⟩ := hr
  obtain ⟨p', polled, mode, feed, ink, tally, -⟩ := s.masked_polled ref level
  have needs : (s.masked ref level).polled.needsHold a = true :=
    (State.needsHold_iff _ a).2 ((State.mayBegin_congr feed (by rw [polled]) mode ink tally a).2 begins)
  have top : (s.masked ref level).polled.topReady = some a := by
    simp only [State.topReady, polled, hstack, hq, needs, if_true]
  have stands : (s.masked ref level).polled.SledStands p := by
    rw [Work.SledStands, polled]
    exact ⟨sled, closed⟩
  have starts : (s.masked ref level).polled.beginTop a = (s.masked ref level).polled.startAction a :=
    Work.beginTop_start (by simp [State.homeFirst, polled, sled])
  obtain ⟨current, -, stack, -⟩ := Work.startAction_underway stands hpark hcap
  rw [← starts] at current stack
  obtain ⟨b, running, -⟩ := Option.map_eq_some_iff.1 current
  rw [Work.arbitrate_top (State.masked_mayStart hrun hc hs) (State.masked_unchosen hrun hs hu none) top 15,
    Work.arbitrate_busy running] at service
  refine ⟨t, done, by rw [service]; exact current, ?_⟩
  rw [service]
  refine stack.trans ?_
  change (s.masked ref level).polled.service.stack = _
  rw [polled]

/-- With nothing to choose and the top of the stack held back nothing starts. -/
theorem setMask_rests (hr : s.running) (hl : level ≤ 7) (hc : s.service.current = none) (hu : s.recoveryUnblocked)
    (hs : s.service.stopped = false) (none : ∀ o, ¬ (s.atMask level).mayChoose o)
    (held : ∀ q ∈ s.service.stack.head?, ∀ a ∈ q.actions.head?, ¬ s.mayBegin a) :
    ∃ t, Completes (.setMask ref level) s t ∧ t.service.current = Option.none ∧ t.service.stack = s.service.stack
      ∧ ∀ o, o ≠ .recovery → t.service.pending.get o = (s.atMask level).service.pending.get o := by
  obtain ⟨t, k, done, service⟩ := setMask_ends (ref := ref) hr hl
  obtain ⟨-, hrun⟩ := hr
  obtain ⟨p, polled, mode, feed, ink, tally, pending⟩ := s.masked_polled ref level
  have needs : ∀ a, ¬ s.mayBegin a → (s.masked ref level).polled.needsHold a = false := fun a h =>
    Bool.eq_false_iff.2 fun k => h ((State.mayBegin_congr feed (by rw [polled]) mode ink tally a).1
      ((State.needsHold_iff _ a).1 k))
  have top : (s.masked ref level).polled.topReady = Option.none := by
    simp only [State.topReady, polled]
    cases hst : s.service.stack with
    | nil => rfl
    | cons q qs =>
      cases ha : q.actions with
      | nil => simp [ha]
      | cons a acts => simp [ha, needs a (held q (by simp [hst]) a (by simp [ha]))]
  rw [Work.arbitrate_rests (State.masked_mayStart hrun hc hs) (State.masked_unchosen hrun hs hu none) top 15,
    polled] at service
  exact ⟨t, done, by rw [service]; exact hc, by rw [service], fun o ho => by rw [service]; exact pending o ho⟩

end

/-! ### A WIPE ordered alone (R95, R111) -/

section
variable {s : State} {ref : Nat}

/-- With nothing else waiting and the sled home, the arbiter finds the order and no other request. -/
theorem State.ordered_polled {a : Action} (hp : s.service.pending = PerSource.fill false)
    (hcap : s.service.capped = false) (sled : s.service.sled = .standing .park) (hm : s.service.motion = none) :
    (s.ordered ref a).polled = s.ordered ref a := by
  have home : (s.ordered ref a).sledAway = false := by
    change (decide (s.service.sled ≠ .standing .park) || _) = false
    simp [sled, State.ordered, Work.request, Work.outcome, hm]
  have uncapped : (s.ordered ref a).service.capped = false := hcap
  have quiet : (s.ordered ref a).uncapNeeded = false := by simp [State.uncapNeeded, home, uncapped]
  have asked : (s.ordered ref a).asked = s.ordered ref a := if_neg (by simp [quiet])
  have pending : (s.ordered ref a).service.pending.get .recovery = false := by
    change (s.service.pending.set .order true).get .recovery = false
    simp [PerSource.get_set, hp, PerSource.fill]
  rw [Work.polled, asked, if_neg (by simp [pending])]

theorem State.ordered_chosen {a : Action} (hr : s.mode.mode = .run) (hs : s.service.stopped = false)
    (hp : s.service.pending = PerSource.fill false) (hst : s.service.stack = []) (hb : s.needsHold a = true)
    (hl : s.sourceLevel .order ≤ s.service.mask) : (s.ordered ref a).chosenSource = some .order := by
  have eligible := State.eligible_iff (s := (s.ordered ref a).toState) hr hs
  have alone : ∀ o, (s.ordered ref a).service.pending.get o = true → o = .order := fun o ho => by
    change (s.service.pending.set .order true).get o = true at ho
    by_contra other
    simp [PerSource.get_set, hp, PerSource.fill, other] at ho
  have begins : (s.ordered ref a).mayBegin a :=
    (State.mayBegin_congr rfl rfl rfl rfl rfl a).2 ((State.needsHold_iff s a).1 hb)
  refine State.chosenSource_eq_some ((eligible .order).2 ⟨?_, hl, ?_, a, rfl, begins⟩) fun o ho => ?_
  · rfl
  · change ∀ q ∈ s.service.stack.head?, _
    simp [hst]
  · rw [alone o ((eligible o).1 ho).1]
    exact .inr ⟨rfl, le_rfl⟩

theorem State.fixedDrops_wipe (s : State) : s.fixedDrops .wipe = PerChannel.fill 0 :=
  PerChannel.eq_of_get fun c => by simp [State.fixedDrops]

/-- A WIPE ordered alone starts in its event (R95, R104, R105). -/
theorem serviceWipe_starts (hr : s.running) (hm : s.mayStart = true) (hst : s.service.stack = [])
    (hp : s.service.pending = PerSource.fill false) (hcap : s.service.capped = false)
    (sled : s.service.sled = .standing .park) (hmo : s.service.motion = none) (closed : s.service.closed = some .park)
    (hclear : s.sheetClear = true) (hl : s.sourceLevel .order ≤ s.service.mask) :
    ∃ t, Completes (.serviceWipe ref) s t
      ∧ t.service.current = some
          { action := .wipe, stage := .outbound, block := s.keepWet.pointer,
            drops := PerChannel.fill 0, volumes := PerChannel.fill 0, results := [] }
      ∧ t.service.timeLeft = some s.sec3.limits.wipe ∧ t.service.motion = some .spit
      ∧ t.service.wiper = true
      ∧ t.service.stack
          = [{ source := .order, level := s.sourceLevel .order, actions := [.wipe], channel := none }]
      ∧ t.service.pending.order = false := by
  obtain ⟨hpin, hrun⟩ := hr
  obtain ⟨plain, taken⟩ := body_service (c := .serviceWipe ref) (s := s) rfl hrun
  have idle : s.orderInHand = false := by
    have none : s.service.pending.get .order = false := by simp [hp, PerSource.fill]
    simp [State.orderInHand, none, hst]
  have done := completes_body plain hpin
  rw [taken.trans (Work.takeService_taken ref idle)] at done
  have stopped : s.service.stopped = false := by
    simp only [State.mayStart, Bool.and_eq_true, Bool.not_eq_true'] at hm
    exact hm.1.2
  have polled := State.ordered_polled (ref := ref) (a := .wipe) hp hcap sled hmo
  have chosen := State.ordered_chosen (ref := ref) (a := .wipe) hrun stopped hp hst hclear hl
  have away : ((s.ordered ref .wipe).push .order [.wipe] none).sledThere .spit = false := by
    change (decide (s.service.sled = _) || decide (s.service.closed = _)) = false
    simp [sled, closed]
  have begins : (s.ordered ref .wipe).beginSource .order
      = (((s.ordered ref .wipe).push .order [.wipe] none).launch .wipe).commandSled .spit := by
    have resting : (s.ordered ref .wipe).homeFirst .wipe = false := by
      change (true && decide (s.service.sled = .unknown)) = false
      simp [sled]
    rw [Work.beginSource_start (acts := []) (ch := none) rfl resting]
    exact Work.firstLeg_away away
  have motion : ((((s.ordered ref .wipe).push .order [.wipe] none).launch .wipe).commandSled .spit).service
      = { (((s.ordered ref .wipe).push .order [.wipe] none).launch .wipe).service with motion := some .spit } :=
    congrArg (fun w : Work => w.service) (if_neg (by rw [Bool.not_eq_true]; exact away))
  obtain ⟨k, stage⟩ := Work.arbiterStage_boundary (w := s.ordered ref .wipe) rfl
  have service := (Work.finish_service (w := s.ordered ref .wipe) rfl rfl rfl rfl).trans stage
  rw [Work.arbitrate_chosen hm (by rw [polled]; exact chosen) 15, polled, begins,
    Work.arbitrate_busy (by rw [motion]; rfl), motion] at service
  refine ⟨_, done, ?_⟩
  rw [service]
  refine ⟨?_, rfl, rfl, rfl, ?_, ?_⟩
  · change some _ = some _
    rw [State.fixedDrops_wipe]
    rfl
  · change _ :: s.service.stack = _
    rw [hst]
    rfl
  · rfl

end

/-! ### The statement -/

/-- Settles O31: a WIPE ordered alone, and the choice at the boundary that a SET MASK makes, clause by clause. -/
theorem serviceWipeStartsAtOnce : Obligations.ServiceWipeStartsAtOnce := by
  exact ⟨fun _ _ => serviceWipe_starts, fun s ref level hr hl hc hu =>
    ⟨setMask_stopped hr hl hc, fun _ _ _ _ _ => setMask_begins hr hl hc hu, fun _ _ _ _ => setMask_homes hr hl hc hu,
      fun _ _ _ _ _ => setMask_continues hr hl hc hu, setMask_rests hr hl hc hu⟩⟩

end Sys2Proof.Machine
end

section
/-! SUPPORT. Rising lists of numbers, and what a RESULT makes of the failed list and of its group (R130 to R133). -/

namespace Sys2Proof

/-! ### Sets of numbers as rising lists -/

@[simp] theorem mem_insertNum {x y : Nat} {l : List Nat} : x ∈ insertNum y l ↔ x = y ∨ x ∈ l := by
  induction l with
  | nil => simp [insertNum]
  | cons z l ih =>
    unfold insertNum
    split
    · simp
    · split
      · simp_all
      · simp [ih, or_left_comm]

theorem insertNum_length_le (x : Nat) (l : List Nat) : (insertNum x l).length ≤ l.length + 1 := by
  induction l with
  | nil => simp [insertNum]
  | cons y l ih =>
    unfold insertNum
    (repeat' split) <;> simp
    omega

theorem sortNums_concat (l : List Nat) (x : Nat) : sortNums (l ++ [x]) = insertNum x (sortNums l) :=
  List.foldl_concat ..

@[simp] theorem mem_sortNums {x : Nat} {l : List Nat} : x ∈ sortNums l ↔ x ∈ l := by
  induction l using List.reverseRecOn with
  | nil => simp [sortNums]
  | append_singleton l y ih => simp [sortNums_concat, ih, or_comm]

theorem sortNums_length_le (l : List Nat) : (sortNums l).length ≤ l.length := by
  induction l using List.reverseRecOn with
  | nil => simp [sortNums]
  | append_singleton l y ih =>
    have := insertNum_length_le y (sortNums l)
    simp only [sortNums_concat, List.length_append, List.length_singleton]
    omega

/-- A list that names one number alone, however often. -/
theorem sortNums_constant {l : List Nat} {g : Nat} (hne : l ≠ []) (h : ∀ x ∈ l, x = g) : sortNums l = [g] := by
  induction l using List.reverseRecOn with
  | nil => exact absurd rfl hne
  | append_singleton l y ih =>
    obtain rfl := h y (by simp)
    rw [sortNums_concat]
    by_cases hl : l = []
    · subst hl
      rfl
    · rw [ih hl fun x hx => h x (by simp [hx])]
      simp [insertNum]

namespace Machine

/-! ### The failed list (R130, R132) -/

theorem FailedNozzle.rank_injective {f g : FailedNozzle} (hf : f.nozzle < 6144) (hg : g.nozzle < 6144)
    (h : f.rank = g.rank) : f = g := by
  obtain ⟨c, n⟩ := f
  obtain ⟨d, m⟩ := g
  unfold FailedNozzle.rank at h
  dsimp only at h hf hg
  have hn : c.num = d.num := by omega
  have hc : c = d := by
    revert hn
    cases c <;> cases d <;> decide
  subst hc
  have : n = m := by omega
  rw [this]

theorem mem_insertFailed {f x : FailedNozzle} {l : List FailedNozzle} (hf : f.nozzle < 6144)
    (hl : ∀ g ∈ l, g.nozzle < 6144) : x ∈ insertFailed f l ↔ x = f ∨ x ∈ l := by
  induction l with
  | nil => simp [insertFailed]
  | cons g l ih =>
    unfold insertFailed
    split
    · simp
    · split
      · obtain rfl := FailedNozzle.rank_injective hf (hl g (by simp)) ‹_›
        simp
      · simp [ih fun g hg => hl g (by simp [hg]), or_left_comm]

theorem insertFailed_length_le (f : FailedNozzle) (l : List FailedNozzle) :
    (insertFailed f l).length ≤ l.length + 1 := by
  induction l with
  | nil => simp [insertFailed]
  | cons g l ih =>
    unfold insertFailed
    (repeat' split) <;> simp
    omega

theorem mem_failedOf {l : List FailedNozzle} {c : Channel} {gi : Nat} {f : FailedNozzle} :
    f ∈ failedOf l c gi ↔ f ∈ l ∧ f.channel = c ∧ f.nozzle / 64 = gi := by
  simp only [failedOf, List.mem_filter, Bool.and_eq_true, decide_eq_true_eq]
  rfl

/-! ### Confirmation (R132 step 2) -/

/-- The check of a group of channel `c` once the missed suspects `l` of it are confirmed. -/
structure CheckWork.Confirmed (n : Nozzle) (c : Channel) (gi : Nat) (grp : Group) (l : List Nat) (k : CheckWork) :
    Prop where
  failed : ∀ f, f ∈ k.nozzle.failed ↔ f ∈ n.failed ∨ f.channel = c ∧ f.nozzle ∈ l
  length : k.nozzle.failed.length ≤ n.failed.length + l.length
  added : k.added = l.map fun m => { channel := c, nozzle := m }
  removed : k.removed = []
  group : ∃ suspects, (k.nozzle.groups.get c)[gi]? = some { grp with suspects := suspects }
    ∧ ∀ m, m ∈ suspects ↔ m ∈ grp.suspects ∧ m ∉ l
  rest : k.nozzle.issue = n.issue ∧ k.nozzle.notices = n.notices ∧ k.nozzle.ladders = n.ladders
    ∧ k.nozzle.armed = n.armed

/-- Where the list has room, one missed suspect more is confirmed. -/
theorem CheckWork.Confirmed.confirm {n : Nozzle} {c : Channel} {gi : Nat} {grp : Group} {l : List Nat}
    {k : CheckWork} (h : k.Confirmed n c gi grp l) (hn : ∀ f ∈ n.failed, f.nozzle < 6144) (g : Nat) {m : Nat}
    (hl : ∀ x ∈ l ++ [m], x < 6144) (room : n.failed.length + l.length < 64) :
    (k.confirm c g gi m).Confirmed n c gi grp (l ++ [m]) := by
  have small : ∀ f ∈ k.nozzle.failed, f.nozzle < 6144 := fun f hf =>
    ((h.failed f).1 hf).elim (hn f) fun hf => hl _ (by simp [hf.2])
  have fits : k.nozzle.failed.length < Config.failedListSize := by
    have := h.length
    have size : Config.failedListSize = 64 := rfl
    omega
  obtain ⟨suspects, there, members⟩ := h.group
  rw [CheckWork.confirm, if_pos fits]
  refine ⟨fun f => ?_, ?_, by simp [h.added], h.removed, ⟨suspects.filter (· ≠ m), ?_, fun x => ?_⟩, h.rest⟩
  · have entry : f = { channel := c, nozzle := m } ↔ f.channel = c ∧ f.nozzle = m := by
      cases f
      simp
    have inserted := mem_insertFailed (f := { channel := c, nozzle := m }) (x := f) (hl m (by simp)) small
    rw [inserted, h.failed, entry, List.mem_append, List.mem_singleton]
    tauto
  · have := insertFailed_length_le { channel := c, nozzle := m } k.nozzle.failed
    have := h.length
    simp only [List.length_append, List.length_singleton]
    omega
  · simp [there]
  · simp only [List.mem_filter, members, List.mem_append, List.mem_singleton, decide_eq_true_eq]
    tauto

theorem CheckWork.confirmed_foldl {n : Nozzle} {c : Channel} {gi : Nat} {grp : Group}
    (hgrp : (n.groups.get c)[gi]? = some grp) (hn : ∀ f ∈ n.failed, f.nozzle < 6144) (g : Nat) (l : List Nat)
    (hl : ∀ x ∈ l, x < 6144) (room : n.failed.length + l.length ≤ 64) :
    (l.foldl (fun k m => k.confirm c g gi m)
      ({ nozzle := n, added := [], removed := [], refused := none } : CheckWork)).Confirmed n c gi grp l := by
  induction l using List.reverseRecOn with
  | nil =>
    exact ⟨by simp, by simp, rfl, rfl, ⟨grp.suspects, hgrp, by simp⟩, rfl, rfl, rfl, rfl⟩
  | append_singleton l m ih =>
    simp only [List.length_append, List.length_singleton] at room
    rw [List.foldl_concat]
    exact (ih (fun x hx => hl x (by simp [hx])) (by omega)).confirm hn g hl (by omega)

/-! ### One group with its RESULT (R131 to R133) -/

theorem mem_missedSet {gi n : Nat} {named : List Nat} :
    n ∈ missedSet gi named ↔ n ∈ named ∧ n / 64 = gi := by
  simp only [missedSet, mem_sortNums, List.mem_filter, decide_eq_true_eq]
  rfl

theorem missedSet_length_le (gi : Nat) (named : List Nat) : (missedSet gi named).length ≤ named.length :=
  (sortNums_length_le _).trans (List.length_filter_le ..)

theorem mem_foldl_insertNum {p : Nat → Prop} [DecidablePred p] {n : Nat} {l acc : List Nat} :
    n ∈ l.foldl (fun acc m => if p m then acc else insertNum m acc) acc ↔ n ∈ acc ∨ n ∈ l ∧ ¬ p n := by
  induction l generalizing acc with
  | nil => simp
  | cons m l ih =>
    rw [List.foldl_cons, ih]
    by_cases hm : p m
    · simp only [hm, if_true, List.mem_cons]
      constructor
      · rintro (h | h)
        · exact .inl h
        · exact .inr ⟨.inr h.1, h.2⟩
      · rintro (h | ⟨rfl | h, hp⟩)
        · exact .inl h
        · exact absurd hm hp
        · exact .inr ⟨h, hp⟩
    · simp only [hm, if_false, mem_insertNum, List.mem_cons]
      constructor
      · rintro ((rfl | h) | h)
        · exact .inr ⟨.inl rfl, hm⟩
        · exact .inl h
        · exact .inr ⟨.inr h.1, h.2⟩
      · rintro (h | ⟨rfl | h, hp⟩)
        · exact .inl (.inr h)
        · exact .inl (.inl rfl)
        · exact .inr ⟨h, hp⟩

/-- The group's own record after its check: the suspects are missed ones, the span is the bands since clean. -/
theorem Group.mem_afterCheck_suspects {grp : Group} {before missed failedNow : List Nat} {n : Nat} :
    n ∈ (grp.afterCheck before missed failedNow).suspects
      ↔ (n ∈ grp.suspects ∨ n ∉ before ∧ n ∉ failedNow) ∧ n ∈ missed := by
  simp only [Group.afterCheck, List.mem_filter, decide_eq_true_eq, mem_foldl_insertNum, not_or]
  tauto

/-- The entries of a group whose nozzles were seen (R132 step 4). -/
def CheckWork.gone (k : CheckWork) (c : Channel) (gi : Nat) (missed : List Nat) : List FailedNozzle :=
  (failedOf k.nozzle.failed c gi).filter fun f => f.nozzle ∉ missed

/-- The steps on a group after the confirmations (R132, R133). -/
def CheckWork.cleaned (k : CheckWork) (c : Channel) (gi : Nat) (before missed : List Nat) : CheckWork :=
  { k with
    nozzle := { k.nozzle with
      failed := k.nozzle.failed.filter fun f => f ∉ k.gone c gi missed
      groups := k.nozzle.groups.set c ((k.nozzle.groups.get c).modify gi fun x =>
        x.afterCheck before missed ((failedOf k.nozzle.failed c gi).map FailedNozzle.nozzle)) }
    removed := k.removed ++ k.gone c gi missed }

theorem Channel.ofNum_group (c : Channel) {gi : Nat} (h : gi < 96) :
    Channel.ofNum ((c.num * 96 + gi) / Config.groupsPerChannel) = some c := by
  rw [Channel.ofNum_eq_some]
  change (c.num * 96 + gi) / 96 = c.num
  omega

theorem group_index (c : Channel) {gi : Nat} (h : gi < 96) :
    (c.num * 96 + gi) % Config.groupsPerChannel = gi := by
  change (c.num * 96 + gi) % 96 = gi
  omega

theorem CheckWork.group_eq {k : CheckWork} {c : Channel} {gi : Nat} {grp : Group} (hgi : gi < 96)
    (hgrp : (k.nozzle.groups.get c)[gi]? = some grp) (named : List Nat) :
    k.group (c.num * 96 + gi, named)
      = (((missedSet gi named).filter (· ∈ grp.suspects)).foldl
          (fun k m => k.confirm c (c.num * 96 + gi) gi m) k).cleaned c gi grp.suspects (missedSet gi named) := by
  simp only [CheckWork.group, Channel.ofNum_group c hgi, group_index c hgi, hgrp]
  rfl

/-- What the check of one group with its RESULT leaves (R131 to R133): the failed list, the entries added and
removed, and the group. -/
structure CheckWork.ReadGroup (n : Nozzle) (c : Channel) (gi : Nat) (missed : List Nat) (grp : Group)
    (k : CheckWork) : Prop where
  failed : ∀ f, f ∈ k.nozzle.failed ↔
    (f ∈ n.failed ∨ f.channel = c ∧ f.nozzle ∈ missed ∧ f.nozzle ∈ grp.suspects)
      ∧ ¬ (f.channel = c ∧ f.nozzle / 64 = gi ∧ f.nozzle ∉ missed)
  added : ∀ f, f ∈ k.added ↔ f.channel = c ∧ f.nozzle ∈ missed ∧ f.nozzle ∈ grp.suspects
  removed : ∀ f, f ∈ k.removed ↔ f ∈ n.failed ∧ f.channel = c ∧ f.nozzle / 64 = gi ∧ f.nozzle ∉ missed
  group : ∃ grp', (k.nozzle.groups.get c)[gi]? = some grp'
    ∧ (∀ m ∈ missed, m ∉ grp.suspects → ({ channel := c, nozzle := m } : FailedNozzle) ∉ n.failed →
        m ∈ grp'.suspects)
    ∧ (∀ m ∈ grp'.suspects, m ∈ missed)
    ∧ grp'.span = grp.bands ∧ grp'.spanOver = grp.bandsOver
    ∧ grp'.bands = (if missed = [] then 0 else grp.bands)
  rest : k.nozzle.issue = n.issue ∧ k.nozzle.notices = n.notices ∧ k.nozzle.ladders = n.ladders
    ∧ k.nozzle.armed = n.armed

theorem CheckWork.group_readGroup {n : Nozzle} {c : Channel} {gi : Nat} {missed : List Nat} {grp : Group}
    (hgi : gi < 96) (hgrp : (n.groups.get c)[gi]? = some grp) (hm : ∀ m ∈ missed, m / 64 = gi)
    (hn : ∀ f ∈ n.failed, f.nozzle < 6144) (room : n.failed.length + missed.length ≤ 64) :
    (({ nozzle := n, added := [], removed := [], refused := none } : CheckWork).group
      (c.num * 96 + gi, missed)).ReadGroup n c gi missed grp := by
  have missedMem : ∀ m, m ∈ missedSet gi missed ↔ m ∈ missed := fun m => by
    rw [mem_missedSet]
    exact and_iff_left_of_imp (hm m)
  have confirmedMem : ∀ m, m ∈ (missedSet gi missed).filter (· ∈ grp.suspects)
      ↔ m ∈ missed ∧ m ∈ grp.suspects := by simp [missedMem]
  have confirmed := CheckWork.confirmed_foldl hgrp hn (c.num * 96 + gi)
    ((missedSet gi missed).filter (· ∈ grp.suspects))
    (fun x hx => by
      have := hm x ((confirmedMem x).1 hx).1
      omega)
    (by
      have := missedSet_length_le gi missed
      have := List.length_filter_le (fun m => decide (m ∈ grp.suspects)) (missedSet gi missed)
      omega)
  rw [CheckWork.group_eq hgi hgrp]
  generalize ((missedSet gi missed).filter (· ∈ grp.suspects)).foldl _ _ = k at confirmed ⊢
  have failed : ∀ f, f ∈ k.nozzle.failed
      ↔ f ∈ n.failed ∨ f.channel = c ∧ f.nozzle ∈ missed ∧ f.nozzle ∈ grp.suspects := fun f => by rw [confirmed.failed, confirmedMem]
  have gone : ∀ f, f ∈ k.gone c gi (missedSet gi missed) ↔
      f ∈ n.failed ∧ f.channel = c ∧ f.nozzle / 64 = gi ∧ f.nozzle ∉ missed := fun f => by
    simp only [CheckWork.gone, List.mem_filter, mem_failedOf, failed, missedMem, decide_eq_true_eq]
    tauto
  obtain ⟨suspects, there, members⟩ := confirmed.group
  refine ⟨fun f => ?_, fun f => ?_, fun f => ?_,
    ⟨({ grp with suspects := suspects } : Group).afterCheck grp.suspects (missedSet gi missed)
      ((failedOf k.nozzle.failed c gi).map FailedNozzle.nozzle), ?_, fun m hmiss hsus hfail => ?_, fun m hmem => ?_,
      rfl, rfl, ?_⟩,
    confirmed.rest⟩
  · simp only [CheckWork.cleaned, List.mem_filter, decide_eq_true_eq, gone, failed]
    tauto
  · change f ∈ k.added ↔ _
    simp only [confirmed.added, List.mem_map, confirmedMem]
    constructor
    · rintro ⟨m, hmem, rfl⟩
      exact ⟨rfl, hmem⟩
    · rintro ⟨rfl, hmem⟩
      exact ⟨f.nozzle, hmem, rfl⟩
  · change f ∈ k.removed ++ _ ↔ _
    rw [confirmed.removed, List.nil_append, gone]
  · simp only [CheckWork.cleaned, PerChannel.get_set_same, List.getElem?_modify_eq, there]
    rfl
  · refine Group.mem_afterCheck_suspects.2 ⟨.inr ⟨hsus, ?_⟩, (missedMem m).2 hmiss⟩
    simp only [List.mem_map, mem_failedOf, failed]
    rintro ⟨f, ⟨hf, rfl, -⟩, rfl⟩
    exact hf.elim hfail fun hf => hsus hf.2.2
  · exact (missedMem m).1 (Group.mem_afterCheck_suspects.1 hmem).2
  · have empty : (missedSet gi missed).isEmpty = true ↔ missed = [] := by
      rw [List.isEmpty_iff, List.eq_nil_iff_forall_not_mem, List.eq_nil_iff_forall_not_mem]
      simp only [missedMem]
    exact if_congr empty rfl rfl

end Machine
end Sys2Proof
end

section
/-! SUPPORT. The group states, the notice and the ladders that a check event makes of what it has read (R136, R139,
R142, R143, R147, R148). -/

namespace Sys2Proof.Machine

/-! ### Group states (R136) -/

theorem mem_lostBlocks {l : List FailedNozzle} {c : Channel} {b : Nat} :
    b ∈ lostBlocks l c ↔ ∃ n, ColumnLost l c n ∧ n / 64 = b := by
  simp only [lostBlocks, List.mem_map, List.mem_filter, Bool.and_eq_true, decide_eq_true_eq, List.any_eq_true]
  constructor
  · rintro ⟨⟨d, n⟩, ⟨hf, ⟨hd, hn⟩, ⟨e, m⟩, hp, he, hm⟩, hb⟩
    dsimp only at hd hn he hm hb
    subst hd he hm
    exact ⟨n, ⟨hn, hf, hp⟩, hb⟩
  · rintro ⟨n, ⟨hn, hf, hp⟩, rfl⟩
    exact ⟨_, ⟨hf, ⟨rfl, hn⟩, _, hp, rfl, rfl⟩, rfl⟩

theorem restate_get (failed : List FailedNozzle) (lost : List Nat) (c : Channel) (i j : Nat) (l : List Group) :
    (restate failed lost c i l)[j]?
      = l[j]?.map fun g => { g with state := groupState failed lost c (i + j) g } := by
  induction l generalizing i j with
  | nil => simp [restate]
  | cons g l ih =>
    cases j with
    | zero => simp [restate]
    | succ j =>
      rw [restate, List.getElem?_cons_succ, List.getElem?_cons_succ, ih]
      simp only [Nat.add_right_comm i 1 j, Nat.add_assoc]

theorem Nozzle.restated_get (n : Nozzle) (c : Channel) (j : Nat) :
    (n.restated.groups.get c)[j]?
      = ((n.groups.get c)[j]?).map fun g =>
        { g with state := groupState n.failed (lostBlocks n.failed c) c j g } := by
  simp only [Nozzle.restated, PerChannel.get_gen, restate_get, Nat.zero_add]

theorem spitBlocks : Config.spitBlocks = 48 := rfl

theorem groupState_uncovered {failed : List FailedNozzle} {c : Channel} {j : Nat} {g : Group} :
    groupState failed (lostBlocks failed c) c j g = .uncovered
      ↔ ∃ n, ColumnLost failed c n ∧ n / 64 = j % 48 := by
  rw [← mem_lostBlocks, groupState, spitBlocks]
  by_cases lost : j % 48 ∈ lostBlocks failed c
  · simp [lost]
  · rw [if_neg lost]
    split <;> simp [lost]

theorem groupState_healthy {failed : List FailedNozzle} {c : Channel} {j : Nat} {g : Group} :
    groupState failed (lostBlocks failed c) c j g = .healthy
      ↔ (¬ ∃ n, ColumnLost failed c n ∧ n / 64 = j % 48) ∧ g.suspects = []
        ∧ ∀ f ∈ failed, ¬ (f.channel = c ∧ f.nozzle / 64 = j) := by
  have none : failedOf failed c j = [] ↔ ∀ f ∈ failed, ¬ (f.channel = c ∧ f.nozzle / 64 = j) := by
    simp only [List.eq_nil_iff_forall_not_mem, mem_failedOf, not_and]
  rw [← mem_lostBlocks, ← none, groupState, spitBlocks]
  by_cases lost : j % 48 ∈ lostBlocks failed c
  · simp [lost]
  · simp [lost]

/-- A group's state is worked out anew from the failed list and its suspects. -/
theorem Nozzle.restated_state {n : Nozzle} {c : Channel} {j : Nat} {g : Group}
    (h : (n.restated.groups.get c)[j]? = some g) :
    g.state = groupState n.failed (lostBlocks n.failed c) c j g := by
  rw [Nozzle.restated_get, Option.map_eq_some_iff] at h
  obtain ⟨x, -, rfl⟩ := h
  rfl

/-! ### Groups of a channel (R129, R142) -/

theorem groupsWhere_cons_pos {c : Channel} {p : Group → Bool} {i : Nat} {g : Group} {l : List Group}
    (h : p g = true) : groupsWhere c p i (g :: l) = (c.num * 96 + i) :: groupsWhere c p (i + 1) l :=
  if_pos h

theorem groupsWhere_cons_neg {c : Channel} {p : Group → Bool} {i : Nat} {g : Group} {l : List Group}
    (h : ¬ p g = true) : groupsWhere c p i (g :: l) = groupsWhere c p (i + 1) l :=
  if_neg h

theorem mem_groupsWhere {c : Channel} {p : Group → Bool} {i x : Nat} {l : List Group} :
    x ∈ groupsWhere c p i l ↔ ∃ j g, l[j]? = some g ∧ p g = true ∧ x = c.num * 96 + (i + j) := by
  induction l generalizing i with
  | nil => simp [groupsWhere]
  | cons y l ih =>
    have shift : (∃ j g, (y :: l)[j]? = some g ∧ p g = true ∧ x = c.num * 96 + (i + j))
        ↔ (p y = true ∧ x = c.num * 96 + i)
          ∨ ∃ j g, l[j]? = some g ∧ p g = true ∧ x = c.num * 96 + (i + 1 + j) := by
      constructor
      · rintro ⟨j, g, hj, hp, rfl⟩
        cases j with
        | zero =>
          obtain rfl : y = g := by simpa using hj
          exact .inl ⟨hp, rfl⟩
        | succ j => exact .inr ⟨j, g, by simpa using hj, hp, by omega⟩
      · rintro (⟨hp, rfl⟩ | ⟨j, g, hj, hp, rfl⟩)
        · exact ⟨0, y, rfl, hp, rfl⟩
        · exact ⟨j + 1, g, by simpa using hj, hp, by omega⟩
    rw [shift, ← ih]
    by_cases hp : p y = true
    · rw [groupsWhere_cons_pos hp, List.mem_cons]
      simp [hp]
    · rw [groupsWhere_cons_neg hp]
      simp [hp]

theorem mem_groupsWhere_index {c : Channel} {p : Group → Bool} {j : Nat} {g : Group} {l : List Group}
    (h : l[j]? = some g) : c.num * 96 + j ∈ groupsWhere c p 0 l ↔ p g = true := by
  rw [mem_groupsWhere]
  constructor
  · rintro ⟨i, x, hi, hp, e⟩
    obtain rfl : i = j := by omega
    rwa [← Option.some.inj (hi.symm.trans h)]
  · exact fun hp => ⟨j, g, h, hp, by omega⟩

theorem Group.persistent_iff (g : Group) : g.persistent = true ↔ g.ring.length = 4 ∧ ∀ n ∈ g.ring, 0 < n := by
  simp [Group.persistent, List.all_eq_true]

theorem Nozzle.mem_persistentGroups {n : Nozzle} {c : Channel} {j : Nat} {g : Group}
    (h : (n.groups.get c)[j]? = some g) :
    c.num * 96 + j ∈ n.persistentGroups c ↔ g.ring.length = 4 ∧ ∀ m ∈ g.ring, 0 < m :=
  (mem_groupsWhere_index h).trans g.persistent_iff

theorem Nozzle.mem_unhealthyGroups {n : Nozzle} {c : Channel} {j : Nat} {g : Group}
    (h : (n.groups.get c)[j]? = some g) : c.num * 96 + j ∈ n.unhealthyGroups c ↔ g.state ≠ .healthy :=
  (mem_groupsWhere_index h).trans (by simp)

/-! ### The entries of one group (R129, R139) -/

section
variable {l : List FailedNozzle} {c : Channel} {gi : Nat} (h : ∀ f ∈ l, f.channel = c ∧ f.nozzle / 64 = gi)
include h

theorem group_of_entries {f : FailedNozzle} (hf : f ∈ l) : f.group = c.num * 96 + gi := by
  obtain ⟨rfl, rfl⟩ := h f hf
  rfl

theorem mem_addedGroups_of_entries {x : Nat} : x ∈ addedGroups l c ↔ l ≠ [] ∧ x = c.num * 96 + gi := by
  simp only [addedGroups, mem_sortNums, List.mem_map, List.mem_filter, decide_eq_true_eq]
  constructor
  · rintro ⟨f, ⟨hf, -⟩, rfl⟩
    exact ⟨List.ne_nil_of_mem hf, group_of_entries h hf⟩
  · rintro ⟨hne, rfl⟩
    obtain ⟨f, hf⟩ := List.exists_mem_of_ne_nil l hne
    exact ⟨f, ⟨hf, (h f hf).1⟩, group_of_entries h hf⟩

theorem mem_nozzlesIn {n : Nat} :
    n ∈ nozzlesIn l (c.num * 96 + gi) ↔ ({ channel := c, nozzle := n } : FailedNozzle) ∈ l := by
  simp only [nozzlesIn, mem_sortNums, List.mem_map, List.mem_filter, decide_eq_true_eq]
  constructor
  · rintro ⟨f, ⟨hf, -⟩, rfl⟩
    obtain ⟨rfl, -⟩ := h f hf
    exact hf
  · exact fun hf => ⟨_, ⟨hf, group_of_entries h hf⟩, rfl⟩

end

end Sys2Proof.Machine
end

section
/-! SUPPORT. The check event in its parts (R131): what is read, what is reported of it, the judgement of the ladder
served; and what the rest of the event leaves of the nozzle state (R144 to R146). -/

namespace Sys2Proof.Machine

/-! ### The parts of the check event (R131) -/

/-- What a CHECK's results make of the nozzle state before the map issue is set. -/
def Work.readBy (w : Work) (results : List (Nat × List Nat)) : CheckWork :=
  results.foldl CheckWork.group { nozzle := w.nozzle, added := [], removed := [], refused := none }

/-- The event has changed the failed list. -/
def CheckWork.changed (k : CheckWork) : Bool := !k.added.isEmpty || !k.removed.isEmpty

/-- The nozzle state with the map issue set and the group states worked out anew (R135, R136). -/
def CheckWork.renewed (k : CheckWork) : Nozzle :=
  ({ k.nozzle with issue := if k.changed then (k.nozzle.issue + 1) % 256 else k.nozzle.issue } : Nozzle).restated

/-- The pending notices with those of the event joined to them (R139). -/
def CheckWork.noticed (k : CheckWork) : List Notice :=
  if k.changed then ({ k with nozzle := k.renewed } : CheckWork).notices.foldl joinNotice k.renewed.notices
  else k.renewed.notices

/-- The event up to the notices and the ladders that its additions start (R135 to R143). -/
def Work.reported (w : Work) (k : CheckWork) : Work :=
  let w1 : Work :=
    { w with
      nozzle := { k.renewed with
        notices := k.noticed
        ladders := PerChannel.gen fun c => k.renewed.ladderAfterCheck k.added (w.enabled c) c }
      cover := true }
  let w2 := match k.refused with
    | some g => w1.raise .nozzleListFull (.group g)
    | none => w1
  let w3 := if k.changed then w2.stale else w2
  let w4 := w3.raiseUncovered w.anyUncovered
  if k.changed then w4.loadNotice else w4

/-- The ladder of the channel served is judged (R147). -/
def Work.judgeServed (w : Work) : Option Channel → Work
  | some c => { w with nozzle := { w.nozzle with ladders := w.nozzle.ladders.set c (w.judgedLadder c) } }
  | none => w

theorem Work.checkEvent_eq (w : Work) (results : List (Nat × List Nat)) (served : Option Channel) :
    w.checkEvent results served
      = ((w.reported (w.readBy results)).judgeServed served).raiseRecovery.withdrawRecovery := rfl

/-! ### What is reported -/

@[simp] theorem CheckWork.renewed_fields (k : CheckWork) :
    k.renewed.failed = k.nozzle.failed ∧ k.renewed.notices = k.nozzle.notices ∧ k.renewed.ladders = k.nozzle.ladders
      ∧ k.renewed.armed = k.nozzle.armed := ⟨rfl, rfl, rfl, rfl⟩

theorem CheckWork.renewed_issue (k : CheckWork) :
    k.renewed.issue = if k.changed then (k.nozzle.issue + 1) % 256 else k.nozzle.issue := rfl

/-- The slot and the pending notices once the first of them has gone into an empty slot (R140). -/
def loaded : Option Notice → List Notice → Option Notice × List Notice
  | none, n :: rest => (some n, rest)
  | slot, l => (slot, l)

theorem Work.loadNotice_loaded (w : Work) :
    (w.loadNotice.link.nozzleSlot, w.loadNotice.nozzle.notices) = loaded w.link.nozzleSlot w.nozzle.notices := by
  unfold Work.loadNotice
  split
  · rename_i n rest slot notices
    rw [slot, notices]
    rfl
  · rename_i other
    cases slot : w.link.nozzleSlot with
    | some n => rfl
    | none =>
      cases notices : w.nozzle.notices with
      | nil => rfl
      | cons n rest => exact absurd notices (other n rest slot)

theorem Work.loadNotice_nozzle (w : Work) :
    w.loadNotice.nozzle.groups = w.nozzle.groups ∧ w.loadNotice.nozzle.failed = w.nozzle.failed
      ∧ w.loadNotice.nozzle.issue = w.nozzle.issue ∧ w.loadNotice.nozzle.ladders = w.nozzle.ladders := by
  unfold Work.loadNotice
  split <;> exact ⟨rfl, rfl, rfl, rfl⟩

theorem Work.reported_nozzle (w : Work) (k : CheckWork) :
    (w.reported k).nozzle.groups = k.renewed.groups ∧ (w.reported k).nozzle.failed = k.renewed.failed
      ∧ (w.reported k).nozzle.issue = k.renewed.issue
      ∧ (w.reported k).nozzle.ladders
        = PerChannel.gen fun c => k.renewed.ladderAfterCheck k.added (w.enabled c) c := by
  simp only [Work.reported]
  (repeat' split) <;> simp [Work.loadNotice_nozzle]

theorem Work.reported_refill (w : Work) (k : CheckWork) : (w.reported k).refill = w.refill := by
  simp only [Work.reported]
  (repeat' split) <;> simp

theorem Work.reported_unchanged {w : Work} {k : CheckWork} (h : k.changed = false) :
    (w.reported k).link.nozzleSlot = w.link.nozzleSlot ∧ (w.reported k).nozzle.notices = k.nozzle.notices := by
  cases hr : k.refused <;> simp [Work.reported, CheckWork.noticed, h, hr]

theorem Work.reported_changed {w : Work} {k : CheckWork} (h : k.changed = true) :
    ((w.reported k).link.nozzleSlot, (w.reported k).nozzle.notices) = loaded w.link.nozzleSlot k.noticed := by
  cases hr : k.refused <;> simp [Work.reported, h, hr, Work.loadNotice_loaded]

/-! ### The rest of the event (R144 to R146) -/

/-- A ladder of a channel after the arbiter's choice: as it was where it was not due, and at its level and over its
groups while a nozzle of them is failed; up to level 2 nothing exhausts it then. -/
def LadderKept (failed : List FailedNozzle) (l l' : Ladder) : Prop :=
  (l.due = false → l' = l)
    ∧ ((∃ f ∈ failed, f.channel.num * 96 + f.nozzle / 64 ∈ l.affected) →
      l'.level = l.level ∧ l'.affected = l.affected ∧ (l.level ≤ 2 → l'.exhausted = l.exhausted))

theorem LadderKept.refl (failed : List FailedNozzle) (l : Ladder) : LadderKept failed l l :=
  ⟨fun _ => rfl, fun _ => ⟨rfl, rfl, fun _ => rfl⟩⟩

/-- A ladder that has followed a due one stays with it through one change more that leaves due ladders alone. -/
theorem LadderKept.trans {failed : List FailedNozzle} {l l' l'' : Ladder} (h : LadderKept failed l l')
    (k : LadderKept failed l' l'') : LadderKept failed l l'' := by
  obtain ⟨undue, kept⟩ := h
  obtain ⟨undue', kept'⟩ := k
  refine ⟨fun hd => ?_, fun hf => ?_⟩
  · obtain rfl := undue hd
    exact undue' hd
  · obtain ⟨level, affected, exhausted⟩ := kept hf
    obtain ⟨level', affected', exhausted'⟩ := kept' (affected ▸ hf)
    exact ⟨level'.trans level, affected'.trans affected,
      fun low => (exhausted' (level ▸ low)).trans (exhausted low)⟩

theorem State.screenedLadder_ladderKept (s : State) (c : Channel) :
    LadderKept s.nozzle.failed (s.nozzle.ladders.get c) (s.screenedLadder c) := by
  refine ⟨fun undue => by simp [State.screenedLadder, undue], fun hf => ?_⟩
  rw [← State.ladderHasFailed_iff] at hf
  simp only [State.screenedLadder, hf]
  split
  · exact ⟨rfl, rfl, fun _ => rfl⟩
  · split
    · contradiction
    · split
      · rename_i high
        simp only [Bool.and_eq_true, decide_eq_true_eq] at high
        exact ⟨rfl, rfl, fun low => by omega⟩
      · exact ⟨rfl, rfl, fun _ => rfl⟩

/-- A due ladder taken into service. -/
theorem LadderKept.served {failed : List FailedNozzle} {l : Ladder} (h : l.due = true) :
    LadderKept failed l { l with inService := true } :=
  ⟨fun undue => absurd (h.symm.trans undue) (by decide), fun _ => ⟨rfl, rfl, fun _ => rfl⟩⟩

/-- The notices and the failed list stand, and each ladder is kept in the sense of R144. -/
def NozzleKept (n m : Nozzle) : Prop :=
  m.notices = n.notices ∧ m.failed = n.failed
    ∧ ∀ c, LadderKept n.failed (n.ladders.get c) (m.ladders.get c)

theorem NozzleKept.refl (n : Nozzle) : NozzleKept n n := ⟨rfl, rfl, fun _ => .refl _ _⟩

theorem NozzleKept.trans {n m o : Nozzle} (h : NozzleKept n m) (k : NozzleKept m o) : NozzleKept n o := by
  obtain ⟨notices, failed, ladders⟩ := h
  obtain ⟨notices', failed', ladders'⟩ := k
  exact ⟨notices'.trans notices, failed'.trans failed, fun c => (ladders c).trans (failed ▸ ladders' c)⟩

theorem Work.screenRecovery_nozzleKept (w : Work) : NozzleKept w.nozzle w.screenRecovery.nozzle := by
  refine ⟨?_, ?_, fun c => ?_⟩ <;> simp only [Work.screenRecovery, Work.putLadders, Work.withdrawRecovery_nozzle]
  rw [PerChannel.get_gen]
  exact w.screenedLadder_ladderKept c

theorem Work.requestStarted_nozzleKept {w : Work} {src : Source} {ch : Option Channel}
    (h : ∀ c, ch = some c → (w.nozzle.ladders.get c).due = true) :
    NozzleKept w.nozzle (w.requestStarted src ch).nozzle := by
  unfold Work.requestStarted
  split
  · rename_i c
    refine ⟨by simp, by simp, fun d => ?_⟩
    simp only [Work.raiseRecovery_frame, PerChannel.get_set]
    split
    · rename_i same
      subst same
      exact .served (h d rfl)
    · exact .refl _ _
  · exact .refl _
  · exact .refl _

theorem arbiterClosed_nozzleKept (n : Nozzle) : ArbiterClosed fun w => NozzleKept n w.nozzle where
  request h := h
  screen h := h.trans (Work.screenRecovery_nozzleKept _)
  push {w src acts ch} h _ _ hch := by
    refine h.trans (Work.requestStarted_nozzleKept (w := w.push src acts ch) fun c hc => ?_)
    rw [hch] at hc
    split at hc
    · exact State.recoveryChannel_due hc
    · cases hc
  launch h _ _ := h
  hold h _ := h
  command {w p} h := by
    unfold Work.commandSled
    split <;> exact h
  stage h := h
  head h := h
  wiper h := h
  ended h _ := h
  pop h := h
  capped h _ := h
  idle h := h

theorem Work.faultStage_nozzleKept (w : Work) : NozzleKept w.nozzle w.faultStage.nozzle := by
  simp only [Work.faultStage, Work.setActive]
  (repeat' split) <;> exact ⟨by simp, by simp, fun c => by simpa using .refl _ _⟩

/-- An event that has moved no ink leaves notices, failed list and ladders as its body left them, but for the ladders
that the arbiter tests or serves. -/
theorem Work.finish_nozzleKept {w : Work} (hi : w.ink = w.pre.ink) : NozzleKept w.nozzle w.finish.nozzle := by
  obtain ⟨nozzle, -⟩ := w.finish_chosen
  rw [nozzle, Work.chosen, Work.overfillTests_same hi]
  refine (arbiterClosed_nozzleKept _).arbiterStage ?_
  simpa using w.faultStage_nozzleKept

end Sys2Proof.Machine
end

section
/-! SUPPORT. The notice of a check event on one group, and the ladders as its additions and the end of a RECOVERY leave
them (R139, R142, R143, R147, R148). -/

namespace Sys2Proof.Machine

/-! ### The notice of one group (R139) -/

/-- The entries added and removed are all of one group. -/
def CheckWork.OneGroup (k : CheckWork) (c : Channel) (gi : Nat) : Prop :=
  ∀ f ∈ k.added ++ k.removed, f.channel = c ∧ f.nozzle / 64 = gi

theorem CheckWork.changed_iff (k : CheckWork) : k.changed = true ↔ k.added ++ k.removed ≠ [] := by
  cases hk : k.added <;> simp [CheckWork.changed, hk]

theorem Nozzle.spanRead_eq {n : Nozzle} {c : Channel} {gi : Nat} {g : Group} (hgi : gi < 96)
    (h : (n.groups.get c)[gi]? = some g) : n.spanRead (c.num * 96 + gi) = (g.span, g.spanOver) := by
  simp only [Nozzle.spanRead, Channel.ofNum_group c hgi, group_index c hgi, h]

/-- The notice that a check event makes of its one group. -/
def CheckWork.notice (k : CheckWork) (g : Nat) : Notice :=
  { issue := k.renewed.issue, group := g, added := nozzlesIn k.added g, removed := nozzlesIn k.removed g,
    span := (k.renewed.spanRead g).1, spanOver := (k.renewed.spanRead g).2 }

theorem CheckWork.noticed_one {k : CheckWork} {c : Channel} {gi : Nat} (h : k.OneGroup c gi) (hk : k.changed = true) :
    k.noticed = joinNotice k.nozzle.notices (k.notice (c.num * 96 + gi)) := by
  have one : sortNums ((k.added ++ k.removed).map FailedNozzle.group) = [c.num * 96 + gi] := by
    refine sortNums_constant (by simpa using k.changed_iff.1 hk) fun x hx => ?_
    obtain ⟨f, hf, rfl⟩ := List.mem_map.1 hx
    exact group_of_entries h hf
  rw [CheckWork.noticed, if_pos hk, CheckWork.notices, one]
  rfl

theorem joinNotice_append {l : List Notice} {x : Notice} (h : ∀ y ∈ l, y.group ≠ x.group) :
    joinNotice l x = l ++ [x] := if_neg (by simpa using h)

theorem joinNotice_merge {l : List Notice} {x : Notice} (h : ∃ y ∈ l, y.group = x.group) :
    joinNotice l x = l.map fun y => if y.group = x.group then y.merge x else y := if_pos (by simpa using h)

theorem loaded_behind {slot : Option Notice} (h : slot.isSome = true) (l : List Notice) :
    loaded slot l = (slot, l) := by
  cases slot with
  | none => cases h
  | some n => rfl

/-! ### Ladders after additions (R142, R143) -/

section
variable {n : Nozzle} {added : List FailedNozzle} {enabled : Bool} {c : Channel}

theorem Nozzle.ladderAfterCheck_same
    (h : addedGroups added c = [] ∨ (n.ladders.get c).exhausted = true
      ∨ (n.ladders.get c).level = 0 ∧ n.armed = false) :
    n.ladderAfterCheck added enabled c = n.ladders.get c := by
  obtain h | h | ⟨h, unarmed⟩ := h <;> simp_all [Nozzle.ladderAfterCheck]

/-- A ladder at 0 starts at level 1 with the groups added and the persistently missing ones (R142). -/
theorem Nozzle.ladderAfterCheck_starts (hg : addedGroups added c ≠ []) (hx : (n.ladders.get c).exhausted = false)
    (hl : (n.ladders.get c).level = 0) (ha : n.armed = true) :
    n.ladderAfterCheck added true c = { n.ladders.get c with
      level := 1, affected := sortNums (addedGroups added c ++ n.persistentGroups c) } := by
  simp [Nozzle.ladderAfterCheck, hg, hx, hl, ha]

/-- A ladder above 0 takes the groups added in (R143). -/
theorem Nozzle.ladderAfterCheck_grows (hg : addedGroups added c ≠ []) (hx : (n.ladders.get c).exhausted = false)
    (hl : 1 ≤ (n.ladders.get c).level) :
    n.ladderAfterCheck added true c = { n.ladders.get c with
      affected := sortNums ((n.ladders.get c).affected ++ addedGroups added c) } := by
  have started : (n.ladders.get c).level ≠ 0 := by omega
  simp [Nozzle.ladderAfterCheck, hg, hx, started]

theorem Nozzle.ladderAfterCheck_inService :
    (n.ladderAfterCheck added enabled c).inService = (n.ladders.get c).inService := by
  unfold Nozzle.ladderAfterCheck
  dsimp only
  (repeat' split) <;> rfl

/-- A ladder above 0 that serves the groups added already: its groups are the same. -/
theorem Nozzle.ladderAfterCheck_covered (hl : 1 ≤ (n.ladders.get c).level)
    (hg : ∀ x ∈ addedGroups added c, x ∈ (n.ladders.get c).affected) :
    ∃ l, n.ladderAfterCheck added enabled c = { n.ladders.get c with affected := l }
      ∧ ∀ x, x ∈ l ↔ x ∈ (n.ladders.get c).affected := by
  have started : (n.ladders.get c).level ≠ 0 := by omega
  unfold Nozzle.ladderAfterCheck
  simp only [started, if_false]
  split
  · exact ⟨_, rfl, fun _ => .rfl⟩
  · exact ⟨_, rfl, fun x => by simpa using hg x⟩

end

/-! ### The ladder judged at the end of its RECOVERY (R147, R148) -/

section
variable {s : State} {c : Channel}

theorem State.judgedLadder_idle (h : (s.nozzle.ladders.get c).inService = false) :
    s.judgedLadder c = s.nozzle.ladders.get c := by simp [State.judgedLadder, h]

variable (hs : (s.nozzle.ladders.get c).inService = true)
include hs

theorem State.judgedLadder_succeeds (hf : s.ladderHasFailed (s.nozzle.ladders.get c) = false) :
    s.judgedLadder c = { s.nozzle.ladders.get c with level := 0, affected := [], inService := false } := by
  simp [State.judgedLadder, hs, hf]

variable (hf : s.ladderHasFailed (s.nozzle.ladders.get c) = true)
include hf

theorem State.judgedLadder_exhausts
    (h : (s.nozzle.ladders.get c).level = 4 ∨ (s.nozzle.ladders.get c).level = 2 ∧ s.refillMarked c = true) :
    s.judgedLadder c = { s.nozzle.ladders.get c with exhausted := true, inService := false } := by
  obtain h | ⟨h, marked⟩ := h
  · simp [State.judgedLadder, hs, hf, h]
  · simp [State.judgedLadder, hs, hf, h, marked]

theorem State.judgedLadder_climbs
    (h : (s.nozzle.ladders.get c).level = 1 ∨ (s.nozzle.ladders.get c).level = 3
      ∨ (s.nozzle.ladders.get c).level = 2 ∧ s.refillMarked c = false) :
    s.judgedLadder c = { s.nozzle.ladders.get c with
      level := (s.nozzle.ladders.get c).level + 1
      inService := false
      affected := sortNums (((s.nozzle.ladders.get c).affected.filter fun g => g ∈ s.nozzle.unhealthyGroups c)
        ++ s.nozzle.persistentGroups c) } := by
  obtain h | h | ⟨h, unmarked⟩ := h
  · simp [State.judgedLadder, hs, hf, h]
  · simp [State.judgedLadder, hs, hf, h]
  · simp [State.judgedLadder, hs, hf, h, unmarked]

end

end Sys2Proof.Machine
end

section
/-! SUPPORT. A CHECK of one group completed at PARK: what its event leaves of the station (R96, R98, R131). -/

namespace Sys2Proof.Machine

/-! ### The completion (R96, R98, R106) -/

/-- The station with its CHECK ended at PARK, the results not read yet. -/
def State.checked (s : State) : Work := (s.ended .park).popStack.setCapped false

@[simp] theorem State.checked_frame (s : State) :
    s.checked.ink = s.ink ∧ s.checked.tally = s.tally ∧ s.checked.mode = s.mode ∧ s.checked.pre = s :=
  ⟨rfl, rfl, rfl, rfl⟩

/-- The channel of the RECOVERY that an ending sequence is, if it is one. -/
def servedBy : Option Sequence → Option Channel
  | some q => if q.source = .recovery then q.channel else none
  | none => none

theorem Work.checkDone_reports (w : Work) (a : CurrentAction) (groups : List Nat) (ended : Option Sequence) :
    (w.checkDone a groups ended).nozzle = (w.checkEvent a.results (servedBy ended)).nozzle
      ∧ (w.checkDone a groups ended).link = (w.checkEvent a.results (servedBy ended)).link := by
  cases ended with
  | none => exact ⟨rfl, rfl⟩
  | some q => cases hq : q.source <;> simp [Work.checkDone, servedBy, hq]

theorem Work.reported_service (w : Work) (k : CheckWork) : (w.reported k).service = w.service := by
  simp only [Work.reported]
  (repeat' split) <;> simp

theorem Work.judgeServed_service (w : Work) (served : Option Channel) :
    (w.judgeServed served).service = w.service := by
  cases served <;> rfl

theorem Work.checkEvent_sledStands {p : SledPlace} {w : Work} (h : w.SledStands p) (results : List (Nat × List Nat))
    (served : Option Channel) : (w.checkEvent results served).SledStands p := by
  rw [Work.checkEvent_eq]
  generalize hv : (w.reported (w.readBy results)).judgeServed served = v
  have service : v.service = w.service := by
    rw [← hv, Work.judgeServed_service, Work.reported_service]
  obtain ⟨-, raised, raised'⟩ := v.raiseRecovery_sled
  obtain ⟨-, withdrawn, withdrawn'⟩ := v.raiseRecovery.withdrawRecovery_sled
  exact h.congr (by rw [withdrawn, raised, service]) (by rw [withdrawn', raised', service])

theorem Work.checkDone_sledStands {p : SledPlace} {w : Work} (h : w.SledStands p) (a : CurrentAction)
    (groups : List Nat) (ended : Option Sequence) : (w.checkDone a groups ended).SledStands p := by
  have event := Work.checkEvent_sledStands h a.results
  have forced : ∀ l, ((w.checkEvent a.results none).forcedDone l).SledStands p := fun l => by
    simp only [Work.forcedDone]
    (repeat' split) <;> exact event none
  simp only [Work.checkDone]
  (repeat' split)
  · exact event _
  · exact forced _
  · exact event _
  · exact event _

theorem completes_check {s : State} {a : CurrentAction} {groups : List Nat} (hpin : s.mode.resetPin = false)
    (hm : s.service.motion = some .park) (hc : s.service.current = some a) (hg : a.stage = .inbound)
    (ha : a.action = .check groups) :
    Completes (.sledArrival .park) s (s.checked.checkDone a groups s.endingSequence).finish := by
  have current : (s.arrived .park).service.current = some a := hc
  have ended : body (.sledArrival .park) (Work.begin s) = s.checked.checkDone a groups s.endingSequence := by
    rw [body_sledArrival_commanded hm, State.arrived_completes hc (.inl hg)]
    simp only [Work.complete, current, ha, State.ended, State.checked]
    rfl
  rw [← ended]
  exact completes_body rfl hpin

/-! ### What the event leaves -/

theorem Work.judgeServed_served (w : Work) (c : Channel) :
    (w.judgeServed (some c)).nozzle.ladders.get c = w.judgedLadder c := PerChannel.get_set_same ..

theorem Work.judgeServed_idle {w : Work} {c : Channel} (h : (w.nozzle.ladders.get c).inService = false)
    (served : Option Channel) : (w.judgeServed served).nozzle.ladders.get c = w.nozzle.ladders.get c := by
  cases served with
  | none => rfl
  | some d =>
    simp only [Work.judgeServed, PerChannel.get_set]
    split
    · rename_i same
      subst same
      exact State.judgedLadder_idle h
    · rfl

theorem Work.judgeServed_rest (w : Work) (served : Option Channel) :
    (w.judgeServed served).nozzle.groups = w.nozzle.groups ∧ (w.judgeServed served).nozzle.failed = w.nozzle.failed
      ∧ (w.judgeServed served).nozzle.issue = w.nozzle.issue
      ∧ (w.judgeServed served).nozzle.notices = w.nozzle.notices
      ∧ (w.judgeServed served).link = w.link := by
  cases served <;> exact ⟨rfl, rfl, rfl, rfl, rfl⟩

/-- The end `t` of the event in which results were read as `k`, in the terms of the parts of the check event. -/
structure State.CheckEnds (s : State) (k : CheckWork) (t : State) : Prop where
  groups : t.nozzle.groups = k.renewed.groups
  failed : t.nozzle.failed = k.nozzle.failed
  issue : t.nozzle.issue = k.renewed.issue
  unchanged : k.changed = false →
    t.link.nozzleSlot = s.link.nozzleSlot ∧ t.nozzle.notices = k.nozzle.notices
  changed : k.changed = true → (t.link.nozzleSlot, t.nozzle.notices) = loaded s.link.nozzleSlot k.noticed
  ladders : ∀ c, LadderKept k.nozzle.failed
    (((s.checked.reported k).judgeServed (servedBy s.endingSequence)).nozzle.ladders.get c) (t.nozzle.ladders.get c)

theorem State.check_ends (s : State) (a : CurrentAction) (groups : List Nat) :
    s.CheckEnds (s.checked.readBy a.results) (s.checked.checkDone a groups s.endingSequence).finish := by
  generalize hd : s.checked.checkDone a groups s.endingSequence = w
  generalize hk : s.checked.readBy a.results = k
  generalize hv : (s.checked.reported k).judgeServed (servedBy s.endingSequence) = v
  obtain ⟨nozzle, link⟩ : w.nozzle = v.nozzle ∧ w.link = v.link := by
    obtain ⟨nozzle, link⟩ := s.checked.checkDone_reports a groups s.endingSequence
    rw [← hd, nozzle, link, Work.checkEvent_eq, hk, hv]
    simp
  have still : w.ink = w.pre.ink := by
    simp [← hd]
  obtain ⟨notices, -, ladders⟩ := Work.finish_nozzleKept still
  obtain ⟨nozzleEnd, -⟩ := w.finish_chosen
  obtain ⟨groupsEnd, failedEnd, issueEnd, -⟩ := w.chosen_nozzle
  obtain ⟨-, -, slotEnd, -⟩ := w.finish_link
  obtain ⟨groupsV, failedV, issueV, noticesV, linkV⟩ :=
    (s.checked.reported k).judgeServed_rest (servedBy s.endingSequence)
  obtain ⟨groupsR, failedR, issueR, -⟩ := s.checked.reported_nozzle k
  rw [hv] at groupsV failedV issueV noticesV linkV
  have slot : w.finish.link.nozzleSlot = (s.checked.reported k).link.nozzleSlot := by rw [slotEnd, link, linkV]
  have pending : w.finish.nozzle.notices = (s.checked.reported k).nozzle.notices := by rw [notices, nozzle, noticesV]
  have failed : w.nozzle.failed = k.nozzle.failed := by rw [nozzle, failedV, failedR, (k.renewed_fields).1]
  refine ⟨?_, ?_, ?_, fun h => ?_, fun h => ?_, fun c => ?_⟩
  · rw [nozzleEnd, groupsEnd, nozzle, groupsV, groupsR]
  · rw [nozzleEnd, failedEnd, failed]
  · rw [nozzleEnd, issueEnd, nozzle, issueV, issueR]
  · rw [slot, pending]
    exact Work.reported_unchanged h
  · rw [slot, pending]
    exact Work.reported_changed h
  · rw [hv, ← nozzle, ← failed]
    exact ladders c

end Sys2Proof.Machine
end

section
/-! PROOFS. A CHECK of one group that completes at PARK: the failed list, the group, the notice and the ladder. -/

namespace Sys2Proof.Machine

section
variable {s t : State} {k : CheckWork} {c : Channel} {gi : Nat} {missed : List Nat} {grp : Group}

/-! ### The entries read (R131, R132) -/

theorem CheckWork.ReadGroup.oneGroup (R : k.ReadGroup s.nozzle c gi missed grp) (hm : ∀ n ∈ missed, n / 64 = gi) :
    k.OneGroup c gi := fun f hf => by
  obtain hf | hf := List.mem_append.1 hf
  · obtain ⟨channel, miss, -⟩ := (R.added f).1 hf
    exact ⟨channel, hm _ miss⟩
  · obtain ⟨-, channel, group, -⟩ := (R.removed f).1 hf
    exact ⟨channel, group⟩

theorem CheckWork.ReadGroup.added_ne_nil (R : k.ReadGroup s.nozzle c gi missed grp) :
    k.added ≠ [] ↔ ∃ n ∈ missed, n ∈ grp.suspects := by
  constructor
  · intro h
    obtain ⟨f, hf⟩ := List.exists_mem_of_ne_nil _ h
    obtain ⟨-, found⟩ := (R.added f).1 hf
    exact ⟨_, found⟩
  · rintro ⟨n, found⟩
    exact List.ne_nil_of_mem ((R.added { channel := c, nozzle := n }).2 ⟨rfl, found⟩)

theorem CheckWork.ReadGroup.changed_iff (R : k.ReadGroup s.nozzle c gi missed grp) :
    k.changed = true ↔ (∃ n ∈ missed, n ∈ grp.suspects)
      ∨ ∃ f ∈ s.nozzle.failed, f.channel = c ∧ f.nozzle / 64 = gi ∧ f.nozzle ∉ missed := by
  have removed : k.removed ≠ [] ↔ ∃ f ∈ s.nozzle.failed, f.channel = c ∧ f.nozzle / 64 = gi ∧ f.nozzle ∉ missed :=
    ⟨fun h => (List.exists_mem_of_ne_nil _ h).imp fun f hf => (R.removed f).1 hf,
      fun ⟨f, hf⟩ => List.ne_nil_of_mem ((R.removed f).2 hf)⟩
  rw [k.changed_iff, ← R.added_ne_nil, ← removed, Ne, List.append_eq_nil_iff]
  tauto

/-- A missed suspect is in the failed list. -/
theorem CheckWork.ReadGroup.confirmed (R : k.ReadGroup s.nozzle c gi missed grp) {n : Nat} (hn : n ∈ missed)
    (hs : n ∈ grp.suspects) : ({ channel := c, nozzle := n } : FailedNozzle) ∈ k.nozzle.failed :=
  (R.failed _).2 ⟨.inr ⟨rfl, hn, hs⟩, fun h => h.2.2 hn⟩

theorem CheckWork.ReadGroup.failed_elsewhere (R : k.ReadGroup s.nozzle c gi missed grp)
    (hm : ∀ n ∈ missed, n / 64 = gi) {f : FailedNozzle} (hf : ¬ (f.channel = c ∧ f.nozzle / 64 = gi)) :
    f ∈ k.nozzle.failed ↔ f ∈ s.nozzle.failed := by
  rw [R.failed]
  constructor
  · rintro ⟨h | ⟨channel, miss, -⟩, -⟩
    · exact h
    · exact absurd ⟨channel, hm _ miss⟩ hf
  · exact fun h => ⟨.inl h, fun ⟨channel, group, _⟩ => hf ⟨channel, group⟩⟩

/-! ### The groups (R132, R133, R136) -/

/-- The group read, with its state worked out anew. -/
theorem CheckWork.ReadGroup.renewed (R : k.ReadGroup s.nozzle c gi missed grp) :
    ∃ grp', (k.renewed.groups.get c)[gi]? = some grp'
      ∧ (∀ n ∈ missed, n ∉ grp.suspects →
          ({ channel := c, nozzle := n } : FailedNozzle) ∉ s.nozzle.failed → n ∈ grp'.suspects)
      ∧ (∀ n ∈ grp'.suspects, n ∈ missed)
      ∧ grp'.span = grp.bands ∧ grp'.spanOver = grp.bandsOver
      ∧ grp'.bands = (if missed = [] then 0 else grp.bands) := by
  obtain ⟨x, hx, facts⟩ := R.group
  refine ⟨_, (Nozzle.restated_get _ c gi).trans (congrArg _ hx), ?_⟩
  exact facts

theorem CheckWork.renewed_state {d : Channel} {j : Nat} {g : Group}
    (h : (k.renewed.groups.get d)[j]? = some g) :
    g.state = groupState k.nozzle.failed (lostBlocks k.nozzle.failed d) d j g := Nozzle.restated_state h

/-- A group with a failed nozzle is not HEALTHY. -/
theorem CheckWork.renewed_unhealthy {f : FailedNozzle} (hf : f ∈ k.nozzle.failed) (hc : f.channel = c)
    (hg : f.nozzle / 64 = gi) {g : Group} (h : (k.renewed.groups.get c)[gi]? = some g) : g.state ≠ .healthy := by
  rw [CheckWork.renewed_state h, Ne, groupState_healthy]
  rintro ⟨-, -, whole⟩
  exact whole f hf ⟨hc, hg⟩

/-! ### The notice (R138 to R140) -/

section
variable (R : k.ReadGroup s.nozzle c gi missed grp) (E : s.CheckEnds k t)
include R E

theorem State.CheckEnds.unchanged_list (h : ∀ n ∈ missed, n ∉ grp.suspects)
    (h' : ∀ f ∈ s.nozzle.failed, f.channel = c → f.nozzle / 64 = gi → f.nozzle ∈ missed) :
    t.nozzle.issue = s.nozzle.issue ∧ t.nozzle.notices = s.nozzle.notices
      ∧ t.link.nozzleSlot = s.link.nozzleSlot := by
  obtain ⟨issue, notices, -⟩ := R.rest
  have unchanged : k.changed = false := by
    rw [← Bool.not_eq_true, R.changed_iff]
    rintro (⟨n, hn, hs⟩ | ⟨f, hf, channel, group, seen⟩)
    · exact h n hn hs
    · exact seen (h' f hf channel group)
  obtain ⟨slot, pending⟩ := E.unchanged unchanged
  exact ⟨by simp [E.issue, CheckWork.renewed_issue, unchanged, issue], pending.trans notices, slot⟩

/-- The notice of the group, in the empty slot or with the pending ones. -/
theorem State.CheckEnds.noticed (hgi : gi < 96) (hm : ∀ n ∈ missed, n / 64 = gi)
    (h : (∃ n ∈ missed, n ∈ grp.suspects)
      ∨ (∃ f ∈ s.nozzle.failed, f.channel = c ∧ f.nozzle / 64 = gi ∧ f.nozzle ∉ missed)) :
    t.nozzle.issue = (s.nozzle.issue + 1) % 256
      ∧ ∃ x : Notice, x.issue = t.nozzle.issue ∧ x.group = c.num * 96 + gi
        ∧ x.span = grp.bands ∧ x.spanOver = grp.bandsOver
        ∧ (∀ n, n ∈ x.added ↔ n ∈ missed ∧ n ∈ grp.suspects)
        ∧ (∀ n, n ∈ x.removed ↔ n / 64 = gi ∧ n ∉ missed
            ∧ ({ channel := c, nozzle := n } : FailedNozzle) ∈ s.nozzle.failed)
        ∧ (s.link.nozzleSlot = none → s.nozzle.notices = [] →
            t.link.nozzleSlot = some x ∧ t.nozzle.notices = [])
        ∧ (s.link.nozzleSlot.isSome = true →
            t.link.nozzleSlot = s.link.nozzleSlot
            ∧ ((∀ y ∈ s.nozzle.notices, y.group ≠ x.group) →
                t.nozzle.notices = s.nozzle.notices ++ [x])
            ∧ ((∃ y ∈ s.nozzle.notices, y.group = x.group) →
                t.nozzle.notices = s.nozzle.notices.map fun y =>
                  if y.group = x.group then y.merge x else y)) := by
  have changed := R.changed_iff.2 h
  have one := R.oneGroup hm
  obtain ⟨issue, notices, -⟩ := R.rest
  obtain ⟨grp', there, -, -, span, spanOver, -⟩ := R.renewed
  have spanRead := Nozzle.spanRead_eq hgi there
  have ends := E.changed changed
  rw [CheckWork.noticed_one one changed, notices] at ends
  refine ⟨by simp [E.issue, CheckWork.renewed_issue, changed, issue], k.notice (c.num * 96 + gi), E.issue.symm, rfl,
    ?_, ?_, fun n => ?_, fun n => ?_, fun empty none => ?_, fun full => ?_⟩
  · exact (congrArg Prod.fst spanRead).trans span
  · exact (congrArg Prod.snd spanRead).trans spanOver
  · have added : ∀ f ∈ k.added, f.channel = c ∧ f.nozzle / 64 = gi := fun f hf => one f (List.mem_append_left _ hf)
    have mem := mem_nozzlesIn added (n := n)
    rw [R.added] at mem
    exact mem.trans (and_iff_right rfl)
  · have removed : ∀ f ∈ k.removed, f.channel = c ∧ f.nozzle / 64 = gi := fun f hf =>
      one f (List.mem_append_right _ hf)
    refine (mem_nozzlesIn removed).trans ((R.removed _).trans ?_)
    tauto
  · rw [empty, none] at ends
    exact Prod.mk.inj ends
  · rw [loaded_behind full] at ends
    obtain ⟨slot, pending⟩ := Prod.mk.inj ends
    exact ⟨slot, fun apart => pending.trans (joinNotice_append apart),
      fun same => pending.trans (joinNotice_merge same)⟩

end

/-! ### The ladder after additions (R142, R143) -/

theorem CheckWork.reported_ladder (d : Channel) :
    (s.checked.reported k).nozzle.ladders.get d = k.renewed.ladderAfterCheck k.added (s.enabled d) d := by
  obtain ⟨-, -, -, ladders⟩ := s.checked.reported_nozzle k
  rw [ladders, PerChannel.get_gen]
  rfl

/-- A ladder with no RECOVERY in service comes to the end of the event as the additions left it. -/
theorem State.CheckEnds.ladder_idle (E : s.CheckEnds k t) {d : Channel}
    (h : (k.renewed.ladders.get d).inService = false) :
    LadderKept k.nozzle.failed (k.renewed.ladderAfterCheck k.added (s.enabled d) d) (t.nozzle.ladders.get d) := by
  have idle : ((s.checked.reported k).nozzle.ladders.get d).inService = false := by
    rw [CheckWork.reported_ladder, Nozzle.ladderAfterCheck_inService, h]
  have kept := E.ladders d
  rwa [Work.judgeServed_idle idle, CheckWork.reported_ladder] at kept

section
variable (R : k.ReadGroup s.nozzle c gi missed grp) (E : s.CheckEnds k t) (hm : ∀ n ∈ missed, n / 64 = gi)
include R

theorem CheckWork.ReadGroup.renewed_ladders :
    k.renewed.ladders = s.nozzle.ladders ∧ k.renewed.armed = s.nozzle.armed := by
  obtain ⟨-, -, ladders, armed⟩ := R.rest
  exact ⟨ladders, armed⟩

include hm

theorem CheckWork.ReadGroup.mem_addedGroups {x : Nat} :
    x ∈ addedGroups k.added c ↔ (∃ n ∈ missed, n ∈ grp.suspects) ∧ x = c.num * 96 + gi := by
  rw [mem_addedGroups_of_entries fun f hf => R.oneGroup hm f (List.mem_append_left _ hf), R.added_ne_nil]

/-- A ladder over the group of a confirmed nozzle has a failed nozzle to serve. -/
theorem CheckWork.ReadGroup.serves (h : ∃ n ∈ missed, n ∈ grp.suspects) {l : List Nat} (hl : c.num * 96 + gi ∈ l) :
    ∃ f ∈ k.nozzle.failed, f.channel.num * 96 + f.nozzle / 64 ∈ l := by
  obtain ⟨n, hn, hs⟩ := h
  refine ⟨_, R.confirmed hn hs, ?_⟩
  rwa [hm n hn]

include E

theorem State.CheckEnds.ladder_added (on : s.enabled c = true) (h : ∃ n ∈ missed, n ∈ grp.suspects)
    (idle : (s.nozzle.ladders.get c).inService = false) :
    ((s.nozzle.ladders.get c).exhausted = true ∨ (s.nozzle.ladders.get c).level = 0 ∧ s.nozzle.armed = false →
      t.nozzle.ladders.get c = s.nozzle.ladders.get c)
    ∧ ((s.nozzle.ladders.get c).level = 0 → (s.nozzle.ladders.get c).exhausted = false → s.nozzle.armed = true →
      (t.nozzle.ladders.get c).level = 1 ∧ (t.nozzle.ladders.get c).exhausted = false
      ∧ ∀ j g, (t.nozzle.groups.get c)[j]? = some g →
          (c.num * 96 + j ∈ (t.nozzle.ladders.get c).affected
            ↔ j = gi ∨ g.ring.length = 4 ∧ ∀ n ∈ g.ring, 0 < n))
    ∧ (1 ≤ (s.nozzle.ladders.get c).level → (s.nozzle.ladders.get c).level ≤ 4 →
      (s.nozzle.ladders.get c).exhausted = false →
      (t.nozzle.ladders.get c).level = (s.nozzle.ladders.get c).level
      ∧ ∀ x, x ∈ (t.nozzle.ladders.get c).affected
          ↔ x ∈ (s.nozzle.ladders.get c).affected ∨ x = c.num * 96 + gi) := by
  obtain ⟨ladders, armed⟩ := R.renewed_ladders
  have member : ∀ x, x ∈ addedGroups k.added c ↔ x = c.num * 96 + gi := fun x =>
    (R.mem_addedGroups hm).trans (and_iff_right h)
  have some : addedGroups k.added c ≠ [] := List.ne_nil_of_mem ((member _).2 rfl)
  have kept := E.ladder_idle (d := c) (by rw [ladders, idle])
  rw [on] at kept
  refine ⟨fun same => ?_, fun hl hx ha => ?_, fun hl _ hx => ?_⟩
  · rw [Nozzle.ladderAfterCheck_same (.inr (by rwa [ladders, armed])), ladders] at kept
    refine kept.1 ?_
    obtain exhausted | ⟨bottom, -⟩ := same
    · simp [Ladder.due, exhausted]
    · simp [Ladder.due, bottom]
  · rw [Nozzle.ladderAfterCheck_starts some (by rwa [ladders]) (by rwa [ladders]) (by rwa [armed]), ladders] at kept
    obtain ⟨level, affected, exhausted⟩ := kept.2 (R.serves hm h (by simp [member]))
    refine ⟨level, (exhausted (Nat.le_succ 1)).trans hx, fun j g hg => ?_⟩
    rw [E.groups] at hg
    have here : c.num * 96 + j = c.num * 96 + gi ↔ j = gi := by omega
    rw [affected, mem_sortNums, List.mem_append, member, here, Nozzle.mem_persistentGroups hg]
  · rw [Nozzle.ladderAfterCheck_grows some (by rwa [ladders]) (by rwa [ladders]), ladders] at kept
    obtain ⟨level, affected, -⟩ := kept.2 (R.serves hm h (by simp [member]))
    exact ⟨level, fun x => by rw [affected, mem_sortNums, List.mem_append, member]⟩

end

/-! ### The ladder at the end of its RECOVERY (R147, R148) -/

/-- The ladder that a RECOVERY serves, at its end: in service, at a level of 1 to 4, over the group read. -/
def Ladder.Serving (l : Ladder) (g : Nat) : Prop :=
  l.inService = true ∧ 1 ≤ l.level ∧ l.level ≤ 4 ∧ g ∈ l.affected

section
variable (R : k.ReadGroup s.nozzle c gi missed grp) (E : s.CheckEnds k t) (hm : ∀ n ∈ missed, n / 64 = gi)
  (hs : servedBy s.endingSequence = some c) (hl : (s.nozzle.ladders.get c).Serving (c.num * 96 + gi))
include R hm hl

/-- The additions leave the ladder as it was, as a set of groups. -/
theorem CheckWork.ReadGroup.ladder_serving :
    ∃ l, (s.checked.reported k).nozzle.ladders.get c = { s.nozzle.ladders.get c with affected := l }
      ∧ ∀ x, x ∈ l ↔ x ∈ (s.nozzle.ladders.get c).affected := by
  obtain ⟨ladders, -⟩ := R.renewed_ladders
  obtain ⟨-, low, -, covers⟩ := hl
  rw [CheckWork.reported_ladder, ← ladders]
  refine Nozzle.ladderAfterCheck_covered (by rwa [ladders]) fun x hx => ?_
  obtain ⟨-, rfl⟩ := (R.mem_addedGroups hm).1 hx
  rwa [ladders]

include E hs

theorem State.CheckEnds.ladder_judged :
    ((∀ f ∈ t.nozzle.failed, f.channel.num * 96 + f.nozzle / 64 ∉ (s.nozzle.ladders.get c).affected) →
      (t.nozzle.ladders.get c).level = 0 ∧ (t.nozzle.ladders.get c).affected = []
      ∧ (t.nozzle.ladders.get c).inService = false)
    ∧ ((∃ f ∈ t.nozzle.failed, f.channel = c ∧ f.nozzle / 64 = gi) →
      ((s.nozzle.ladders.get c).level = 4 ∨ (s.nozzle.ladders.get c).level = 2 ∧ s.refillMarked c = true →
        (t.nozzle.ladders.get c).level = (s.nozzle.ladders.get c).level
        ∧ (t.nozzle.ladders.get c).exhausted = true
        ∧ (t.nozzle.ladders.get c).inService = false)
      ∧ ((s.nozzle.ladders.get c).level = 1 ∨ (s.nozzle.ladders.get c).level = 3
          ∨ (s.nozzle.ladders.get c).level = 2 ∧ s.refillMarked c = false →
        (t.nozzle.ladders.get c).level = (s.nozzle.ladders.get c).level + 1
        ∧ ∀ j g, (t.nozzle.groups.get c)[j]? = some g →
            (c.num * 96 + j ∈ (t.nozzle.ladders.get c).affected
              ↔ c.num * 96 + j ∈ (s.nozzle.ladders.get c).affected ∧ g.state ≠ .healthy
                ∨ g.ring.length = 4 ∧ ∀ n ∈ g.ring, 0 < n))) := by
  obtain ⟨l, ladder, same⟩ := R.ladder_serving hm hl
  obtain ⟨groups, failed, -⟩ := s.checked.reported_nozzle k
  have kept := E.ladders c
  rw [hs, Work.judgeServed_served] at kept
  rw [E.failed, E.groups]
  have marked : (s.checked.reported k).refillMarked c = s.refillMarked c := by
    have refill := s.checked.reported_refill k
    simp only [State.refillMarked, refill]
    rfl
  generalize s.checked.reported k = v at *
  have serves : v.ladderHasFailed (v.nozzle.ladders.get c) = true ↔ ∃ f ∈ k.nozzle.failed,
      f.channel.num * 96 + f.nozzle / 64 ∈ (s.nozzle.ladders.get c).affected := by
    rw [State.ladderHasFailed_iff, failed, ladder]
    simp only [same]
    rfl
  obtain ⟨inService, -, -, covers⟩ := hl
  have busy : (v.nozzle.ladders.get c).inService = true := by rw [ladder, inService]
  refine ⟨fun none => ?_, fun ⟨f, hf, channel, group⟩ => ?_⟩
  · rw [State.judgedLadder_succeeds busy (Bool.eq_false_iff.2 fun h => by
      obtain ⟨f, hf, h⟩ := serves.1 h
      exact none f hf h)] at kept
    rw [kept.1 (by simp [Ladder.due])]
    exact ⟨rfl, rfl, rfl⟩
  · have here : f.channel.num * 96 + f.nozzle / 64 = c.num * 96 + gi := by rw [channel, group]
    have failing := serves.2 ⟨f, hf, here ▸ covers⟩
    refine ⟨fun h => ?_, fun h => ?_⟩
    · rw [State.judgedLadder_exhausts busy failing (by rwa [ladder, marked])] at kept
      rw [kept.1 (by simp [Ladder.due]), ladder]
      exact ⟨rfl, rfl, rfl⟩
    · rw [State.judgedLadder_climbs busy failing (by rwa [ladder, marked]), ladder] at kept
      obtain ⟨grp', there, -⟩ := R.renewed
      have unhealthy := CheckWork.renewed_unhealthy hf channel group there
      have member : ∀ j g, (k.renewed.groups.get c)[j]? = some g →
          (c.num * 96 + j ∈ sortNums ((l.filter fun x => x ∈ v.nozzle.unhealthyGroups c) ++ v.nozzle.persistentGroups c)
            ↔ c.num * 96 + j ∈ (s.nozzle.ladders.get c).affected ∧ g.state ≠ .healthy
              ∨ g.ring.length = 4 ∧ ∀ n ∈ g.ring, 0 < n) := fun j g hg => by
        rw [← groups] at hg
        rw [mem_sortNums, List.mem_append, List.mem_filter, same, decide_eq_true_eq,
          Nozzle.mem_unhealthyGroups hg, Nozzle.mem_persistentGroups hg]
      obtain ⟨level, affected, -⟩ := kept.2 ⟨f, hf, by
        rw [here]
        exact (member gi grp' there).2 (.inl ⟨covers, unhealthy⟩)⟩
      refine ⟨level, fun j g hg => ?_⟩
      rw [affected]
      exact member j g hg

end

end

/-! ### The statement -/

/-- A sequence with one action left is the one that ends. -/
theorem State.endingSequence_served {s : State} {q : Sequence} {qs : List Sequence} {c : Channel}
    (hq : s.service.stack = q :: qs) (hr : q.source = .recovery) (hc : q.channel = some c)
    (hl : q.actions.length = 1) : servedBy s.endingSequence = some c := by
  have last : q.actions.tail = [] := List.eq_nil_of_length_eq_zero (by simp [hl])
  simp [State.endingSequence, hq, last, servedBy, hr, hc]

/-- Settles O59: the event is cut into what is read of the group, what is reported of it, the judgement of the ladder
served and the rest of the event, which keeps the failed list, the notices and every ladder that is not due or has
failed nozzles to serve. -/
theorem checkReadsItsGroup : Obligations.CheckReadsItsGroup := by
  intro s a c gi missed grp hpin hmotion hcurrent hstage haction hresults hgi hgrp hm hn room
  have E := s.check_ends a [c.num * 96 + gi]
  have R : (s.checked.readBy a.results).ReadGroup s.nozzle c gi missed grp := by
    rw [hresults]
    exact CheckWork.group_readGroup hgi hgrp hm hn room
  generalize s.checked.readBy a.results = k at E R
  have stands : s.checked.SledStands .park := ⟨rfl, rfl⟩
  refine ⟨_, completes_check hpin hmotion hcurrent hstage haction, by simp, by simp, by simp,
    Work.finish_sledStands (Work.checkDone_sledStands stands ..), ?_⟩
  generalize (s.checked.checkDone a [c.num * 96 + gi] s.endingSequence).finish = t at E
  obtain ⟨grp', there, suspects, onlyMissed, span, spanOver, bands⟩ := R.renewed
  rw [E.failed]
  refine ⟨fun f hf => R.failed_elsewhere hm hf, fun n hg hseen hf => ?_, fun n hmiss hsus => R.confirmed hmiss hsus,
    grp', by rwa [E.groups], suspects, onlyMissed, span, spanOver, bands, fun d j g hg => ?_,
    State.CheckEnds.unchanged_list R E, State.CheckEnds.noticed R E hgi hm,
    State.CheckEnds.ladder_added R E hm, fun q qs hq hr hc hlast inService low high affected => ?_⟩
  · exact ((R.failed _).1 hf).2 ⟨rfl, hg, hseen⟩
  · rw [E.groups] at hg
    rw [CheckWork.renewed_state hg]
    exact ⟨groupState_uncovered, groupState_healthy⟩
  · have judged := State.CheckEnds.ladder_judged R E hm (State.endingSequence_served hq hr hc hlast)
      ⟨inService, low, high, affected⟩
    rwa [E.failed] at judged

end Sys2Proof.Machine
end

section
/-! PROOFS. An expiry of the spit interval counter (R117, R119). -/

namespace Sys2Proof.Machine

/-! ### The end of an event that moves no ink and raises nothing -/

/-- No operation of the arbiter changes whether a forced check is due. -/
theorem arbiterClosed_forced (b : Bool) : ArbiterClosed fun w => w.keepWet.forced = b where
  request h := h
  screen h := by simpa using h
  push {w src acts ch} h _ _ _ := by
    unfold Work.requestStarted
    (repeat' split) <;> simpa using h
  launch h _ _ := h
  hold h _ := by simpa using h
  command h := by simpa using h
  stage h := h
  head h := h
  wiper h := h
  ended h _ := h
  pop h := h
  capped {w b} h _ := by
    simp only [Work.setCapped]
    split <;> exact h
  idle h := h

/-- The interval, the pointer, the missed count, the dry-suspect set and the forced mark end such an event as its body
left them. -/
theorem Work.finish_keepWet {w : Work} (hi : w.ink = w.pre.ink) (hr : w.raised = []) (hc : w.cover = false)
    (hg : w.guardDue = false) :
    w.finish.keepWet.counter = w.keepWet.counter ∧ w.finish.keepWet.pointer = w.keepWet.pointer
      ∧ w.finish.keepWet.missed = w.keepWet.missed ∧ w.finish.keepWet.dry = w.keepWet.dry
      ∧ w.finish.keepWet.forced = w.keepWet.forced := by
  obtain ⟨-, keepWet, -⟩ := w.finish_chosen
  obtain ⟨counter, pointer, missed, dry⟩ := w.chosen_onward.keepWet
  have forced : w.chosen.keepWet.forced = w.keepWet.forced := by
    rw [Work.chosen, Work.overfillTests_same hi, Work.faultStage_none hr, Work.coverStage_off hc, Work.guardStage_off hg]
    exact (arbiterClosed_forced w.keepWet.forced).arbiterStage rfl
  rw [keepWet]
  exact ⟨counter, pointer, missed, dry, forced⟩

/-- With the arbiter stopped, what is pending in the body of such an event is pending at its end. -/
theorem Work.finish_pending {w : Work} {src : Source} (hi : w.ink = w.pre.ink) (hr : w.raised = [])
    (hc : w.cover = false) (hg : w.guardDue = false) (stopped : w.service.stopped = true)
    (h : w.service.pending.get src = true) : w.finish.service.pending.get src = true := by
  obtain ⟨p, k, stage, -, kept⟩ := Work.arbiterStage_stands (w := w) (by simp [State.mayStart, stopped])
  rw [Work.finish_service hi hr hc hg, stage]
  exact kept src h

theorem Work.request_asked (w : Work) (src : Source) : (w.request src).service.pending.get src = true := by
  simp [Work.request]

/-! ### The two branches of an expiry (R117, R119) -/

/-- The counter loaded with the interval. -/
def Work.reloaded (w : Work) : Work :=
  { w with keepWet := { w.keepWet with counter := some w.sec3.keepWetInterval } }

/-- What an expiry asks for with no spit outstanding. -/
def State.spitSource (s : State) : Source :=
  if s.feed.underSegment && s.sheetSpitAllowed then .sheetSpit else .keepWet

theorem Work.expiry_missed {w : Work} (h : w.spitOutstanding = true) : w.expiry = w.reloaded.missedExpiry :=
  if_pos h

theorem Work.expiry_asks {w : Work} (h : w.spitOutstanding = false) : w.expiry = w.reloaded.request w.spitSource := by
  refine (if_neg (by simp [h])).trans ?_
  unfold State.spitSource
  split <;> rfl

theorem State.spitSource_sheetSpit {s : State} (hu : s.feed.underSegment = true) (ha : s.sheetSpitAllowed = true) :
    s.spitSource = .sheetSpit := if_pos (by simp [hu, ha])

theorem State.spitSource_keepWet {s : State} (h : s.feed.underSegment = false ∨ s.sheetSpitAllowed = false) :
    s.spitSource = .keepWet := if_neg (by simpa [imp_iff_not_or] using h)

theorem completes_keepWetExpiry {s : State} (hr : s.running) (hc : s.keepWet.counter = some 1) :
    Completes .keepWetExpiry s (Work.begin s).expiry.finish := by
  obtain ⟨hpin, hrun⟩ := hr
  have expires : body .keepWetExpiry (Work.begin s) = (Work.begin s).expiry :=
    if_pos ⟨by simp [State.inRun, hrun], hc⟩
  rw [← expires]
  exact completes_body rfl hpin

/-! ### The statement -/

/-- Settles O60: by the branch that the expiry takes; the end of the event leaves the keep-wet unit as that branch made
it, and with the arbiter stopped the request that it raised. -/
theorem keepWetExpiryAsksOrMisses : Obligations.KeepWetExpiryAsksOrMisses := by
  intro s hr hc
  have ledgers : SameLedgers s (Work.begin s).expiry.finish :=
    Work.finish_sameLedgers (by simp) (by simp) (by simp) (by simp) (by simp) (by simp)
  refine ⟨_, completes_keepWetExpiry hr hc, ?_⟩
  cases outstanding : s.spitOutstanding
  case true =>
    rw [Work.expiry_missed outstanding] at ledgers ⊢
    obtain ⟨counter, pointer, missed, dry, forced⟩ :=
      Work.finish_keepWet (w := (Work.begin s).reloaded.missedExpiry) rfl rfl rfl rfl
    exact ⟨counter, ledgers, fun _ => ⟨missed, dry, pointer, forced,
      fun stopped => Work.finish_pending (src := .forcedCheck) rfl rfl rfl rfl stopped rfl⟩, nofun⟩
  case false =>
    have asks : (Work.begin s).expiry = (Work.begin s).reloaded.request s.spitSource := Work.expiry_asks outstanding
    rw [asks] at ledgers ⊢
    obtain ⟨counter, pointer, missed, dry, forced⟩ :=
      Work.finish_keepWet (w := (Work.begin s).reloaded.request s.spitSource) rfl rfl rfl rfl
    refine ⟨counter, ledgers, nofun, fun _ => ⟨missed, dry, pointer, forced, fun stopped => ?_⟩⟩
    have asked := Work.finish_pending rfl rfl rfl rfl stopped ((Work.begin s).reloaded.request_asked s.spitSource)
    refine ⟨fun under allowed => ?_, fun without => ?_⟩
    · rw [State.spitSource_sheetSpit under allowed] at asked ⊢
      exact asked
    · rw [State.spitSource_keepWet without] at asked ⊢
      exact asked

end Sys2Proof.Machine
end

section
/-! SUPPORT. The failed list and its map issue (R130, R135): which operations leave both, and what a check event makes
of them. -/

namespace Sys2Proof.Machine

/-! ### Operations that reach nozzle health elsewhere -/

/-- The failed list under its map issue (R130, R135). -/
def Nozzle.issuedMap (n : Nozzle) : List FailedNozzle × Nat := (n.failed, n.issue)

theorem Nozzle.issuedMap_eq_iff {m n : Nozzle} :
    m.issuedMap = n.issuedMap ↔ m.failed = n.failed ∧ m.issue = n.issue := Prod.ext_iff

/-- From one point of an event to a later one on its way to the arbiter's choice the map stands. -/
theorem Onward.issuedMap {v w : Work} (h : Onward v w) : w.nozzle.issuedMap = v.nozzle.issuedMap := by
  obtain ⟨-, failed, issue, -⟩ := h.nozzle
  exact Nozzle.issuedMap_eq_iff.2 ⟨failed, issue⟩

theorem Work.finish_issuedMap (w : Work) : w.finish.nozzle.issuedMap = w.nozzle.issuedMap := by
  obtain ⟨nozzle, -⟩ := w.finish_chosen
  rw [nozzle]
  exact w.chosen_onward.issuedMap

@[simp] theorem Work.setActive_issuedMap (w : Work) (l : List FaultCode) :
    (w.setActive l).nozzle.issuedMap = w.nozzle.issuedMap := (w.setActive_onward l).issuedMap

@[simp] theorem Work.marksChanged_issuedMap (w : Work) (c : Channel) (x : RefillChannel) :
    (w.marksChanged c x).nozzle.issuedMap = w.nozzle.issuedMap := (w.marksChanged_onward c x).issuedMap

/-- A run of the tests of R145 over the channels. -/
theorem Work.marksChangedAll_issuedMap (t : PerChannel RefillChannel) (w : Work) :
    (Channel.all.foldl (fun v c => v.marksChanged c (t.get c)) w).nozzle.issuedMap = w.nozzle.issuedMap :=
  foldl_keeps _ (fun v : Work => v.nozzle.issuedMap) (fun v c => v.marksChanged_issuedMap c _) _ _

@[simp] theorem Work.putLadders_issuedMap (w : Work) (l : PerChannel Ladder) :
    (w.putLadders l).nozzle.issuedMap = w.nozzle.issuedMap := (Work.withdrawRecovery_onward _).issuedMap

@[simp] theorem Work.takeClear_issuedMap (w : Work) (ref : Nat) (faults : Bool) (ladders starved : ChannelSet) :
    (w.takeClear ref faults ladders starved).nozzle.issuedMap = w.nozzle.issuedMap := by
  have marks : ∀ v : Work, (v.clearStarved starved).nozzle.issuedMap = v.nozzle.issuedMap
      ∧ v.clearLocked.nozzle.issuedMap = v.nozzle.issuedMap :=
    fun _ => ⟨Work.marksChangedAll_issuedMap _ _, Work.marksChangedAll_issuedMap _ _⟩
  simp only [Work.takeClear, Work.clearParts, Work.clearLadders, Work.clearFaultsPart]
  (repeat' split) <;> simp [marks]

@[simp] theorem Work.countPulse_issuedMap (w : Work) (c : Channel) :
    (w.countPulse c).nozzle.issuedMap = w.nozzle.issuedMap := by
  simp only [Work.countPulse]
  (repeat' split) <;> simp

@[simp] theorem Work.windowEnd_issuedMap (w : Work) (c : Channel) (f : FlowWindow) :
    (w.windowEnd c f).nozzle.issuedMap = w.nozzle.issuedMap := by
  simp only [Work.windowEnd]
  split <;> simp

@[simp] theorem Work.loadNotice_issuedMap (w : Work) : w.loadNotice.nozzle.issuedMap = w.nozzle.issuedMap := by
  obtain ⟨-, failed, issue, -⟩ := w.loadNotice_nozzle
  exact Nozzle.issuedMap_eq_iff.2 ⟨failed, issue⟩

@[simp] theorem Work.endFrame_issuedMap (w : Work) (x : TxFrame) :
    (w.endFrame x).nozzle.issuedMap = w.nozzle.issuedMap := by
  simp only [Work.endFrame]
  (repeat' split) <;> simp

/-! ### The retirement of a record, and the orders that retire (R50, R57, R134) -/

@[simp] theorem Work.retire_issuedMap (w : Work) (r : BandRecord) :
    (w.retire r).nozzle.issuedMap = w.nozzle.issuedMap := by
  have bump : ∀ v : Work, v.bumpGroups.nozzle.issuedMap = v.nozzle.issuedMap := fun _ => rfl
  simp [Work.retire, bump]

@[simp] theorem Work.retirePrinting_issuedMap (w : Work) :
    w.retirePrinting.nozzle.issuedMap = w.nozzle.issuedMap := by
  unfold Work.retirePrinting
  split <;> simp

@[simp] theorem Work.removeCurrent_issuedMap (w : Work) : w.removeCurrent.nozzle.issuedMap = w.nozzle.issuedMap := by
  simp only [Work.removeCurrent]
  split <;> simp

@[simp] theorem Work.positionTests_issuedMap (w : Work) : w.positionTests.nozzle.issuedMap = w.nozzle.issuedMap := by
  have retired : ∀ base pos, (w.retireAt base pos).nozzle.issuedMap = w.nozzle.issuedMap := fun base pos => by
    unfold Work.retireAt
    (repeat' split) <;> simp
  have started : ∀ (v : Work) base pos, (v.startAt base pos).nozzle.issuedMap = v.nozzle.issuedMap :=
    fun v base pos => by
      unfold Work.startAt
      (repeat' split) <;> simp
  unfold Work.positionTests
  split
  · rfl
  · rw [started, retired]

@[simp] theorem Work.positionEvent_issuedMap (w : Work) : w.positionEvent.nozzle.issuedMap = w.nozzle.issuedMap := by
  simp only [Work.positionEvent]
  split <;> simp

@[simp] theorem Work.takeSheet_issuedMap (w : Work) (r : SheetRecord) :
    (w.takeSheet r).nozzle.issuedMap = w.nozzle.issuedMap := by
  have queue : ∀ n len, (w.sheetQueue n len).nozzle.issuedMap = w.nozzle.issuedMap := fun n len => by
    simp [Work.sheetQueue]
  simp only [Work.takeSheet]
  (repeat' split) <;> simp [queue]

@[simp] theorem Work.takeAbort_issuedMap (w : Work) : w.takeAbort.nozzle.issuedMap = w.nozzle.issuedMap := by
  simp [Work.takeAbort, Work.removeSheetStops]

/-! ### A check event (R131, R132, R135) -/

/-- What a check has read so far of the nozzle state `n`: the map issue stands, and the failed list too until an entry
is added or removed. -/
def CheckWork.ReadsFrom (n : Nozzle) (k : CheckWork) : Prop :=
  k.nozzle.issue = n.issue ∧ (k.changed = false → k.nozzle.failed = n.failed)

theorem CheckWork.changed_eq_false {k : CheckWork} : k.changed = false ↔ k.added = [] ∧ k.removed = [] := by
  simp [CheckWork.changed]

/-- A missed suspect enters the failed list as an entry added (R132 step 2). -/
theorem CheckWork.ReadsFrom.confirm {n : Nozzle} {k : CheckWork} (h : k.ReadsFrom n) (c : Channel) (g gi m : Nat) :
    (k.confirm c g gi m).ReadsFrom n := by
  obtain ⟨issue, failed⟩ := h
  unfold CheckWork.confirm
  split
  · exact ⟨issue, fun same => by simp [CheckWork.changed_eq_false] at same⟩
  · exact ⟨issue, failed⟩

/-- What leaves the failed list of a group is removed (R132 step 4). -/
theorem CheckWork.ReadsFrom.cleaned {n : Nozzle} {k : CheckWork} (h : k.ReadsFrom n) (c : Channel) (gi : Nat)
    (before missed : List Nat) : (k.cleaned c gi before missed).ReadsFrom n := by
  obtain ⟨issue, failed⟩ := h
  refine ⟨issue, fun same => ?_⟩
  obtain ⟨added, removed⟩ := CheckWork.changed_eq_false.1 same
  obtain ⟨removed, gone⟩ := List.append_eq_nil_iff.1 removed
  have kept : (k.cleaned c gi before missed).nozzle.failed = k.nozzle.failed := by
    simp [CheckWork.cleaned, gone]
  exact kept.trans (failed (CheckWork.changed_eq_false.2 ⟨added, removed⟩))

/-- One group with a RESULT: no group of the station, or its missed suspects confirmed and its record cleaned. -/
theorem CheckWork.group_cases (k : CheckWork) (result : Nat × List Nat) :
    k.group result = k ∨ ∃ (c : Channel) (gi : Nat) (before missed l : List Nat),
      k.group result = (l.foldl (fun k m => k.confirm c result.1 gi m) k).cleaned c gi before missed := by
  simp only [CheckWork.group]
  (repeat' split)
  · exact .inl rfl
  · exact .inl rfl
  · exact .inr ⟨_, _, _, _, _, rfl⟩

theorem CheckWork.ReadsFrom.group {n : Nozzle} {k : CheckWork} (h : k.ReadsFrom n) (result : Nat × List Nat) :
    (k.group result).ReadsFrom n := by
  obtain same | ⟨c, gi, before, missed, l, read⟩ := k.group_cases result
  · rwa [same]
  · rw [read]
    exact .cleaned (foldl_invariant _ (ReadsFrom n) (fun _ m hk => hk.confirm c _ gi m) l k h) c gi before missed

theorem Work.readBy_readsFrom (w : Work) (results : List (Nat × List Nat)) :
    (w.readBy results).ReadsFrom w.nozzle :=
  foldl_invariant _ (CheckWork.ReadsFrom w.nozzle) (fun _ result hk => hk.group result) _ _ ⟨rfl, fun _ => rfl⟩

/-- From `n` to `m` the failed list and the map issue stand, or the map issue rises by one, from 255 to 0 (R135). -/
def Nozzle.MapFollows (n m : Nozzle) : Prop := m.issuedMap = n.issuedMap ∨ m.issue = (n.issue + 1) % 256

/-- The map issue rises where the results have changed the failed list. -/
theorem CheckWork.ReadsFrom.renewed {n : Nozzle} {k : CheckWork} (h : k.ReadsFrom n) : n.MapFollows k.renewed := by
  obtain ⟨issue, failed⟩ := h
  cases changed : k.changed
  · exact .inl (Nozzle.issuedMap_eq_iff.2 ⟨failed changed, by simp [CheckWork.renewed_issue, changed, issue]⟩)
  · exact .inr (by simp [CheckWork.renewed_issue, changed, issue])

/-- A check event ends with the map as the reading of its results and the new map issue leave it. -/
theorem Work.checkEvent_issuedMap (w : Work) (results : List (Nat × List Nat)) (served : Option Channel) :
    (w.checkEvent results served).nozzle.issuedMap = (w.readBy results).renewed.issuedMap := by
  obtain ⟨-, failed, issue, -⟩ := w.reported_nozzle (w.readBy results)
  obtain ⟨-, failed', issue', -⟩ := (w.reported (w.readBy results)).judgeServed_rest served
  rw [Work.checkEvent_eq, (Work.withdrawRecovery_onward _).issuedMap, (Work.raiseRecovery_onward _).issuedMap]
  exact Nozzle.issuedMap_eq_iff.2 ⟨failed'.trans failed, issue'.trans issue⟩

theorem Nozzle.MapFollows.congr {n n' m m' : Nozzle} (h : n.MapFollows m) (hn : n'.issuedMap = n.issuedMap)
    (hm : m'.issuedMap = m.issuedMap) : n'.MapFollows m' := by
  obtain ⟨-, issue⟩ := Nozzle.issuedMap_eq_iff.1 hn
  obtain ⟨-, issue'⟩ := Nozzle.issuedMap_eq_iff.1 hm
  unfold Nozzle.MapFollows
  rwa [hn, hm, issue, issue']

theorem Work.checkEvent_mapFollows (w : Work) (results : List (Nat × List Nat)) (served : Option Channel) :
    w.nozzle.MapFollows (w.checkEvent results served).nozzle :=
  (w.readBy_readsFrom results).renewed.congr rfl (w.checkEvent_issuedMap results served)

/-! ### The completion of an action (R96 to R99) -/

/-- A completed CHECK is a check event; every other action leaves the map. -/
theorem Work.complete_mapFollows (w : Work) : w.nozzle.MapFollows w.complete.nozzle := by
  simp only [Work.complete]
  split
  · exact .inl rfl
  · rename_i a _
    split
    case h_7 groups _ =>
      obtain ⟨nozzle, -⟩ :=
        (w.endAction.popStack.setCapped false).checkDone_reports a groups w.endingSequence
      rw [nozzle]
      exact (Work.checkEvent_mapFollows ..).congr (by simp) rfl
    all_goals exact .inl (by simp)

theorem Work.goPark_mapFollows (w : Work) : w.nozzle.MapFollows w.goPark.nozzle := by
  simp only [Work.goPark]
  split
  · exact (Work.complete_mapFollows _).congr (by simp) rfl
  · exact .inl (by simp)

theorem Work.reached_mapFollows (w : Work) : w.nozzle.MapFollows w.reached.nozzle := by
  obtain e | e | e | ⟨k, e⟩ := w.reached_cases <;> rw [e]
  · exact .inl rfl
  · exact w.complete_mapFollows
  · exact Work.goPark_mapFollows { w with service := { w.service with wiper := false } }
  · exact .inl (by simp)

theorem Work.headAnswered_mapFollows (w : Work) : w.nozzle.MapFollows w.headAnswered.nozzle := by
  obtain e | e | e := w.headAnswered_cases <;> rw [e]
  · exact .inl rfl
  · exact Work.goPark_mapFollows { w with service := { w.service with head := none } }
  · exact Work.complete_mapFollows { w with service := { w.service with head := none } }

end Sys2Proof.Machine
end

section
/-! PROOFS. The failed list changes with the map issue alone, which rises by one, where a CHECK may complete (R131,
R132, R135). -/

namespace Sys2Proof.Machine

/-- The commands under which a CHECK may complete: a DONE of the head driver and a position switch. -/
def mayEndCheck : Instr → Bool
  | .headDone _ | .sledArrival _ => true
  | _ => false

theorem body_keepsMap {i : Instr} (w : Work) (h : mayEndCheck i = false) :
    (body i w).nozzle.issuedMap = w.nozzle.issuedMap := by
  cases i
  case headDone | sledArrival => cases h
  case start =>
    simp only [body]
    split
    · simp
    · simp [Work.takeStart_eq, Work.startBlocks_nozzle, Nozzle.issuedMap]
  all_goals
    simp only [body]
  any_goals
    (repeat' split) <;> simp

theorem body_mapFollows {i : Instr} (w : Work) (h : mayEndCheck i = true) :
    w.nozzle.MapFollows (body i w).nozzle := by
  cases i
  case headDone =>
    simp only [body]
    (repeat' split)
    · exact w.headAnswered_mapFollows
    all_goals exact .inl rfl
  case sledArrival =>
    simp only [body]
    split
    · exact Work.reached_mapFollows _
    · exact .inl rfl
  all_goals cases h

/-- Settles O17: by the body of the command, since the end of every event leaves the failed list and the map issue. -/
theorem theMapIssueFollowsTheFailedList : Obligations.TheMapIssueFollowsTheFailedList := by
  intro i s t hc hp
  suffices h : t.nozzle.issuedMap = s.nozzle.issuedMap
      ∨ mayEndCheck i = true ∧ s.nozzle.MapFollows t.nozzle by
    obtain kept | ⟨ends, kept | raised⟩ := h
    · exact .inl (Nozzle.issuedMap_eq_iff.1 kept)
    · exact .inl (Nozzle.issuedMap_eq_iff.1 kept)
    · refine .inr ⟨raised, ?_⟩
      cases i
      case headDone n => exact .inl ⟨n, rfl⟩
      case sledArrival p => exact .inr ⟨p, rfl⟩
      all_goals cases ends
  cases hs : special i
  case false =>
    obtain ⟨-, rfl⟩ | ⟨-, rfl⟩ := completes_cases hs hc
    · exact .inl rfl
    · cases ends : mayEndCheck i
      · exact .inl ((Work.finish_issuedMap _).trans (body_keepsMap _ ends))
      · exact .inr ⟨rfl, (body_mapFollows (Work.begin s) ends).congr rfl (Work.finish_issuedMap _)⟩
  case true =>
    cases i
    case restart =>
      obtain rfl | rfl := completes_restart hc
      · exact .inl rfl
      · exact .inl (Work.finish_issuedMap _)
    case powerOn | resetPinAsserted => cases hp
    all_goals cases hs

end Sys2Proof.Machine
end

section
/-! PROOFS. An own frame sent to its end: what becomes of its slot (R140, R158, R175, R177, R179, R205). -/

namespace Sys2Proof.Machine

/-! ### The end of an own frame, by its slot (R177) -/

/-- The station with its frame off the line. -/
def Work.offLine (w : Work) : Work := { w with link := { w.link with tx := none } }

section
variable {w : Work} {x : TxFrame}

theorem Work.endFrame_replaced (hs : x.slot ≠ .status) (hr : x.replaced = true) : w.endFrame x = w.offLine := by
  unfold Work.endFrame
  split
  case h_4 status => exact absurd status hs
  all_goals exact if_pos hr

theorem Work.endFrame_faultNotice (hs : x.slot = .faultNotice) (hr : x.replaced = false) :
    w.endFrame x = { w.offLine with
      link := { w.offLine.link with faultSlot := false }, faults := { w.faults with notice := none } } := by
  simp only [Work.endFrame, hs, hr]
  rfl

/-- The slot is empty for the first pending notice (R140, R177). -/
theorem Work.endFrame_nozzleNotice (hs : x.slot = .nozzleNotice) (hr : x.replaced = false) :
    ((w.endFrame x).link.nozzleSlot, (w.endFrame x).nozzle.notices) = loaded none w.nozzle.notices := by
  simp only [Work.endFrame, hs, hr]
  exact Work.loadNotice_loaded _

theorem Work.endFrame_tallyReport (hs : x.slot = .tallyReport) (hr : x.replaced = false) :
    w.endFrame x = w.offLine.partSent := by
  simp only [Work.endFrame, hs, hr]
  rfl

theorem Work.endFrame_status (hs : x.slot = .status) :
    w.endFrame x = { w.offLine with link := w.offLine.link.statusSent x.age w.sec1.statusPeriod } := by
  simp only [Work.endFrame, hs]
  rfl

/-- A part of a report but its last goes (R158, R177). -/
theorem Work.partSent_next {r : ReportSlot} (h : w.link.reportSlot = some r) (hp : r.partsSent < 2) :
    w.partSent = { w with
      link := { w.link with reportSlot := some { r with partsSent := r.partsSent + 1 } } } := by
  simp only [Work.partSent, h, hp, if_true]

/-- The last part of a report goes (R158, R177). -/
theorem Work.partSent_last {r : ReportSlot} (h : w.link.reportSlot = some r) (hp : 2 ≤ r.partsSent) :
    w.partSent = { w with
      link := { w.link with reportSlot := none }, tally := { w.tally with outstanding := false } } := by
  simp only [Work.partSent, h, Nat.not_lt.2 hp, if_false]

/-- A STATUS sent with no early request since its beginning, and within the period (R179). -/
theorem Link.statusSent_within {l : Link} {age period : Nat} (he : l.early = false) (ha : age < period) :
    (l.statusSent age period).statusDue = false ∧ (l.statusSent age period).periodCount = age
      ∧ (l.statusSent age period).spacingCount = Nat.min 2 age :=
  ⟨by simp [Link.statusSent, he, ha], Nat.min_eq_right ha.le, rfl⟩

end

theorem Work.loadNotice_line (w : Work) :
    w.loadNotice.link.tx = w.link.tx ∧ w.loadNotice.link.peers = w.link.peers := by
  unfold Work.loadNotice
  split <;> exact ⟨rfl, rfl⟩

theorem Work.partSent_line (w : Work) :
    w.partSent.link.tx = w.link.tx ∧ w.partSent.link.peers = w.link.peers := by
  unfold Work.partSent
  (repeat' split) <;> exact ⟨rfl, rfl⟩

/-- Whatever its slot, the frame leaves the line, and the peer table stays. -/
theorem Work.endFrame_line (w : Work) (x : TxFrame) :
    (w.endFrame x).link.tx = none ∧ (w.endFrame x).link.peers = w.link.peers := by
  simp only [Work.endFrame]
  (repeat' split)
  case h_2.isFalse => exact Work.loadNotice_line _
  case h_3.isFalse => exact Work.partSent_line _
  all_goals exact ⟨rfl, rfl⟩

/-! ### The statement -/

/-- The end of an own frame calls for nothing at the end of its event. -/
theorem completes_frameSent {s : State} {x : TxFrame} (hpin : s.mode.resetPin = false) (hx : s.link.tx = some x) :
    Completes .frameSent s ((Work.begin s).endFrame x).toState := by
  have ended : body .frameSent (Work.begin s) = (Work.begin s).endFrame x := by
    simp only [body, Work.begin_state, hx]
  have quiet : ((Work.begin s).endFrame x).finish = ((Work.begin s).endFrame x).toState :=
    Work.finish_quiet (by simp) (by simp) (by simp) (by simp) (by simp) (by simp) (by simp) (by simp) (by simp)
      (by simp) (by simp)
  rw [← quiet, ← ended]
  exact completes_body rfl hpin

/-- Settles O44: the event is the end of the frame alone, by the slot that it was sent from. -/
theorem sentFrameAdvancesItsSlot : Obligations.SentFrameAdvancesItsSlot := by
  intro s x hpin hx
  obtain ⟨tx, peers⟩ := (Work.begin s).endFrame_line x
  refine ⟨_, completes_frameSent hpin hx, tx, by simp, by simp, by simp, peers, fun hs hr => ?_, fun hs hr => ?_,
    fun hs hr empty => ?_, fun n l next hs hr => ?_, fun r report hs hr => ⟨fun hp => ?_, fun hp => ?_⟩,
    fun hs early within => ?_⟩
  · rw [Work.endFrame_faultNotice hs hr]
    exact ⟨rfl, rfl⟩
  · rw [Work.endFrame_replaced (by simp [hs]) hr]
    exact ⟨rfl, rfl⟩
  · have slot := Work.endFrame_nozzleNotice (w := Work.begin s) hs hr
    rw [Work.begin_state, empty] at slot
    exact (Prod.mk.inj slot).1
  · have slot := Work.endFrame_nozzleNotice (w := Work.begin s) hs hr
    rw [Work.begin_state, next] at slot
    exact Prod.mk.inj slot
  · rw [Work.endFrame_tallyReport hs hr, Work.partSent_next (w := (Work.begin s).offLine) report hp]
    exact ⟨rfl, rfl⟩
  · rw [Work.endFrame_tallyReport hs hr, Work.partSent_last (w := (Work.begin s).offLine) report hp]
    exact ⟨rfl, rfl⟩
  · rw [Work.endFrame_status hs]
    exact Link.statusSent_within early within

end Sys2Proof.Machine
end

section
/-! PROOFS. Orders refused for their mode, or for naming nothing known (R159, R190, R191, R210). -/

namespace Sys2Proof.Machine

/-- Each of these orders has its mode tested before anything else (R190). -/
theorem body_refused_outside_run {i : Instr} {w : Work} {kind : OrderKind} {ref : Nat}
    (h : runOrder i = some (kind, ref)) (hm : w.mode.mode ≠ .run) :
    body i w = w.outcome kind ref .refusedMode := by
  have outside : ¬ w.inRun = true := by simpa [State.inRun] using hm
  cases i <;> cases h <;> exact if_neg outside

/-- So has each CONFIG frame (R190, R191). -/
theorem body_refused_outside_config {i : Instr} {w : Work} {ref : Nat} (h : configOrder i = some ref)
    (hm : w.mode.mode ≠ .config) : body i w = w.outcome .config ref .refusedMode := by
  cases i <;> cases h <;> exact if_neg hm

theorem special_runOrder {i : Instr} {x : OrderKind × Nat} (h : runOrder i = some x) : special i = false := by
  cases i <;> cases h <;> rfl

theorem special_configOrder {i : Instr} {ref : Nat} (h : configOrder i = some ref) : special i = false := by
  cases i <;> cases h <;> rfl

/-- Settles O22: an order's first tests leave the event with an outcome alone. -/
theorem ordersAreRefusedByModeOrName : Obligations.OrdersAreRefusedByModeOrName := by
  refine ⟨fun i s kind ref hi hpin mode => ?_, fun i s ref hi hpin mode => ?_, fun s ref operation hpin =>
    ⟨fun run => ?_, fun config => ?_⟩⟩
  · exact completes_outcome (special_runOrder hi) hpin (body_refused_outside_run hi mode)
  · exact completes_outcome (special_configOrder hi) hpin (body_refused_outside_config hi mode)
  · have inRun : s.inRun = true := by simpa [State.inRun] using run
    exact ⟨completes_outcome rfl hpin (if_pos inRun), completes_outcome rfl hpin (if_pos inRun)⟩
  · exact completes_outcome rfl hpin (if_pos config)

end Sys2Proof.Machine
end

section
/-! PROOFS. Settings and configuration sections are tested, clamped and held, with nothing put in force (R155, R156,
R191 to R193, R211). -/

namespace Sys2Proof.Machine

/-! ### Clamping (R155, R191) -/

theorem clampTo_clamped {lo hi : Nat} (h : lo ≤ hi) (x : Nat) : Clamped lo hi x (clampTo lo hi x) := by
  unfold Clamped clampTo
  refine ⟨fun below => if_pos below, fun above within => ?_, fun beyond => ?_⟩
  · rw [if_neg above.not_gt, if_neg within.not_gt]
  · rw [if_neg (h.trans beyond.le).not_gt, if_pos beyond]

theorem clampSettings_clamped (v : Settings) : SettingsClamped v (clampSettings v) := by
  simp [SettingsClamped, clampSettings, clampTo_clamped]

theorem clampAllSettings_clamped (v : PerChannel Settings) (c : Channel) :
    SettingsClamped (v.get c) ((clampAllSettings v).get c) := by
  rw [clampAllSettings, PerChannel.get_gen]
  exact clampSettings_clamped _

theorem clampSection0_clamped (x : Section0) : Section0Clamped x (clampSection0 x) := by
  simp [Section0Clamped, clampSection0, clampReservoir, clampTo_clamped]

theorem clampSection1_clamped (x : Section1) : Section1Clamped x (clampSection1 x) := by
  simp [Section1Clamped, clampSection1, clampTo_clamped]

theorem clampSection2_clamped (x : Section2) : Section2Clamped x (clampSection2 x) := by
  simp [Section2Clamped, clampSection2, clampTo_clamped]

theorem clampSection3_clamped (x : Section3) : Section3Clamped x (clampSection3 x) := by
  simp [Section3Clamped, clampSection3, clampSection3First, clampLimits, clampTo_clamped, clampAllSettings_clamped]

/-- The outcome says whether anything was replaced (R156, R191). -/
theorem takenCode_replaced {α : Type} [DecidableEq α] (x y : α) :
    takenCode (decide (x ≠ y)) = if x = y then .accepted else .acceptedClamped := by
  by_cases h : x = y <;> simp [takenCode, h]

/-! ### Events of mode control, the tally unit and the link alone -/

/-- An event that calls for nothing at its end, and leaves the ink, the guard line, the refill channels and the move,
leaves the state that its body has made. -/
theorem completes_quiet {i : Instr} {s t : State} (hi : special i = false) (hpin : s.mode.resetPin = false)
    (hb : body i (Work.begin s) = { Work.begin s with toState := t }) (ink : t.ink = s.ink)
    (guard : s.bands.guard = t.bands.guard) (refill : s.refill = t.refill) (move : s.feed.move = t.feed.move) :
    Completes i s t := by
  refine (completes_body hi hpin).trans (congrArg _ ?_)
  rw [hb]
  exact Work.finish_quiet ink rfl rfl rfl rfl rfl rfl rfl guard refill move

/-- A configuration section taken. -/
theorem completes_takeSection {i : Instr} {s : State} {ref : Nat} {m : ModeControl} {clamped : Bool}
    (hi : special i = false) (hpin : s.mode.resetPin = false)
    (hb : body i (Work.begin s) = (Work.begin s).takeSection ref m clamped) :
    Completes i s (({ s with mode := m } : State).withOutcome .config ref (takenCode clamped)) :=
  completes_quiet hi hpin hb rfl rfl rfl rfl

/-! ### SETTINGS (R156) -/

theorem refillMarksFit_iff (v : PerChannel Settings) (x : Section0) :
    refillMarksFit v x = true ↔ ∀ c, (v.get c).refillMark < (x.reservoir.get c).fullLevel := by
  simp only [refillMarksFit, List.all_eq_true, decide_eq_true_eq]
  exact ⟨fun h c => h c (Channel.mem_all c), fun h c _ => h c⟩

section
variable {s : State} {v : PerChannel Settings}

theorem body_settings_unfit (ref : Nat) (run : s.mode.mode = .run)
    (h : ∃ c, (s.reservoir c).fullLevel ≤ (v.get c).refillMark) :
    body (.settings ref v) (Work.begin s) = (Work.begin s).outcome .settings ref .refusedRange := by
  obtain ⟨c, high⟩ := h
  have unfit : refillMarksFit v s.mode.inForce.sec0 = false :=
    Bool.eq_false_iff.2 fun fit => ((refillMarksFit_iff _ _).1 fit c).not_ge high
  simp [body, State.inRun, run, unfit]

theorem body_settings_taken (ref : Nat) (run : s.mode.mode = .run)
    (h : ∀ c, (v.get c).refillMark < (s.reservoir c).fullLevel) :
    body (.settings ref v) (Work.begin s)
      = ({ Work.begin s with tally := { s.tally with pendingCopy := clampAllSettings v } } : Work).outcome .settings ref
          (if clampAllSettings v = v then .accepted else .acceptedClamped) := by
  have fit : refillMarksFit v s.mode.inForce.sec0 = true := (refillMarksFit_iff _ _).2 h
  rw [← takenCode_replaced]
  simp [body, State.inRun, run, fit]

end

/-- Settles O32: the tests of R156 in their order, and the pending copy as clamped. -/
theorem settingsOrderReplacesThePendingCopy : Obligations.SettingsOrderReplacesThePendingCopy := by
  intro s ref v hpin
  refine ⟨fun mode => ?_, fun run high => ?_, fun run fit => ⟨_, clampAllSettings_clamped v, ?_⟩⟩
  · exact completes_outcome rfl hpin (body_refused_outside_run rfl mode)
  · exact completes_outcome rfl hpin (body_settings_unfit ref run high)
  · exact completes_quiet rfl hpin (body_settings_taken ref run fit) rfl rfl rfl rfl

/-! ### CONFIG (R191, R211) -/

section
variable {s : State} (hpin : s.mode.resetPin = false) (config : s.mode.mode = .config)
include hpin config

theorem completes_section0_unfit (ref : Nat) {x : Section0} (h : ¬ marksWithin (clampSection0 x)) :
    Completes (.configSection0 ref x) s (s.withOutcome .config ref .refusedRange) := by
  rw [← marksFit_iff, Bool.not_eq_true] at h
  exact completes_outcome rfl hpin (by simp [body, config, h])

theorem completes_section0_taken (ref : Nat) {x : Section0} (h : marksWithin (clampSection0 x)) :
    Completes (.configSection0 ref x) s
      (({ s with mode := { s.mode with
          held := { s.mode.held with sec0 := clampSection0 x }, received0 := true } } :
        State).withOutcome .config ref (if clampSection0 x = x then .accepted else .acceptedClamped)) := by
  rw [← marksFit_iff] at h
  rw [← takenCode_replaced]
  exact completes_takeSection rfl hpin (by simp [body, config, h])

theorem completes_section1 (ref : Nat) (x : Section1) :
    Completes (.configSection1 ref x) s
      (({ s with mode := { s.mode with
          held := { s.mode.held with sec1 := clampSection1 x }, received1 := true } } :
        State).withOutcome .config ref (if clampSection1 x = x then .accepted else .acceptedClamped)) := by
  rw [← takenCode_replaced]
  exact completes_takeSection rfl hpin (if_pos config)

theorem completes_section2 (ref : Nat) (x : Section2) :
    Completes (.configSection2 ref x) s
      (({ s with mode := { s.mode with
          held := { s.mode.held with sec2 := clampSection2 x }, received2 := true } } :
        State).withOutcome .config ref (if clampSection2 x = x then .accepted else .acceptedClamped)) := by
  rw [← takenCode_replaced]
  exact completes_takeSection rfl hpin (if_pos config)

theorem completes_section3_first (ref : Nat) (x : Section3First) :
    Completes (.configSection3FirstPart ref x) s
      { s with mode := { s.mode with firstPart := some { ref := ref, content := x } } } :=
  completes_quiet rfl hpin (if_pos config) rfl rfl rfl rfl

/-- No first part is held, or one of another reference (R211). -/
theorem completes_section3_unmatched (ref : Nat) (v : PerChannel Settings)
    (h : ∀ y, s.mode.firstPart ≠ some { ref := ref, content := y }) :
    Completes (.configSection3SecondPart ref v) s (s.withOutcome .config ref .refusedSequence) := by
  refine completes_outcome rfl hpin ?_
  simp only [body, Work.begin_state, config, if_true]
  split
  · rfl
  · rename_i f held
    refine if_neg ?_
    rintro rfl
    exact h f.content held

theorem completes_section3_second (ref : Nat) {f : Section3First} (v : PerChannel Settings)
    (h : s.mode.firstPart = some { ref := ref, content := f }) :
    Completes (.configSection3SecondPart ref v) s
      (({ s with mode := { s.mode with
          held := { s.mode.held with sec3 := clampSection3 { first := f, initial := v } }
          received3 := true, firstPart := none } } :
        State).withOutcome .config ref
          (if clampSection3 { first := f, initial := v } = { first := f, initial := v } then .accepted
            else .acceptedClamped)) := by
  rw [← takenCode_replaced]
  exact completes_takeSection rfl hpin (by simp [body, config, h])

end

/-- Settles O36: each section is held as its clamping gives it, section 3 with its second frame. -/
theorem configSectionsAreHeldAsClamped : Obligations.ConfigSectionsAreHeldAsClamped := by
  refine ⟨fun s ref x0 x1 x2 hpin config => ⟨?_, ?_, ?_⟩, fun s ref x v hpin config => ⟨?_, ?_, fun f held => ?_⟩⟩
  · exact ⟨_, clampSection0_clamped x0, completes_section0_unfit hpin config ref,
      completes_section0_taken hpin config ref⟩
  · exact ⟨_, clampSection1_clamped x1, completes_section1 hpin config ref x1⟩
  · exact ⟨_, clampSection2_clamped x2, completes_section2 hpin config ref x2⟩
  · exact completes_section3_first hpin config ref x
  · exact completes_section3_unmatched hpin config ref v
  · exact ⟨_, clampSection3_clamped _, completes_section3_second hpin config ref v held⟩

end Sys2Proof.Machine
end

section
/-! PROOFS. TALLY orders: a peek, and a full close that opens the next period (R158 to R162). -/

namespace Sys2Proof.Machine

/-! ### The TALLY order (R159, R162) -/

section
variable {s : State} (hs : s.running) (ref : Nat)
include hs

/-- With a CLOSE report outstanding neither operation is taken. -/
theorem completes_tally_busy (h : s.tally.outstanding = true) :
    Completes (.tallyClose ref) s (s.withOutcome .tally ref .refusedBusy)
      ∧ Completes (.tallyPeek ref) s (s.withOutcome .tally ref .refusedBusy) := by
  obtain ⟨hpin, run⟩ := hs
  constructor <;> exact completes_outcome rfl hpin (by simp [body, State.inRun, run, h])

theorem body_tallyPeek_taken (h : s.tally.outstanding = false) :
    body (.tallyPeek ref) (Work.begin s)
      = ((Work.begin s).loadReport (s.snapshot true false)).outcome .tally ref .accepted := by
  obtain ⟨-, run⟩ := hs
  simp [body, State.inRun, run, h, Work.peekPeriod]

theorem body_tallyClose_taken (h : s.tally.outstanding = false) :
    body (.tallyClose ref) (Work.begin s) = (Work.begin s).fullClose.outcome .tally ref .accepted := by
  obtain ⟨-, run⟩ := hs
  simp [body, State.inRun, run, h]

end

/-- Settles O34: a peek's event loads the TALLY REPORT slot and calls for nothing else. -/
theorem tallyPeekReportsThePeriodSoFar : Obligations.TallyPeekReportsThePeriodSoFar := by
  intro s ref hs
  refine ⟨fun busy => (completes_tally_busy hs ref busy).2, fun free => ?_⟩
  exact completes_quiet rfl hs.1 (body_tallyPeek_taken hs ref free) rfl rfl rfl rfl

/-! ### Coverage leaves all of a record but its judgement (R20) -/

theorem BandRecord.unjudged_rejudged {r : BandRecord} {st : BandState}
    (hr : r.state = .announced ∨ r.state = .covered) (hst : st = .announced ∨ st = .covered) :
    ({ r with state := st } : BandRecord).unjudged = r.unjudged := by
  cases r
  obtain rfl | rfl := hst <;> obtain rfl | rfl := hr <;> rfl

theorem State.coverWalk_unjudged (s : State) (l : List BandRecord) (sums : PerChannel Nat) (ahead : Bool) :
    (s.coverWalk l sums ahead).map BandRecord.unjudged = l.map BandRecord.unjudged := by
  induction l generalizing sums ahead with
  | nil => rfl
  | cons r l ih =>
    cases st : r.state <;> simp only [State.coverWalk, st]
    case printing | stale => simp [ih]
    case announced | covered => split <;> simp [ih, BandRecord.unjudged_rejudged, st]

theorem Work.coverStage_unjudged (w : Work) :
    w.coverStage.bands.records.map BandRecord.unjudged = w.bands.records.map BandRecord.unjudged := by
  unfold Work.coverStage
  split
  · exact w.coverWalk_unjudged _ _ _
  · rfl

theorem Work.finish_records_unjudged (w : Work) :
    w.finish.bands.records.map BandRecord.unjudged = w.bands.records.map BandRecord.unjudged := by
  rw [Work.finish_stages, (Work.guardStage_bands _).1, Work.coverStage_unjudged]
  simp

theorem BandRecord.unjudged_fields (r : BandRecord) :
    r.unjudged.volume = r.volume ∧ r.unjudged.drops = r.drops
      ∧ (r.unjudged.state = .printing ↔ r.state = .printing) := by
  unfold BandRecord.unjudged
  split
  · simp [*]
  · exact ⟨rfl, rfl, Iff.rfl⟩

/-- Every record that is not PRINTING is valued under the settings and the configuration in force (R6). -/
def State.valuesQueue (s : State) : Prop :=
  ∀ r ∈ s.bands.records, r.state ≠ .printing → r.volume = PerChannel.gen (s.bandVolume r.drops)

theorem Work.revalue_valuesQueue (w : Work) : w.revalue.valuesQueue := by
  intro r hr still
  obtain ⟨x, -, rfl⟩ := List.mem_map.1 hr
  split at still
  · exact absurd ‹_› still
  · rw [if_neg ‹_›]
    rfl

theorem State.bandVolume_congr {s t : State} (ht : t.tally = s.tally) (hm : t.mode = s.mode) :
    t.bandVolume = s.bandVolume := by
  funext d c
  unfold State.bandVolume State.enabled State.settingsOf
  rw [ht, hm]

theorem Work.finish_valuesQueue {w : Work} (h : w.valuesQueue) : w.finish.valuesQueue := by
  intro r hr still
  have judged := List.mem_map_of_mem (f := BandRecord.unjudged) hr
  rw [Work.finish_records_unjudged] at judged
  obtain ⟨x, hx, same⟩ := List.mem_map.1 judged
  obtain ⟨rVolume, rDrops, rState⟩ := r.unjudged_fields
  obtain ⟨xVolume, xDrops, xState⟩ := x.unjudged_fields
  rw [same] at xVolume xDrops xState
  obtain ⟨-, tally, mode, -⟩ := w.finish_frame
  rw [State.bandVolume_congr tally mode, ← rVolume, ← rDrops, xVolume, xDrops]
  exact h x hx fun printing => still (rState.1 (xState.2 printing))

/-! ### A full close (R160, R161) -/

theorem Work.fullClose_ledger (w : Work) :
    w.fullClose.ink = w.ink ∧ w.fullClose.mode = w.mode
      ∧ w.fullClose.link.reportSlot = some { report := w.snapshot false false, partsSent := 0 }
      ∧ w.fullClose.tally = { w.tally.opened w.ink with
          prior := w.tally.inForce
          inForce := { issue := (w.tally.inForce.issue + 1) % 256, values := w.tally.pendingCopy } } :=
  ⟨rfl, rfl, rfl, rfl⟩

/-- Settles O33: the close leaves the tallies and the slot, and the end of its event the records as revalued. -/
theorem tallyCloseOpensANewPeriod : Obligations.TallyCloseOpensANewPeriod := by
  intro s ref hs
  refine ⟨fun busy => (completes_tally_busy hs ref busy).1, fun free => ?_⟩
  have done := completes_body (i := .tallyClose ref) rfl hs.1
  rw [body_tallyClose_taken hs ref free] at done
  obtain ⟨ink, mode, slot, tally⟩ := (Work.begin s).fullClose_ledger
  obtain ⟨inkEnd, tallyEnd, modeEnd, -⟩ := ((Work.begin s).fullClose.outcome .tally ref .accepted).finish_frame
  obtain ⟨-, -, -, slotEnd, -, -, -, -, -, -, shown, -⟩ :=
    ((Work.begin s).fullClose.outcome .tally ref .accepted).finish_link
  exact ⟨_, done, shown, inkEnd.trans ink, modeEnd.trans mode, slotEnd.trans slot, tallyEnd.trans tally,
    Work.finish_valuesQueue (Work.revalue_valuesQueue _)⟩

end Sys2Proof.Machine
end

section
/-! PROOFS. Which commands change the configuration in force, the held sections, and the copies of the metering
settings (R155, R156, R161, R166, R188, R191, R196). -/

namespace Sys2Proof.Machine

/-! ### Mode control -/

/-- Entering HALTED leaves every section (R199). -/
@[simp] theorem Work.hearOwnNumber_sections (w : Work) :
    w.hearOwnNumber.mode.held = w.mode.held ∧ w.hearOwnNumber.mode.inForce = w.mode.inForce
      ∧ w.hearOwnNumber.mode.started = w.mode.started := by
  simp only [Work.hearOwnNumber, Work.enterHalted]
  split <;> simp

theorem body_keepsConfiguration {i : Instr} (w : Work) (h : ∀ ref, i ≠ .start ref) :
    (body i w).mode.inForce = w.mode.inForce ∧ (body i w).mode.started = w.mode.started := by
  cases i
  case start ref => exact absurd rfl (h ref)
  all_goals
    simp only [body]
  any_goals
    (repeat' split) <;> simp [Work.takeSection_mode]

theorem body_keepsHeld {i : Instr} (w : Work) (h : configOrder i = none) : (body i w).mode.held = w.mode.held := by
  cases i
  case configSection0 | configSection1 | configSection2 | configSection3FirstPart | configSection3SecondPart
    | configUnknownSection => cases h
  case start =>
    obtain ⟨-, -, mode⟩ := w.takeStart_ledger
    simp only [body]
    split <;> simp [mode, ModeControl.running]
  all_goals
    simp only [body]
  any_goals
    (repeat' split) <;> simp

/-! ### The copies of the metering settings (R155) -/

/-- The three copies of the metering settings: pending, in force and prior. -/
def Tally.copies (t : Tally) : PerChannel Settings × SettingsCopy × SettingsCopy := (t.pendingCopy, t.inForce, t.prior)

theorem Tally.copies_eq {t u : Tally} (h : t.copies = u.copies) :
    t.pendingCopy = u.pendingCopy ∧ t.inForce = u.inForce ∧ t.prior = u.prior := by
  simpa [Tally.copies] using h

@[simp] theorem Work.addTally_copies (w : Work) (c : Channel) (k : Amount) (n : Nat) :
    (w.addTally c k n).tally.copies = w.tally.copies := rfl

@[simp] theorem Work.adjust_copies (w : Work) (c : Channel) (d : Int) :
    (w.adjust c d).tally.copies = w.tally.copies := rfl

@[simp] theorem Work.giveUp_copies (w : Work) (k : Amount) (c : Channel) (whole residue blind : Nat) :
    (w.giveUp k c whole residue blind).tally.copies = w.tally.copies := by
  simp only [Work.giveUp, Work.takeUnknown, Work.takeWhole]
  (repeat' split) <;> simp

@[simp] theorem Work.credit_copies (w : Work) (c : Channel) : (w.credit c).tally.copies = w.tally.copies := by
  simp only [Work.credit]
  (repeat' split) <;> simp

@[simp] theorem Work.markReconcile_copies (w : Work) (c : Channel) (m : MarkName) (wet : Bool) :
    (w.markReconcile c m wet).tally.copies = w.tally.copies := by
  simp only [Work.markReconcile, Work.reconcile, Work.anchor]
  (repeat' split) <;> simp

@[simp] theorem Work.closePeriod_copies (w : Work) (limited : Bool) :
    (w.closePeriod limited).tally.copies = w.tally.copies := rfl

@[simp] theorem Work.edgeOperation_copies (w : Work) (close peek : Bool) :
    (w.edgeOperation close peek).tally.copies = w.tally.copies := by
  simp only [Work.edgeOperation, Work.peekPeriod]
  (repeat' split) <;> simp

@[simp] theorem Work.takeLeading_copies (w : Work) : w.takeLeading.tally.copies = w.tally.copies := by
  have edge : ∀ v : Work, v.tallyLeading.tally.copies = v.tally.copies := fun _ => Work.edgeOperation_copies _ _ _
  simp [Work.takeLeading, edge]

@[simp] theorem Work.takeTrailing_copies (w : Work) : w.takeTrailing.tally.copies = w.tally.copies := by
  have edge : ∀ v : Work, v.tallyTrailing.tally.copies = v.tally.copies := fun _ => Work.edgeOperation_copies _ _ _
  simp [Work.takeTrailing, edge]

/-- The parts of a report sent end at most the wait for it (R158). -/
@[simp] theorem Work.endFrame_copies (w : Work) (x : TxFrame) : (w.endFrame x).tally.copies = w.tally.copies := by
  simp only [Work.endFrame, Work.partSent]
  (repeat' split) <;> simp [Tally.copies]

theorem ledgerClosed_copies (t : Tally) : LedgerClosed fun w => w.tally.copies = t.copies where
  same h _ ht _ := ht ▸ h
  give _ _ h := (Work.giveUp_copies ..).trans h
  count h := h

/-- The commands that put other settings in a copy. -/
def movesCopies : Instr → Bool
  | .start _ | .tallyClose _ | .settings _ _ => true
  | _ => false

theorem body_keepsCopies {i : Instr} (w : Work) (hs : special i = false) (h : movesCopies i = false) :
    (body i w).tally.copies = w.tally.copies := by
  cases i
  case start | tallyClose | settings => cases h
  case encoderCount | abortSheet | headDone | sledArrival | sheet =>
    exact (ledgerClosed_copies w.tally).body_gives _ ⟨.cyan, rfl⟩ hs (by simp) (by simp) (by simp) rfl
  all_goals
    simp only [body]
  any_goals
    (repeat' split) <;> simp

theorem body_settings_keeps (w : Work) (ref : Nat) (v : PerChannel Settings) :
    (body (.settings ref v) w).tally.inForce = w.tally.inForce
      ∧ (body (.settings ref v) w).tally.prior = w.tally.prior := by
  simp only [body]
  (repeat' split) <;> exact ⟨rfl, rfl⟩

theorem body_tallyClose_keeps (w : Work) (ref : Nat) :
    (body (.tallyClose ref) w).tally.pendingCopy = w.tally.pendingCopy := by
  simp only [body]
  (repeat' split) <;> rfl

theorem body_keepsSettings {i : Instr} (w : Work) (hs : special i = false) (start : ∀ ref, i ≠ .start ref)
    (close : ∀ ref, i ≠ .tallyClose ref) :
    (body i w).tally.inForce = w.tally.inForce ∧ (body i w).tally.prior = w.tally.prior := by
  cases h : movesCopies i
  case false => exact (Tally.copies_eq (body_keepsCopies w hs h)).2
  case true =>
    cases i
    case start ref => exact absurd rfl (start ref)
    case tallyClose ref => exact absurd rfl (close ref)
    case settings ref v => exact body_settings_keeps w ref v
    all_goals cases h

theorem body_keepsPending {i : Instr} (w : Work) (hs : special i = false) (start : ∀ ref, i ≠ .start ref)
    (settings : ∀ ref v, i ≠ .settings ref v) : (body i w).tally.pendingCopy = w.tally.pendingCopy := by
  cases h : movesCopies i
  case false => exact (Tally.copies_eq (body_keepsCopies w hs h)).1
  case true =>
    cases i
    case start ref => exact absurd rfl (start ref)
    case settings ref v => exact absurd rfl (settings ref v)
    case tallyClose ref => exact body_tallyClose_keeps w ref
    all_goals cases h

/-! ### The statement -/

/-- A RESTART leaves the configuration, the held sections and the settings (R167, R197). -/
theorem Work.takeRestart_settings (w : Work) (straps : StationNo) :
    (w.takeRestart straps).mode.inForce = w.mode.inForce ∧ (w.takeRestart straps).mode.started = w.mode.started
      ∧ (w.takeRestart straps).mode.held = w.mode.held
      ∧ (w.takeRestart straps).tally.copies = w.tally.copies := ⟨rfl, rfl, rfl, rfl⟩

/-- Settles O14: each body, and the end of its event, leaves what the clause speaks of; so does a RESTART. -/
theorem onlyTheseEventsChangeTheConfiguration : Obligations.OnlyTheseEventsChangeTheConfiguration := by
  intro i s t hc hp
  cases hs : special i
  case false =>
    obtain ⟨-, rfl⟩ | ⟨-, rfl⟩ := completes_cases hs hc
    · exact ⟨fun _ => ⟨rfl, rfl⟩, fun _ => rfl, fun _ _ => ⟨rfl, rfl⟩, fun _ _ => rfl⟩
    · obtain ⟨-, tally, mode, -⟩ := (body i (Work.begin s)).finish_frame
      rw [tally, mode]
      exact ⟨body_keepsConfiguration _, body_keepsHeld _, body_keepsSettings _ hs, body_keepsPending _ hs⟩
  case true =>
    cases i
    case restart ref straps =>
      obtain rfl | rfl := completes_restart hc
      · exact ⟨fun _ => ⟨rfl, rfl⟩, fun _ => rfl, fun _ _ => ⟨rfl, rfl⟩, fun _ _ => rfl⟩
      · obtain ⟨-, tally, mode, -⟩ := (((Work.begin s).takeRestart straps).outcome .restart ref .accepted).finish_frame
        obtain ⟨inForce, started, held, copies⟩ := (Work.begin s).takeRestart_settings straps
        obtain ⟨pending, settings⟩ := Tally.copies_eq copies
        rw [tally, mode]
        exact ⟨fun _ => ⟨inForce, started⟩, fun _ => held, fun _ _ => settings, fun _ _ => pending⟩
    case powerOn | resetPinAsserted => cases hp
    all_goals cases hs

end Sys2Proof.Machine
end

section
/-! SUPPORT. A link error counted (R173), and an own frame that leaves the line unsent (R170). -/

namespace Sys2Proof.Machine

/-! ### The error window (R173) -/

/-- The error window that runs, or else a new one from the counter as it stands. -/
def Link.window (l : Link) : ErrorWindow :=
  l.errorWindow.getD { left := 1000, base := l.errors, raised := false }

/-- The link with one error more, its window marked or not. -/
def Link.counted (l : Link) (raised : Bool) : Link :=
  { l with errors := Nat.min 65535 (l.errors + 1), errorWindow := some { l.window with raised := raised } }

@[simp] theorem Link.counted_fields (l : Link) (raised : Bool) :
    (l.counted raised).errors = Nat.min 65535 (l.errors + 1)
      ∧ (l.counted raised).errorWindow = some { l.window with raised := raised }
      ∧ (l.counted raised).peers = l.peers ∧ (l.counted raised).controller = l.controller
      ∧ (l.counted raised).outcome = l.outcome := by
  simp only [Link.counted, and_self]

/-- One error more is to raise LINK ERRORS: a START has been made, the window is unmarked, and the counter comes to
stand above the window's value by more than the limit. -/
def State.overErrors (s : State) : Prop :=
  s.mode.started = true ∧ s.link.window.raised = false
    ∧ s.link.window.base + s.sec1.errorLimit < Nat.min 65535 (s.link.errors + 1)

open Classical in
theorem Work.linkError_eq (w : Work) :
    w.linkError =
      if w.overErrors then ({ w with link := w.link.counted true } : Work).raise .linkErrors .none
      else { w with link := w.link.counted w.link.window.raised } := by
  unfold Work.linkError State.overErrors Link.counted Link.window
  cases w.link.errorWindow <;> simp [Config.errorWindowTicks, and_assoc]

theorem Work.linkError_over {w : Work} (h : w.overErrors) :
    w.linkError = ({ w with link := w.link.counted true } : Work).raise .linkErrors .none := by
  rw [Work.linkError_eq, if_pos h]

theorem Work.linkError_within {w : Work} (h : ¬ w.overErrors) :
    w.linkError = { w with link := w.link.counted w.link.window.raised } := by
  rw [Work.linkError_eq, if_neg h]

theorem Work.linkError_link (w : Work) : ∃ raised, w.linkError.link = w.link.counted raised := by
  by_cases h : w.overErrors
  · exact ⟨true, by rw [Work.linkError_over h]; rfl⟩
  · exact ⟨_, by rw [Work.linkError_within h]⟩

/-! ### A frame that leaves the line unsent (R170) -/

/-- The event of a frame lost, its link as the loss leaves it. -/
def State.frameLost (s : State) : Work := { Work.begin s with link := s.link.txLost }

theorem Link.txLost_eq {l : Link} {x : TxFrame} (h : l.tx = some x) :
    l.txLost = { l with tx := none, early := l.early || x.earlyBefore } := by
  simp only [Link.txLost, h]

theorem body_arbitrationLost_busy {s : State} (h : s.link.tx.isSome = true) :
    body .arbitrationLost (Work.begin s) = { Work.begin s with link := s.link.txLost } := if_pos h

theorem body_transmitMismatch_busy {s : State} (h : s.link.tx.isSome = true) :
    body .transmitMismatch (Work.begin s) = s.frameLost.linkError := if_pos h

end Sys2Proof.Machine
end

section
/-! PROOFS. An own frame begun from its slot, and one lost (R170, R175, R176, R179, R186). -/

namespace Sys2Proof.Machine

/-! ### The slot that an idle line would take a frame from (R176, R186) -/

/-- The slot on offer is the one that the statements say sends. -/
theorem State.offeredSlot_iff (s : State) (x : Slot) : s.offeredSlot = some x ↔ s.sends x := by
  unfold State.offeredSlot Link.unsent slotAllowed
  cases hf : s.link.faultSlot
  case true => cases x <;> simp [State.sends, hf]
  case false =>
    by_cases run : s.mode.mode = .run
    case neg => cases x <;> cases hd : s.link.statusDue <;> simp [State.sends, hf, run, hd]
    case pos =>
      cases hn : s.link.nozzleSlot
      case some => cases x <;> simp [State.sends, hf, run, hn]
      case none =>
        cases hr : s.link.reportSlot
        case some => cases x <;> simp [State.sends, hf, run, hn, hr]
        case none => cases x <;> cases hd : s.link.statusDue <;> simp [State.sends, hf, run, hn, hr, hd]

/-! ### A frame begun (R176) -/

section
variable {s : State} {x : Slot}

theorem body_frameBegin_sends (hx : s.sends x) (idle : s.link.tx = none) :
    body .frameBegin (Work.begin s) = (Work.begin s).beginFrame x := by
  simp only [body, Work.begin_state, idle, (s.offeredSlot_iff x).2 hx]

/-- With a frame on the line, or no slot to send from, none begins. -/
theorem body_frameBegin_none (h : s.link.tx.isSome = true ∨ ∀ x, ¬ s.sends x) :
    body .frameBegin (Work.begin s) = Work.begin s := by
  simp only [body, Work.begin_state]
  split
  next x idle offered =>
    refine h.elim (fun busy => ?_) fun none => absurd ((s.offeredSlot_iff x).1 offered) (none x)
    simp [idle] at busy
  next => rfl

end

/-! ### The statement -/

/-- Counting an error moves no slot, and the end of the event may ask for a FAULT NOTICE and an early STATUS besides
what is unsent. -/
theorem Work.linkError_finish_slots (w : Work) :
    w.linkError.finish.link.tx.isSome = w.link.tx.isSome
      ∧ w.linkError.finish.link.nozzleSlot = w.link.nozzleSlot
      ∧ w.linkError.finish.link.reportSlot = w.link.reportSlot
      ∧ (w.link.statusDue = true → w.linkError.finish.link.statusDue = true)
      ∧ (w.link.early = true → w.linkError.finish.link.early = true)
      ∧ (w.link.faultSlot = true → w.linkError.finish.link.faultSlot = true) := by
  obtain ⟨raised, link⟩ := w.linkError_link
  obtain ⟨-, -, nozzle, report, due, early, -, -, -, -, -, tx, fault⟩ := w.linkError.finish_link
  rw [link] at nozzle report due early tx fault
  exact ⟨tx, nozzle, report, due, early, fault⟩

/-- Settles O43: the beginning and the loss of a frame are changes of the link alone; a mismatch counts an error
besides, which leaves the slots. -/
theorem ownFrameBeginsAndIsLost : Obligations.OwnFrameBeginsAndIsLost := by
  refine ⟨fun s hpin => ⟨fun x hx idle => ?_, fun h => ?_⟩, fun s x hpin hx => ⟨?_, ?_⟩⟩
  · exact completes_link rfl hpin ((body_frameBegin_sends hx idle).trans (by simp [Work.beginFrame]))
  · exact completes_unchanged rfl (body_frameBegin_none h)
  · rw [← Link.txLost_eq hx]
    exact completes_link rfl hpin (body_arbitrationLost_busy (by simp [hx]))
  · have completes := completes_body (i := .transmitMismatch) rfl hpin
    rw [body_transmitMismatch_busy (by simp [hx])] at completes
    have lost : s.frameLost.link = { s.link with tx := none, early := s.link.early || x.earlyBefore } :=
      Link.txLost_eq hx
    obtain ⟨tx, nozzle, report, due, early, fault⟩ := s.frameLost.linkError_finish_slots
    rw [lost] at tx nozzle report due early fault
    exact ⟨_, completes, by simpa using tx, nozzle, report, due, fun h => early (by simpa using h), fault⟩

end Sys2Proof.Machine
end

section
/-! PROOFS. Link errors counted, and the fault that they come to (R170, R171, R173, R194). -/

namespace Sys2Proof.Machine

section
variable {w : Work}

/-- The counter and the window after the event, whatever became of the window's mark. -/
theorem Work.linkError_finish (w : Work) :
    w.linkError.finish.link.errors = Nat.min 65535 (w.link.errors + 1)
      ∧ w.linkError.finish.link.peers = w.link.peers ∧ w.linkError.finish.link.outcome = w.link.outcome := by
  obtain ⟨raised, link⟩ := w.linkError_link
  obtain ⟨errors, -, -, -, -, -, -, -, peers, -, outcome, -⟩ := w.linkError.finish_link
  obtain ⟨counted, -, peersKept, -, outcomeKept⟩ := w.link.counted_fields raised
  rw [link] at errors peers outcome
  exact ⟨errors.trans counted, peers.trans peersKept, outcome.trans outcomeKept⟩

/-- An error beyond the limit marks the window and raises LINK ERRORS. -/
theorem Work.linkError_finish_over (h : w.overErrors) :
    w.linkError.finish.link.errorWindow = some { w.link.window with raised := true }
      ∧ FaultCode.linkErrors ∈ w.linkError.finish.faults.active := by
  have raises : ({ code := .linkErrors, detail := .none } : Raise) ∈ w.linkError.raised := by
    simp [Work.linkError_over h, Work.raise]
  obtain ⟨-, window, -⟩ := w.linkError.finish_link
  have marked : w.linkError.link = w.link.counted true := by rw [Work.linkError_over h]; rfl
  obtain ⟨-, counted, -⟩ := w.link.counted_fields true
  rw [marked, counted] at window
  exact ⟨window, Work.finish_raised raises⟩

/-- Any other error leaves the window's mark and the fault unit. -/
theorem Work.linkError_finish_within (h : ¬ w.overErrors) (hi : w.ink = w.pre.ink) (hr : w.raised = []) :
    w.linkError.finish.link.errorWindow = some w.link.window ∧ w.linkError.finish.faults = w.faults := by
  have unraised : w.linkError.raised = [] := by rw [Work.linkError_within h, hr]
  obtain ⟨-, window, -⟩ := w.linkError.finish_link
  have kept : w.linkError.link = w.link.counted w.link.window.raised := by rw [Work.linkError_within h]
  obtain ⟨-, counted, -⟩ := w.link.counted_fields w.link.window.raised
  rw [kept, counted] at window
  refine ⟨window, ?_⟩
  rw [Work.finish_faults, Work.overfillTests_same (by simpa using hi), Work.faultStage_none unraised]
  simp

end

/-- What both commands begin with: the event with a link whose counter and window are the state's. -/
theorem body_countsError {i : Instr} {s : State}
    (h : i = .frameDiscarded ∨ i = .transmitMismatch ∧ s.link.tx.isSome = true) :
    ∃ l : Link, body i (Work.begin s) = ({ Work.begin s with link := l } : Work).linkError
      ∧ l.errors = s.link.errors ∧ l.window = s.link.window ∧ l.peers = s.link.peers
      ∧ l.outcome = s.link.outcome := by
  obtain rfl | ⟨rfl, busy⟩ := h
  · exact ⟨s.link, rfl, rfl, rfl, rfl, rfl⟩
  · exact ⟨s.link.txLost, body_transmitMismatch_busy busy, rfl, rfl, rfl, rfl⟩

/-- Settles O42: either command is one counted error, and the error that is to raise LINK ERRORS is told from the
others by the counter and the window alone. -/
theorem linkErrorsAreCounted : Obligations.LinkErrorsAreCounted := by
  intro i s hpin hi n x marked
  obtain ⟨l, counts, errors, window, peers, outcome⟩ := body_countsError hi
  have completes := completes_body (i := i) (by obtain rfl | ⟨rfl, -⟩ := hi <;> rfl) hpin
  rw [counts] at completes
  generalize hw : ({ Work.begin s with link := l } : Work) = w at completes
  have link : w.link = l := by rw [← hw]
  have limit : w.overErrors ↔ marked := by
    rw [State.overErrors, link, window, errors, ← hw]
    rfl
  obtain ⟨errorsEnd, peersEnd, outcomeEnd⟩ := w.linkError_finish
  rw [link] at errorsEnd peersEnd outcomeEnd
  refine ⟨_, completes, by rw [errorsEnd, errors], fun h => ?_, fun h => ?_, peersEnd.trans peers,
    outcomeEnd.trans outcome, ?_⟩
  · obtain ⟨windowEnd, raised⟩ := Work.linkError_finish_over (limit.2 h)
    rw [link, window] at windowEnd
    exact ⟨windowEnd, raised⟩
  · obtain ⟨windowEnd, faults⟩ := Work.linkError_finish_within (w := w) (fun k => h (limit.1 k)) (by rw [← hw]; rfl)
      (by rw [← hw]; rfl)
    rw [link, window] at windowEnd
    exact ⟨windowEnd, by rw [faults, ← hw]; rfl⟩
  · subst hw
    exact Work.finish_sameLedgers (by simp) (by simp) (by simp) (by simp) (by simp) (by simp)

end Sys2Proof.Machine
end

section
/-! PROOFS. A heard frame with the station's own number halts it (R174, R199). -/

namespace Sys2Proof.Machine

/-- What entering HALTED does to its own blocks. -/
theorem Work.enterHalted_blocks (w : Work) :
    w.enterHalted.mode = { w.mode with mode := .halted }
      ∧ w.enterHalted.keepWet = { w.keepWet with counter := none, cappedTicks := 0 }
      ∧ w.enterHalted.feed = { w.feed with move := w.feed.move.map fun m => m.turned .running .held }
      ∧ w.enterHalted.drive = true
      ∧ w.enterHalted.raised = w.raised ++ [{ code := .duplicateStation, detail := .none }] :=
  ⟨rfl, rfl, rfl, rfl, rfl⟩

/-- A RUNNING move has been turned HELD. -/
theorem Move.turned_ne (m : Move) {old new : MoveState} (h : new ≠ old) : (m.turned old new).state ≠ old := by
  unfold Move.turned
  split
  · exact h
  · assumption

/-- Every refill channel is HELD once the event is over. -/
theorem Work.enterHalted_held (w : Work) (c : Channel) : (w.enterHalted.finish.refill.get c).state = .held := by
  have held : w.enterHalted.valvesHeld := fun _ d => Work.holdRefill_held _ d
  exact Work.finish_valvesHeld held (.inl (by simp [w.enterHalted_blocks])) c

/-- FHOLD is driven once the event is over (R76). -/
theorem Work.enterHalted_drives (w : Work) : w.enterHalted.finish.feed.fholdDrive = true := by
  obtain ⟨halted, -, -, drive, -⟩ := w.enterHalted_blocks
  exact Work.finish_fholdHeld (.inl drive) (.inl (by simp [halted]))

/-- Both commands halt a station that is not HALTED. -/
theorem body_halts {i : Instr} {s : State} (hm : s.mode.mode ≠ .halted)
    (h : i = .duplicateStationHeard ∨ ∃ f, i = .peerStatusHeard s.mode.station f) :
    body i (Work.begin s) = (Work.begin s).enterHalted := by
  have halts : (Work.begin s).hearOwnNumber = (Work.begin s).enterHalted := if_neg hm
  obtain rfl | ⟨f, rfl⟩ := h
  · exact halts
  · exact (if_pos rfl).trans halts

/-- Settles O40: the body enters HALTED, and outside RUN the end of the event starts nothing, opens no valve and drives
FHOLD. -/
theorem duplicateStationHalts : Obligations.DuplicateStationHalts := by
  intro i s hpin hm hi
  have completes := completes_body (i := i) (by obtain rfl | ⟨f, rfl⟩ := hi <;> rfl) hpin
  rw [body_halts hm hi] at completes
  have held := (Work.begin s).enterHalted_held
  have drives := (Work.begin s).enterHalted_drives
  obtain ⟨ink, bands, service, -, tally, link, -, -, -, cover, guardDue, -⟩ := (Work.begin s).enterHalted_frame
  obtain ⟨halted, stopped, feed, -, raised⟩ := (Work.begin s).enterHalted_blocks
  generalize (Work.begin s).enterHalted = w at *
  have idle : w.mayStart = false := by simp [State.mayStart, State.inRun, halted]
  obtain ⟨pending, capIdle, serviceEnd, keepWetEnd⟩ := Work.finish_stands idle
  obtain ⟨inkEnd, tallyEnd, bandsEnd, modeEnd⟩ :=
    Work.finish_sameLedgers (s := w.toState) (w := w) rfl rfl rfl rfl cover guardDue
  obtain ⟨sheet, phase, position, -, capture, -, trailing, -, -, -, move, -, vacuum, under, -⟩ := w.finish_feed_fields
  have duplicate : ({ code := .duplicateStation, detail := .none } : Raise) ∈ w.raised := by simp [raised]
  refine ⟨_, completes, modeEnd.trans halted, Work.finish_raised duplicate, held, drives, fun m hmove => ?_, ?_⟩
  · rw [move, feed] at hmove
    obtain ⟨m, -, rfl⟩ := Option.map_eq_some_iff.1 hmove
    exact m.turned_ne (by decide)
  · simp only [sheet, phase, position, capture, trailing, vacuum, under, feed, keepWetEnd, stopped, serviceEnd, service,
      inkEnd, ink, tallyEnd, tally, bandsEnd, bands, w.finish_peers, link, Work.begin_state, and_self]

end Sys2Proof.Machine
end

section
/-! SUPPORT. Numbers as bytes and back: a field read where it was written, and a frame taken apart as it was built
(R169, R171, R210). -/

namespace Sys2Proof.Machine

/-! ### Fields of a payload (R210) -/

@[simp] theorem beBytes_length (n v : Nat) : (beBytes n v).length = n := by
  induction n with
  | zero => rfl
  | succ n ih => simp [beBytes, ih]

/-- A number read from its bytes is what those bytes carry of it. -/
theorem beNat_beBytes (n v : Nat) : beNat (beBytes n v) = v % 256 ^ n := by
  have spelled : ∀ (n a : Nat),
      (beBytes n v).foldl (fun a b => a * 256 + b.toNat) a = a * 256 ^ n + v % 256 ^ n := by
    intro n
    induction n with
    | zero => simp [beBytes, Nat.mod_one]
    | succ n ih =>
      intro a
      rw [beBytes, List.foldl_cons, ih, BitVec.toNat_ofNat, Nat.pow_succ 256, Nat.mod_mul (x := v)]
      ring
  exact (spelled n 0).trans (by simp)

/-- The first field. -/
theorem field_first (n v : Nat) (q : List Byte) : field (beBytes n v ++ q) 0 n = v % 256 ^ n := by
  rw [field, List.drop_zero, List.take_left' (beBytes_length n v), beNat_beBytes]

/-- A field behind another. -/
theorem field_later {m off : Nat} (h : m ≤ off) (v n : Nat) (q : List Byte) :
    field (beBytes m v ++ q) off n = field q (off - m) n := by
  rw [field, field, List.drop_append, List.drop_eq_nil_of_le (by simpa using h), List.nil_append, beBytes_length]

/-- The last field, with nothing behind it. -/
theorem field_last (n v : Nat) : field (beBytes n v) 0 n = v % 256 ^ n := by
  simpa using field_first n v []

/-! ### A frame built and taken apart (R169, R171) -/

/-- The bytes of a frame that its CRC covers: header, destination and source, length, payload. -/
def frameBody (kind source dest : Nat) (p : List Byte) : List Byte :=
  beBytes 1 (kind * 16 + source) ++ (beBytes 1 (dest * 16 + source) ++ (beBytes 1 p.length ++ p))

theorem frameOf_eq (kind source dest : Nat) (p : List Byte) :
    frameOf kind source dest p
      = frameBody kind source dest p ++ beBytes 2 (crcOf (frameBody kind source dest p)).toNat := by
  simp [frameOf, frameBody]

theorem frameBody_length (kind source dest : Nat) (p : List Byte) :
    (frameBody kind source dest p).length = p.length + 3 := by
  simp only [frameBody, List.length_append, beBytes_length]
  omega

/-- A frame received as it was sent. -/
def RxFrame.ofBytes (l : List Byte) : RxFrame := { bytes := l, stopError := false, extraStart := false }

section
variable {kind source dest : Nat} {p : List Byte}

/-- The header, the destination byte, the length byte and the CRC of a frame. -/
theorem frameOf_fields (hk : kind < 16) (hs : source < 16) (hd : dest < 16) (hp : p.length < 256) :
    field (frameOf kind source dest p) 0 1 = kind * 16 + source
      ∧ field (frameOf kind source dest p) 1 1 = dest * 16 + source
      ∧ field (frameOf kind source dest p) 2 1 = p.length
      ∧ field (frameOf kind source dest p) (p.length + 3) 2 = (crcOf (frameBody kind source dest p)).toNat := by
  rw [frameOf_eq]
  refine ⟨?_, ?_, ?_, ?_⟩
  · simp only [frameBody, List.append_assoc, field_first]
    omega
  · simp only [frameBody, List.append_assoc, field_later, le_refl, Nat.sub_self, field_first]
    omega
  · simp only [frameBody, List.append_assoc, field_later, Nat.one_le_ofNat, Nat.reduceSub, le_refl, Nat.sub_self,
      field_first]
    omega
  · rw [field, ← frameBody_length kind source dest p, List.drop_left, List.take_of_length_le (by simp), beNat_beBytes]
    exact Nat.mod_eq_of_lt (BitVec.isLt _)

theorem frameOf_parts (hk : kind < 16) (hs : source < 16) (hd : dest < 16) (hp : p.length < 256) :
    (RxFrame.ofBytes (frameOf kind source dest p)).kind = kind
      ∧ (RxFrame.ofBytes (frameOf kind source dest p)).source = source
      ∧ (RxFrame.ofBytes (frameOf kind source dest p)).payload = p := by
  obtain ⟨header, -, length, -⟩ := frameOf_fields hk hs hd hp
  simp only [RxFrame.kind, RxFrame.source, RxFrame.payload, RxFrame.ofBytes, header, length]
  refine ⟨by omega, by omega, ?_⟩
  have start : (frameOf kind source dest p).drop 3 = p ++ beBytes 2 (crcOf (frameBody kind source dest p)).toNat := by
    simp [frameOf_eq, frameBody, beBytes]
  rw [start, List.take_left]

/-- A frame that is received as it was sent passes the checks of R171 where its kind allows its length and its codes
do. -/
theorem frameOf_heard (hk : kind < 16) (hs : source < 16) (hd : dest < 16) (hp : p.length ≤ 120)
    (length : lengthFits kind p.length = true) (codes : codesFit kind p = true) :
    (RxFrame.ofBytes (frameOf kind source dest p)).heard = true := by
  obtain ⟨kindOf, sourceOf, payload⟩ := frameOf_parts hk hs hd (p := p) (by omega)
  obtain ⟨-, second, size, crc⟩ := frameOf_fields hk hs hd (p := p) (by omega)
  have whole : (frameOf kind source dest p).length = p.length + 5 := by
    simp [frameOf_eq, frameBody_length]
  have covered : (frameOf kind source dest p).take (p.length + 3) = frameBody kind source dest p := by
    rw [frameOf_eq, ← frameBody_length kind source dest p, List.take_left]
  simp only [RxFrame.heard, kindOf, sourceOf, payload]
  have number : (dest * 16 + source) % 16 = source := by omega
  simp [RxFrame.ofBytes, second, size, crc, whole, covered, length, codes, hp, number]

end

end Sys2Proof.Machine
end

section
/-! PROOFS. A STATUS is to its readers what its sender holds (R171, R178, R180, R210). -/

namespace Sys2Proof.Machine

/-! ### The codes and flags of a STATUS (12.3, 12.4) -/

theorem modeOf_modeCode (m : Mode) : modeOf (modeCode m) = some m ∧ modeCode m < 256 := by
  cases m <;> decide

/-- A channel byte shows the channel's state, class and mark. -/
theorem readView_channelByte (x : RefillChannel) (h : x.effective < 4) :
    readView (channelByte x % 256)
      = some { state := x.state, effective := x.effective, starved := x.starvedFlag } := by
  have codes : ∀ (r : RefillState) (e : Fin 4) (b : Bool),
      readView ((refillCode r + 8 * e.val + flagBit b 32) % 256)
        = some { state := r, effective := e, starved := b } := by
    intro r
    cases r <;> decide
  exact codes x.state ⟨x.effective, h⟩ x.starvedFlag

/-- The seven flags of a STATUS fit their byte, and the three that its reader tests are read as they were set. -/
theorem bitOf_flags (a b c d e f g : Bool) :
    let v := flagBit a 1 + flagBit b 2 + flagBit c 4 + flagBit d 8 + flagBit e 16 + flagBit f 32 + flagBit g 64
    bitOf (v % 256) 0 = a ∧ bitOf (v % 256) 1 = b ∧ bitOf (v % 256) 3 = d := by
  revert a b c d e f g
  decide

theorem readGuard_guardCode {g : GuardLine} (h : g.wf = true) : readGuard (guardCode g % 16777216) = g := by
  cases g with
  | allClear => rfl
  | line n =>
    simp only [GuardLine.wf, decide_eq_true_eq] at h
    have low : n % 16777216 % 4194304 = n := by omega
    simp only [readGuard, guardCode, low]
    exact if_neg (by omega)

/-- An optional number that its bytes carry, behind the flag that says it is there. -/
theorem optValue_flagged {x : Option Nat} {bound : Nat} (h : optBelow bound x = true) :
    (if x.isSome then some (optValue x % bound) else none) = x := by
  cases x with
  | none => rfl
  | some v =>
    simp only [optBelow, decide_eq_true_eq] at h
    simp [optValue, Nat.mod_eq_of_lt h]

/-! ### The payload read back -/

theorem State.statusPayload_length (s : State) : s.statusPayload.length = 32 := by
  have outcome : (outcomeBytes s.link.outcome).length = 4 := by
    cases s.link.outcome <;> simp [outcomeBytes]
  simp [State.statusPayload, Channel.all, outcome]

/-- The fields of a STATUS payload that its reader takes, where they were written. -/
theorem State.statusPayload_fields (s : State) :
    field s.statusPayload 0 1 = modeCode s.mode.mode % 256 ∧ field s.statusPayload 1 1 = s.statusFlags % 256
      ∧ field s.statusPayload 2 2 = optValue (s.feed.sheet.map SheetRecord.sheet) % 65536
      ∧ field s.statusPayload 4 1 = phaseCode s.feed.phase % 256
      ∧ field s.statusPayload 5 3 = guardCode s.bands.guard % 16777216
      ∧ field s.statusPayload 11 3 = optValue s.feed.capture % 16777216
      ∧ field s.statusPayload 15 1 = moveCode s.moveState % 256
      ∧ field s.statusPayload 22 1 = (s.bands.records.length + 32 * wantedCode s.bandsWanted) % 256
      ∧ field s.statusPayload 23 1 = actionCode (s.service.current.map CurrentAction.action) % 256
      ∧ field s.statusPayload 28 1 = field (outcomeBytes s.link.outcome) 0 1
      ∧ field s.statusPayload 31 1 = field (outcomeBytes s.link.outcome) 3 1 := by
  simp [State.statusPayload, Channel.all, field_first, field_later]

/-- The six channel bytes stand in channel order. -/
theorem State.statusPayload_channel (s : State) (c : Channel) :
    field s.statusPayload (16 + c.num) 1 = channelByte (s.refill.get c) % 256 := by
  cases c <;> simp [State.statusPayload, Channel.all, Channel.num, field_first, field_later]

/-- The flags that tell of a sheet, of a leading capture and of an outcome. -/
theorem State.statusFlags_read (s : State) :
    bitOf (s.statusFlags % 256) 0 = s.feed.sheet.isSome ∧ bitOf (s.statusFlags % 256) 1 = s.feed.capture.isSome
      ∧ bitOf (s.statusFlags % 256) 3 = s.link.outcome.isSome := bitOf_flags ..

/-- The enumerated fields that no reader keeps are within their codes. -/
theorem State.statusCodes (s : State) (h : s.bands.records.length ≤ 16) : statusCodesFit s.statusPayload = true := by
  obtain ⟨-, flags, -, phase, -, -, move, bands, action, kind, code⟩ := s.statusPayload_fields
  obtain ⟨-, -, outcome⟩ := s.statusFlags_read
  have phases : phaseCode s.feed.phase ≤ 4 := by cases s.feed.phase <;> decide
  have moves : moveCode s.moveState ≤ 3 := by cases s.moveState <;> decide
  have wanted : wantedCode s.bandsWanted ≤ 2 := by cases s.bandsWanted <;> decide
  have actions : ∀ a, actionCode a ≤ 9 := by
    intro a
    unfold actionCode
    split <;> decide
  have outcomes : s.link.outcome.isSome = true →
      field (outcomeBytes s.link.outcome) 0 1 ≤ 15 ∧ field (outcomeBytes s.link.outcome) 3 1 ≤ 7 := by
    intro given
    obtain ⟨o, ho⟩ := Option.isSome_iff_exists.1 given
    have kinds : kindCode o.kind ≤ 15 := by cases o.kind <;> decide
    have codes : outcomeCode o.code ≤ 7 := by cases o.code <;> decide
    simp only [ho, outcomeBytes, List.append_assoc, field_first, field_later, field_last, Nat.one_le_ofNat,
      Nat.reduceSub, le_refl, Nat.sub_self]
    omega
  have current := actions (s.service.current.map CurrentAction.action)
  simp only [statusCodesFit, flags, phase, move, bands, action, outcome, kind, code, Bool.and_eq_true,
    decide_eq_true_eq, Bool.or_eq_true, Bool.not_eq_true']
  refine ⟨⟨⟨⟨by omega, by omega⟩, by omega⟩, by omega⟩, ?_⟩
  cases given : s.link.outcome.isSome
  · exact .inl rfl
  · exact .inr (outcomes given)

/-- The six channel bytes are read as the channels' views. -/
theorem State.statusViews (s : State) (h : ∀ c, (s.refill.get c).effective < 4) :
    readViews s.statusPayload = some s.shown.channels := by
  have view : ∀ c, readView (field s.statusPayload (16 + c.num) 1)
      = some { state := (s.refill.get c).state, effective := (s.refill.get c).effective,
               starved := (s.refill.get c).starvedFlag } := fun c => by
    rw [s.statusPayload_channel c, readView_channelByte _ (h c)]
  have v0 := view .matteBlack
  have v1 := view .photoBlack
  have v2 := view .cyan
  have v3 := view .magenta
  have v4 := view .yellow
  have v5 := view .grey
  simp only [Channel.num, Nat.reduceAdd] at v0 v1 v2 v3 v4 v5
  simp only [readViews, v0, v1, v2, v3, v4, v5]
  rfl

/-- A STATUS payload is read as what its sender shows. -/
theorem State.readStatus_statusPayload {s : State} (h : s.statusFits) : readStatus s.statusPayload = some s.shown := by
  obtain ⟨wf, records⟩ := h
  simp only [PeerStatus.wf, Bool.and_eq_true, List.all_eq_true, ChannelView.wf, decide_eq_true_eq] at wf
  obtain ⟨⟨⟨sheetFits, guardFits⟩, captureFits⟩, classes⟩ := wf
  have views := s.statusViews fun c => by simpa [State.shown] using classes c (Channel.mem_all c)
  obtain ⟨mode, flags, sheet, -, guard, capture, -⟩ := s.statusPayload_fields
  obtain ⟨sheetFlag, captureFlag, -⟩ := s.statusFlags_read
  obtain ⟨modeRead, modeSmall⟩ := modeOf_modeCode s.mode.mode
  have sheetRead := optValue_flagged sheetFits
  have captureRead :
      (if s.feed.capture.isSome then some (optValue s.feed.capture % 16777216) else none) = s.feed.capture :=
    optValue_flagged captureFits
  simp only [State.shown, Option.isSome_map] at sheetRead guardFits
  simp only [readStatus, mode, flags, sheet, guard, capture, views, sheetFlag, captureFlag, Nat.mod_eq_of_lt modeSmall,
    modeRead, s.statusCodes records, readGuard_guardCode guardFits, sheetRead, captureRead, if_true]
  rfl

/-- A STATUS frame that reads is taken as a STATUS of the station in its header. -/
theorem State.receive_statusFrame (r : State) (straps n : StationNo) {p : List Byte} {f : PeerStatus}
    (length : p.length = 32) (read : readStatus p = some f) :
    r.receive straps (RxFrame.ofBytes (frameOf 3 n.val 14 p)) = .peerStatusHeard n f := by
  have station : n.val < 8 := n.isLt
  have heard : (RxFrame.ofBytes (frameOf 3 n.val 14 p)).heard = true :=
    frameOf_heard (by decide) (by omega) (by decide) (by omega) (by rw [length]; rfl) (by simp [codesFit, read])
  obtain ⟨kind, source, payload⟩ := frameOf_parts (kind := 3) (source := n.val) (dest := 14) (p := p) (by decide)
    (by omega) (by decide) (by omega)
  have number : Fin.ofNat 8 n.val = n := Fin.ext (Nat.mod_eq_of_lt station)
  rw [State.receive, heard, source, takeStation, kind, source, payload, read, number]
  exact (if_neg (by simp)).trans (if_pos (by omega))

/-- Settles O20: the frame of a STATUS passes the checks, and is taken apart into the payload, which reads back. -/
theorem statusIsHeardAsSent : Obligations.StatusIsHeardAsSent := fun s r straps h =>
  r.receive_statusFrame straps s.mode.station s.statusPayload_length (State.readStatus_statusPayload h)

end Sys2Proof.Machine
end

section
/-! SUPPORT. The link's tables: which operations leave the peer entries, the controller entry, the error counter and
the last-order outcome (R171, R173, R180 to R184). -/

namespace Sys2Proof.Machine

/-- The station entries, the controller entry and the error counter. -/
def Link.tables (l : Link) : PerStation PeerEntry × ControllerEntry × Nat := (l.peers, l.controller, l.errors)

theorem Link.tables_eq {k l : Link} (h : k.tables = l.tables) :
    k.peers = l.peers ∧ k.controller = l.controller ∧ k.errors = l.errors := by
  simpa [Link.tables] using h

/-! ### Orders and reports (R158, R184) -/

@[simp] theorem Work.outcome_tables (w : Work) (kind : OrderKind) (ref : Nat) (code : OutcomeCode) :
    (w.outcome kind ref code).link.tables = w.link.tables := rfl

@[simp] theorem Work.takeBand_tables (w : Work) (ref tag sheetId start length issue : Nat)
    (drops : PerChannel Sys2Proof.Drops) :
    (w.takeBand ref tag sheetId start length issue drops).link.tables = w.link.tables := by
  simp only [Work.takeBand]
  (repeat' split) <;> simp

@[simp] theorem Work.takeService_tables (w : Work) (ref : Nat) (a : Action) (fits : Bool) :
    (w.takeService ref a fits).link.tables = w.link.tables := by
  simp only [Work.takeService]
  (repeat' split) <;> simp

@[simp] theorem Work.takeClear_tables (w : Work) (ref : Nat) (faults : Bool) (ladders starved : ChannelSet) :
    (w.takeClear ref faults ladders starved).link.tables = w.link.tables := by
  simp only [Work.takeClear]
  split <;> simp

@[simp] theorem Work.takeSection_tables (w : Work) (ref : Nat) (m : ModeControl) (clamped : Bool) :
    (w.takeSection ref m clamped).link.tables = w.link.tables := rfl

@[simp] theorem Work.loadReport_tables (w : Work) (r : Report) :
    (w.loadReport r).link.tables = w.link.tables ∧ (w.loadReport r).link.outcome = w.link.outcome := ⟨rfl, rfl⟩

@[simp] theorem Work.closePeriod_tables (w : Work) (limited : Bool) :
    (w.closePeriod limited).link.tables = w.link.tables
      ∧ (w.closePeriod limited).link.outcome = w.link.outcome := ⟨rfl, rfl⟩

@[simp] theorem Work.fullClose_tables (w : Work) :
    w.fullClose.link.tables = w.link.tables ∧ w.fullClose.link.outcome = w.link.outcome := ⟨rfl, rfl⟩

@[simp] theorem Work.peekPeriod_tables (w : Work) (limited : Bool) :
    (w.peekPeriod limited).link.tables = w.link.tables
      ∧ (w.peekPeriod limited).link.outcome = w.link.outcome := ⟨rfl, rfl⟩

@[simp] theorem Work.edgeOperation_tables (w : Work) (close peek : Bool) :
    (w.edgeOperation close peek).link.tables = w.link.tables
      ∧ (w.edgeOperation close peek).link.outcome = w.link.outcome := by
  simp only [Work.edgeOperation]
  (repeat' split) <;> simp

@[simp] theorem Work.takeLeading_tables (w : Work) :
    w.takeLeading.link.tables = w.link.tables ∧ w.takeLeading.link.outcome = w.link.outcome := by
  simp [Work.takeLeading, Work.tallyLeading]

@[simp] theorem Work.takeTrailing_tables (w : Work) :
    w.takeTrailing.link.tables = w.link.tables ∧ w.takeTrailing.link.outcome = w.link.outcome := by
  simp [Work.takeTrailing, Work.tallyTrailing]

/-! ### Notices and the end of an action (R96 to R98, R140) -/

@[simp] theorem Work.loadNotice_tables (w : Work) :
    w.loadNotice.link.tables = w.link.tables ∧ w.loadNotice.link.outcome = w.link.outcome := by
  unfold Work.loadNotice
  split <;> exact ⟨rfl, rfl⟩

@[simp] theorem Work.checkEvent_tables (w : Work) (results : List (Nat × List Nat)) (served : Option Channel) :
    (w.checkEvent results served).link.tables = w.link.tables
      ∧ (w.checkEvent results served).link.outcome = w.link.outcome := by
  simp only [Work.checkEvent]
  (repeat' split) <;> simp

@[simp] theorem Work.checkDone_tables (w : Work) (a : CurrentAction) (groups : List Nat) (ended : Option Sequence) :
    (w.checkDone a groups ended).link.tables = w.link.tables
      ∧ (w.checkDone a groups ended).link.outcome = w.link.outcome := by
  simp only [Work.checkDone]
  (repeat' split) <;> simp

@[simp] theorem Work.complete_tables (w : Work) :
    w.complete.link.tables = w.link.tables ∧ w.complete.link.outcome = w.link.outcome := by
  simp only [Work.complete]
  (repeat' split) <;> simp

@[simp] theorem Work.goPark_tables (w : Work) :
    w.goPark.link.tables = w.link.tables ∧ w.goPark.link.outcome = w.link.outcome := by
  simp only [Work.goPark]
  split <;> simp

@[simp] theorem Work.reached_tables (w : Work) :
    w.reached.link.tables = w.link.tables ∧ w.reached.link.outcome = w.link.outcome := by
  obtain e | e | e | ⟨k, e⟩ := w.reached_cases <;> rw [e] <;> simp

@[simp] theorem Work.arriveAt_tables (w : Work) (p : SledPlace) :
    (w.arriveAt p).link.tables = w.link.tables ∧ (w.arriveAt p).link.outcome = w.link.outcome := by
  simp [Work.arriveAt]

@[simp] theorem Work.headAnswered_tables (w : Work) :
    w.headAnswered.link.tables = w.link.tables ∧ w.headAnswered.link.outcome = w.link.outcome := by
  obtain e | e | e := w.headAnswered_cases <;> rw [e] <;> simp

/-! ### Own frames and the STATUS timers (R170, R176, R177, R179) -/

@[simp] theorem Work.beginFrame_tables (w : Work) (x : Slot) :
    (w.beginFrame x).link.tables = w.link.tables ∧ (w.beginFrame x).link.outcome = w.link.outcome := ⟨rfl, rfl⟩

@[simp] theorem Link.txLost_tables (l : Link) : l.txLost.tables = l.tables ∧ l.txLost.outcome = l.outcome := ⟨rfl, rfl⟩

@[simp] theorem Work.partSent_tables (w : Work) :
    w.partSent.link.tables = w.link.tables ∧ w.partSent.link.outcome = w.link.outcome := by
  unfold Work.partSent
  (repeat' split) <;> exact ⟨rfl, rfl⟩

@[simp] theorem Work.endFrame_tables (w : Work) (x : TxFrame) :
    (w.endFrame x).link.tables = w.link.tables ∧ (w.endFrame x).link.outcome = w.link.outcome := by
  simp only [Work.endFrame]
  (repeat' split)
  case h_2.isFalse => exact Work.loadNotice_tables _
  case h_3.isFalse => exact Work.partSent_tables _
  all_goals exact ⟨rfl, rfl⟩

@[simp] theorem Work.statusDueNow_tables (w : Work) :
    w.statusDueNow.link.tables = w.link.tables ∧ w.statusDueNow.link.outcome = w.link.outcome := ⟨rfl, rfl⟩

/-! ### What is heard and lost (R173, R180 to R182) -/

@[simp] theorem Work.linkError_outcome (w : Work) :
    w.linkError.link.outcome = w.link.outcome ∧ w.linkError.link.peers = w.link.peers
      ∧ w.linkError.link.controller = w.link.controller := by
  obtain ⟨raised, link⟩ := w.linkError_link
  rw [link]
  exact ⟨rfl, rfl, rfl⟩

theorem Work.losePeers_tables (w : Work) (stations : StationSet) :
    (w.losePeers stations).link.controller = w.link.controller
      ∧ (w.losePeers stations).link.errors = w.link.errors
      ∧ (w.losePeers stations).link.outcome = w.link.outcome := by
  have h := w.losePeers_linkRest stations
  have controller := congrArg Link.controller h
  have errors := congrArg Link.errors h
  have outcome := congrArg Link.outcome h
  exact ⟨controller, errors, outcome⟩

/-- A START leaves the error counter (R196). -/
theorem Work.takeStart_errors (w : Work) : w.takeStart.link.errors = w.link.errors := by
  obtain ⟨-, -, blocks, -⟩ := w.startBlocks_frame
  have status : ∀ v : Work, v.statusTest.link.errors = v.link.errors := fun v => by
    unfold Work.statusTest
    split <;> rfl
  have controller : ∀ v : Work, v.controllerTest.link.errors = v.link.errors := fun v => by
    unfold Work.controllerTest
    split <;> simp [Work.loseController_link]
  obtain ⟨-, lost, -⟩ := w.startBlocks.statusTest.losePeers_tables (PerStation.fill true)
  rw [Work.takeStart_eq, Work.startLink_eq, controller, lost, status, blocks]

end Sys2Proof.Machine
end

section
/-! PROOFS. Which commands change a peer entry, the controller entry, the last-order outcome and the link error
counter. -/

namespace Sys2Proof.Machine

/-- The commands that change a table of the link: what is heard, what is lost, START, and link errors. -/
def movesTables : Instr → Bool
  | .peerStatusHeard _ _ | .peerEntryLost _ | .beaconHeard _ _ | .controllerTimeout | .start _ | .frameDiscarded
  | .transmitMismatch => true
  | _ => false

theorem body_keepsTables {i : Instr} (w : Work) (h : movesTables i = false) :
    (body i w).link.tables = w.link.tables := by
  cases i
  case peerStatusHeard | peerEntryLost | beaconHeard | controllerTimeout | start | frameDiscarded | transmitMismatch =>
    cases h
  case errorWindowEnd =>
    simp only [body]
    (repeat' split) <;> rfl
  all_goals
    simp only [body]
  any_goals
    (repeat' split) <;> simp

/-- A peer entry is left by all but a STATUS of its station, a loss that names it, and a START. -/
theorem body_keepsPeer {i : Instr} (w : Work) {n : StationNo} (status : ∀ f, i ≠ .peerStatusHeard n f)
    (lost : ∀ a, i = .peerEntryLost a → a.get n = false) (start : ∀ ref, i ≠ .start ref) :
    (body i w).link.peers.get n = w.link.peers.get n := by
  cases h : movesTables i
  case false =>
    obtain ⟨peers, -⟩ := Link.tables_eq (body_keepsTables w h)
    rw [peers]
  case true =>
    cases i
    case start ref => exact absurd rfl (start ref)
    case peerStatusHeard m f =>
      have other : n ≠ m := by
        rintro rfl
        exact status f rfl
      simp only [body]
      split
      · simp
      · simp [Work.hearPeer_link, PerStation.get_set, other]
    case peerEntryLost a => exact (w.losePeers_entry a n).trans (by simp [State.agedOutOf, lost a rfl])
    case beaconHeard stopping sheet =>
      simp only [body, Work.hearBeacon_link]
    case controllerTimeout =>
      simp only [body]
      split <;> simp [Work.loseController_link]
    case frameDiscarded => simp [body]
    case transmitMismatch =>
      simp only [body]
      split <;> simp [Link.txLost]
    all_goals cases h

/-- The controller entry is left by all but a BEACON, its timeout and a START. -/
theorem body_keepsController {i : Instr} (w : Work) (beacon : ∀ b n, i ≠ .beaconHeard b n)
    (timeout : i ≠ .controllerTimeout) (start : ∀ ref, i ≠ .start ref) :
    (body i w).link.controller = w.link.controller := by
  cases h : movesTables i
  case false =>
    obtain ⟨-, controller, -⟩ := Link.tables_eq (body_keepsTables w h)
    exact controller
  case true =>
    cases i
    case start ref => exact absurd rfl (start ref)
    case beaconHeard b n => exact absurd rfl (beacon b n)
    case controllerTimeout => exact absurd rfl timeout
    case peerStatusHeard m f =>
      simp only [body]
      split <;> simp [Work.hearPeer_link]
    case peerEntryLost a =>
      obtain ⟨controller, -⟩ := w.losePeers_tables a
      exact controller
    case frameDiscarded => simp [body]
    case transmitMismatch =>
      simp only [body]
      split <;> simp [Link.txLost]
    all_goals cases h

/-- The link error counter is left by all but a discarded frame and a transmit mismatch. -/
theorem body_keepsErrors {i : Instr} (w : Work) (discarded : i ≠ .frameDiscarded) (mismatch : i ≠ .transmitMismatch) :
    (body i w).link.errors = w.link.errors := by
  cases h : movesTables i
  case false =>
    obtain ⟨-, -, errors⟩ := Link.tables_eq (body_keepsTables w h)
    exact errors
  case true =>
    cases i
    case frameDiscarded => exact absurd rfl discarded
    case transmitMismatch => exact absurd rfl mismatch
    case start ref =>
      simp only [body]
      split
      · rfl
      · obtain ⟨-, -, errors⟩ := Link.tables_eq (w.takeStart.outcome_tables .start ref .accepted)
        exact errors.trans w.takeStart_errors
    case beaconHeard b n =>
      simp only [body, Work.hearBeacon_link]
    case controllerTimeout =>
      simp only [body]
      split <;> simp [Work.loseController_link]
    case peerStatusHeard m f =>
      simp only [body]
      split <;> simp [Work.hearPeer_link]
    case peerEntryLost a =>
      obtain ⟨-, errors, -⟩ := w.losePeers_tables a
      exact errors
    all_goals cases h

/-- The last-order outcome is left by all but an order (R184). -/
theorem body_keepsOutcome {i : Instr} (w : Work) (h : isOrder i = false) :
    (body i w).link.outcome = w.link.outcome := by
  cases i
  case feed | sheet | abortSheet | band | serviceCap | serviceUncap | serviceWipe | serviceGapSpit | serviceCheck
    | servicePurgeLight | servicePurgeHeavy | setMask | serviceUnknownRequest | settings | tallyClose | tallyPeek
    | tallyUnknownOperation | clearFaults | clearLadder | clearLineStarved | clearOrder | configSection0
    | configSection1 | configSection2 | configSection3FirstPart | configSection3SecondPart | configUnknownSection
    | start | restart => cases h
  case peerStatusHeard m f =>
    simp only [body]
    split <;> simp [Work.hearPeer_link]
  case beaconHeard b n =>
    simp only [body, Work.hearBeacon_link]
  case controllerTimeout =>
    simp only [body]
    split <;> simp [Work.loseController_link]
  case peerEntryLost a =>
    obtain ⟨-, -, outcome⟩ := w.losePeers_tables a
    exact outcome
  all_goals
    simp only [body]
  any_goals
    (repeat' split) <;> simp

/-- Settles O15: each body leaves what the clause speaks of, and the end of its event leaves the tables. -/
theorem onlyTheseEventsChangeTheLinkTables : Obligations.OnlyTheseEventsChangeTheLinkTables := by
  intro i s t hc hp hr
  have hs : special i = false := by
    cases i <;> simp_all [special, Instr.powersOn, Instr.restarts]
  obtain ⟨-, rfl⟩ | ⟨-, rfl⟩ := completes_cases hs hc
  · exact ⟨fun _ _ _ _ => rfl, fun _ _ _ => rfl, fun _ => rfl, fun _ _ => rfl⟩
  obtain ⟨errors, -, -, -, -, -, -, -, peers, controller, outcome, -⟩ := (body i (Work.begin s)).finish_link
  rw [errors, peers, controller, outcome]
  exact ⟨fun _ => body_keepsPeer _, body_keepsController _, body_keepsOutcome _, body_keepsErrors _⟩

end Sys2Proof.Machine
end

section
/-! PROOFS. The tests of a START order, and what one that passes enters (R195, R196). -/

namespace Sys2Proof.Machine

section
variable {s : State}

theorem State.startRefusal_mode (h : s.mode.mode ≠ .config) : s.startRefusal = some .refusedMode := if_pos h

theorem State.startRefusal_sequence (config : s.mode.mode = .config)
    (h : ¬ (s.mode.received0 = true ∧ s.mode.received1 = true ∧ s.mode.received2 = true ∧ s.mode.received3 = true)) :
    s.startRefusal = some .refusedSequence := by
  rw [State.startRefusal, if_neg (not_not_intro config), if_pos]
  simpa only [Bool.not_eq_true', Bool.and_eq_false_iff, not_and_or, Bool.not_eq_true, or_assoc] using h

/-- Past the mode and the sections the refill marks decide. -/
theorem State.startRefusal_received (config : s.mode.mode = .config) (h0 : s.mode.received0 = true)
    (h1 : s.mode.received1 = true) (h2 : s.mode.received2 = true) (h3 : s.mode.received3 = true) :
    s.startRefusal = if refillMarksFit s.mode.held.sec3.initial s.mode.held.sec0 then none else some .refusedRange := by
  cases fit : refillMarksFit s.mode.held.sec3.initial s.mode.held.sec0 <;>
    simp [State.startRefusal, config, h0, h1, h2, h3, fit]

theorem body_start_refused {ref : Nat} {code : OutcomeCode} (h : s.startRefusal = some code) :
    body (.start ref) (Work.begin s) = (Work.begin s).outcome .start ref code := by
  simp only [body]
  rw [show (Work.begin s).startRefusal = some code from h]

theorem body_start_taken {ref : Nat} {w : Work} (h : w.startRefusal = none) :
    body (.start ref) w = w.takeStart.outcome .start ref .accepted := by
  simp only [body]
  rw [h]

/-- A START taken enters RUN (R196). -/
theorem body_start_run {ref : Nat} {w : Work} (h : w.startRefusal = none) : (body (.start ref) w).mode.mode = .run := by
  obtain ⟨-, -, mode⟩ := w.takeStart_ledger
  rw [body_start_taken h]
  simp [mode, ModeControl.running]

theorem start_enters_run {ref : Nat} (hpin : s.mode.resetPin = false) (h : s.startRefusal = none) :
    ∃ t, Completes (.start ref) s t ∧ t.shows .start ref .accepted ∧ t.mode.mode = .run := by
  obtain ⟨-, -, mode, -⟩ := (body (.start ref) (Work.begin s)).finish_frame
  obtain ⟨-, -, -, -, -, -, -, -, -, -, shown, -⟩ := (body (.start ref) (Work.begin s)).finish_link
  have taken := body_start_taken (ref := ref) (w := Work.begin s) h
  refine ⟨_, completes_body rfl hpin, ?_, ?_⟩
  · rw [State.shows, shown, taken]
    rfl
  · rw [mode]
    exact body_start_run h

end

/-- Settles O37: the first test of R195 that fails answers the order, and one that passes them is taken. -/
theorem startOrderIsTested : Obligations.StartOrderIsTested := by
  intro s ref hpin
  refine ⟨fun mode => ?_, fun config missing => ?_, fun config h0 h1 h2 h3 => ⟨fun high => ?_, fun fit => ?_⟩⟩
  · exact completes_outcome rfl hpin (body_start_refused (State.startRefusal_mode mode))
  · exact completes_outcome rfl hpin (body_start_refused (State.startRefusal_sequence config missing))
  · refine completes_outcome rfl hpin (body_start_refused ?_)
    obtain ⟨c, high⟩ := high
    rw [State.startRefusal_received config h0 h1 h2 h3, if_neg]
    exact fun fit => ((refillMarksFit_iff _ _).1 fit c).not_ge high
  · refine start_enters_run hpin ?_
    rw [State.startRefusal_received config h0 h1 h2 h3, if_pos ((refillMarksFit_iff _ _).2 fit)]

end Sys2Proof.Machine
end

section
/-! PROOFS. The commands that change the mode or the number of the station (R188, R189). -/

namespace Sys2Proof.Machine

theorem Work.hearOwnNumber_mode (w : Work) : w.hearOwnNumber.mode = { w.mode with mode := .halted } := by
  unfold Work.hearOwnNumber
  split
  · rename_i halted
    rw [← halted]
  · rfl

/-- The number is latched at power-on and at a RESTART: the body of no other command changes it. -/
theorem body_station (i : Instr) (w : Work) : (body i w).mode.station = w.mode.station := by
  cases i
  case start =>
    obtain ⟨-, -, mode⟩ := w.takeStart_ledger
    simp only [body]
    split <;> simp [mode, ModeControl.running]
  all_goals
    simp only [body]
  any_goals
    (repeat' split) <;> simp [Work.takeSection_mode, Work.hearOwnNumber_mode]

/-- The two commands that are a heard frame with the own number (R174). -/
theorem body_hearsOwnNumber {i : Instr} {w : Work}
    (h : i = .duplicateStationHeard ∨ ∃ f, i = .peerStatusHeard w.mode.station f) :
    (body i w).mode = { w.mode with mode := .halted } := by
  have heard : body i w = w.hearOwnNumber := by
    obtain rfl | ⟨f, rfl⟩ := h
    · rfl
    · exact if_pos rfl
  rw [heard, Work.hearOwnNumber_mode]

/-- A body that changes the mode takes a START in CONFIG, or hears the own number outside HALTED. -/
theorem body_changes_mode {i : Instr} {w : Work} (h : (body i w).mode.mode ≠ w.mode.mode) :
    ((∃ ref, i = .start ref) ∧ w.mode.mode = .config ∧ (body i w).mode.mode = .run)
      ∨ ((i = .duplicateStationHeard ∨ ∃ f, i = .peerStatusHeard w.mode.station f)
        ∧ w.mode.mode ≠ .halted ∧ (body i w).mode.mode = .halted) := by
  by_cases own : i = .duplicateStationHeard ∨ ∃ f, i = .peerStatusHeard w.mode.station f
  · rw [body_hearsOwnNumber own] at h ⊢
    exact .inr ⟨own, h.symm, rfl⟩
  cases moves : movesMode i
  case false => exact absurd (body_mode w moves) h
  case true =>
    cases i
    case start ref =>
      cases refusal : w.startRefusal with
      | some code =>
        simp only [body, refusal] at h
        exact absurd rfl h
      | none =>
        obtain ⟨config, -⟩ := startRefusal_none refusal
        exact .inl ⟨⟨ref, rfl⟩, config, body_start_run refusal⟩
    case duplicateStationHeard => exact absurd (.inl rfl) own
    case peerStatusHeard n f =>
      have other : n ≠ w.mode.station := by
        rintro rfl
        exact own (.inr ⟨f, rfl⟩)
      have heard : body (.peerStatusHeard n f) w = w.hearPeer n f := if_neg other
      simp [heard] at h
    all_goals cases moves

theorem completes_powerOn {straps : StationNo} {closed : Option SledPlace} {s t : State} :
    Completes (.powerOn straps closed) s t ↔ s.poweredOn straps closed false = t := Host.Outcome.next.injEq .. ▸ .rfl

theorem completes_resetPinAsserted {s t : State} :
    Completes .resetPinAsserted s t ↔ s.poweredOn s.mode.station s.service.closed true = t :=
  Host.Outcome.next.injEq .. ▸ .rfl

/-- What a completed command makes of mode control: nothing, what its body makes of it, or the values of power-on, of
the RESET pin or of a RESTART (R189, R197, R198). -/
theorem completes_mode {i : Instr} {s t : State} (hc : Completes i s t) :
    t.mode = s.mode
      ∨ t.mode = (body i (Work.begin s)).mode
      ∨ (∃ straps closed, i = .powerOn straps closed ∧ t.mode = { ModeControl.reset with station := straps })
      ∨ (i = .resetPinAsserted ∧ t.mode = { ModeControl.reset with station := s.mode.station, resetPin := true })
      ∨ ∃ ref straps, i = .restart ref straps
          ∧ t.mode = { s.mode with mode := .config, station := straps, firstPart := none } := by
  cases hs : special i
  case false =>
    obtain ⟨-, rfl⟩ | ⟨-, rfl⟩ := completes_cases hs hc
    · exact .inl rfl
    · obtain ⟨-, -, mode, -⟩ := (body i (Work.begin s)).finish_frame
      exact .inr (.inl mode)
  case true =>
    cases i
    case powerOn straps closed =>
      obtain rfl := completes_powerOn.1 hc
      exact .inr (.inr (.inl ⟨straps, closed, rfl, rfl⟩))
    case resetPinAsserted =>
      obtain rfl := completes_resetPinAsserted.1 hc
      exact .inr (.inr (.inr (.inl ⟨rfl, rfl⟩)))
    case restart ref straps =>
      obtain rfl | rfl := completes_restart hc
      · exact .inl rfl
      · exact .inr (.inr (.inr (.inr ⟨ref, straps, rfl, by simp [Work.takeRestart_mode]⟩)))
    all_goals cases hs

/-- Settles O12: each way in which a command can change mode control is one of those that the statement names. -/
theorem onlyTheseEventsChangeTheMode : Obligations.OnlyTheseEventsChangeTheMode := by
  refine ⟨fun i s t hc changes => ?_, fun i s t hc changes => ?_⟩ <;>
    obtain mode | mode | ⟨straps, closed, rfl, mode⟩ | ⟨rfl, mode⟩ | ⟨ref, straps, rfl, mode⟩ := completes_mode hc <;>
    rw [mode] at changes ⊢
  · exact absurd rfl changes
  · exact (body_changes_mode changes).imp_right .inl
  · exact .inr (.inr (.inr ⟨.inl ⟨straps, closed, rfl⟩, rfl⟩))
  · exact .inr (.inr (.inr ⟨.inr rfl, rfl⟩))
  · exact .inr (.inr (.inl ⟨⟨ref, straps, rfl⟩, rfl⟩))
  · exact absurd rfl changes
  · exact absurd (body_station i (Work.begin s)) changes
  · exact .inl ⟨closed, rfl⟩
  · exact absurd rfl changes
  · exact .inr ⟨ref, rfl⟩

end Sys2Proof.Machine
end

section
/-! PROOFS. What power-on and the assertion of the RESET pin leave, and the hold of the pin (R198). -/

namespace Sys2Proof.Machine

/-- While the pin is asserted every command but power-on and the assertion itself finds the station taking nothing. -/
theorem completes_held {i : Instr} {s : State} (hpin : s.mode.resetPin = true)
    (power : ∀ straps closed, i ≠ .powerOn straps closed) (pin : i ≠ .resetPinAsserted) : Completes i s s := by
  cases hs : special i
  case false => exact (exec_body i s hs).trans (event_held hpin _)
  case true =>
    cases i
    case powerOn straps closed => exact absurd rfl (power straps closed)
    case resetPinAsserted => exact absurd rfl pin
    case restart ref straps =>
      exact event_held hpin fun w => (w.takeRestart straps).outcome .restart ref .accepted
    all_goals cases hs

/-- Ink metering after power-on: every channel disabled, its estimate 0 and UNKNOWN, both marks SETTLING (R22). -/
theorem State.poweredOn_ink (s : State) (n : StationNo) (closed : Option SledPlace) (pin : Bool) (c : Channel) :
    (s.poweredOn n closed pin).enabled c = false ∧ ((s.poweredOn n closed pin).ink.get c).estimate = 0
      ∧ ((s.poweredOn n closed pin).ink.get c).residue = 0
      ∧ ((s.poweredOn n closed pin).ink.get c).state = .unknown
      ∧ ((s.poweredOn n closed pin).ink.get c).low.state = .settling
      ∧ ((s.poweredOn n closed pin).ink.get c).full.state = .settling := by
  have off : (s.poweredOn n closed pin).enabled c = false := PerChannel.get_fill ..
  simp only [State.poweredOn, PerChannel.get_gen]
  exact ⟨off, rfl, rfl, rfl, rfl, rfl⟩

/-- Settles O4: both commands leave the power-on values, with their own number and pin. -/
theorem powerOnAndResetPinLeavePowerOnValues : Obligations.PowerOnAndResetPinLeavePowerOnValues := by
  refine ⟨fun i s => completes_held, fun s straps closed => ⟨_, _, completes_powerOn.2 rfl,
    completes_resetPinAsserted.2 rfl, rfl, rfl, rfl, rfl, fun v hv => ?_⟩⟩
  obtain ⟨n, place, pin, rfl⟩ : ∃ n place pin, v = s.poweredOn n place pin :=
    hv.elim (fun h => ⟨_, _, _, h⟩) fun h => ⟨_, _, _, h⟩
  have ink := s.poweredOn_ink n place pin
  exact ⟨rfl, rfl, rfl, rfl, rfl, rfl, rfl, rfl, rfl, rfl, rfl, rfl, rfl, rfl, rfl, rfl, rfl, rfl, rfl, rfl, rfl, rfl,
    rfl, rfl, rfl, rfl, rfl, rfl, rfl, rfl, rfl, rfl, rfl, rfl, rfl, rfl, rfl, rfl, rfl, rfl, rfl, rfl, ink⟩

end Sys2Proof.Machine
end

section
/-! PROOFS. What a RESTART order leaves at each block (R197). -/

namespace Sys2Proof.Machine

/-! ### The end of an event that calls for the classes and the drive alone -/

/-- An event that moves no ink, raises nothing and calls for the classes and the drive alone reaches the tests of refill
control as its body left it. -/
theorem Work.settle_classes {w : Work} (hi : w.ink = w.pre.ink) (hr : w.raised = []) (hc : w.cover = false)
    (hg : w.guardDue = false) (hb : w.boundary = false) : w.settle = w.refillStage.driveStage := by
  simp [Work.settle, Work.overfillTests_same hi, Work.faultStage_none hr, Work.coverStage_off hc,
    Work.guardStage_off hg, Work.arbiterStage_off hb hi]

/-- A channel that the body puts in HELD ends an event that moves no ink as the hold leaves it, its classes worked out
anew. -/
theorem Work.finish_holds {w : Work} {c : Channel} {x : RefillChannel} (hi : w.ink = w.pre.ink)
    (h : w.refill.get c = x.hold) : ∃ d e, w.finish.refill.get c = { x.hold with deficit := d, effective := e } := by
  obtain ⟨y, hy, settles⟩ := Work.finish_refill_same hi c
  rw [h, x.hold_hold, or_self] at hy
  have held : y.state = .held := by rw [hy, x.hold_fields.1]
  obtain ⟨d, e, last⟩ := settles.stands (by simp [held]) (by simp [held]) (by simp [held])
  exact ⟨d, e, by rw [last, hy]⟩

/-- What asks for an early STATUS (R179). -/
theorem earlyChange_iff (a b : State) :
    earlyChange a b = true ↔ (∃ c, a.valveOpen c ≠ b.valveOpen c) ∨ a.bands.guard ≠ b.bands.guard
      ∨ a.moveState ≠ b.moveState := by
  simp only [earlyChange, Bool.or_eq_true, decide_eq_true_eq, List.any_eq_true, Channel.mem_all, true_and]
  tauto

theorem State.moveState_ne_idle (s : State) : s.moveState ≠ .idle ↔ ∃ m ∈ s.feed.move, m.state ≠ .idle := by
  unfold State.moveState
  cases s.feed.move <;> simp

/-! ### The event of a RESTART -/

section
variable (s : State) (ref : Nat) (straps : StationNo)

/-- The station as a RESTART order's body leaves it. -/
def State.restarting : Work := ((Work.begin s).takeRestart straps).outcome .restart ref .accepted

theorem State.restarting_completes (hpin : s.mode.resetPin = false) :
    Completes (.restart ref straps) s (s.restarting ref straps).finish := by
  have taken : exec (.restart ref straps) s
      = event s fun w => (w.takeRestart straps).outcome .restart ref .accepted := rfl
  rw [Completes, taken, event_live hpin]
  rfl

theorem State.restarting_settle :
    (s.restarting ref straps).settle = (s.restarting ref straps).refillStage.driveStage :=
  Work.settle_classes (w := s.restarting ref straps) rfl rfl rfl rfl rfl

/-- The blocks that the end of the event leaves as the body has restarted them. -/
theorem State.restarting_blocks :
    (s.restarting ref straps).finish.bands = BandQueue.reset
      ∧ (s.restarting ref straps).finish.service = s.service.restarted
      ∧ (s.restarting ref straps).finish.keepWet = s.keepWet.restarted
      ∧ (s.restarting ref straps).finish.nozzle = s.nozzle.restarted
      ∧ (s.restarting ref straps).finish.faults = { s.faults with active := [] } := by
  obtain ⟨-, -, bands, -, service, keepWet, nozzle, -, -, faults, -⟩ := (s.restarting ref straps).finish_settled
  simp only [bands, service, keepWet, nozzle, faults, restarting_settle, Work.driveStage_frame, Work.refillStage_frame]
  exact ⟨rfl, rfl, rfl, rfl, rfl⟩

/-- Every channel is HELD, with its marks, leak count and leak window kept (R36, R41). -/
theorem State.restarting_refill (c : Channel) :
    ((s.restarting ref straps).finish.refill.get c).state = .held
      ∧ ((s.restarting ref straps).finish.refill.get c).starvedMark = (s.refill.get c).starvedMark
      ∧ ((s.restarting ref straps).finish.refill.get c).lockedMark = (s.refill.get c).lockedMark
      ∧ ((s.restarting ref straps).finish.refill.get c).leakCount = (s.refill.get c).leakCount
      ∧ ((s.restarting ref straps).finish.refill.get c).leakWindow = (s.refill.get c).leakWindow := by
  obtain ⟨d, e, last⟩ := Work.finish_holds (w := s.restarting ref straps) (c := c) rfl (PerChannel.get_gen ..)
  obtain ⟨held, locked, starved, count, window, -⟩ := (s.refill.get c).hold_fields
  rw [last]
  exact ⟨held, starved, locked, count, window⟩

/-- FHOLD is driven once the event is over, the station being in CONFIG (R76). -/
theorem State.restarting_drives : (s.restarting ref straps).finish.feed.fholdDrive = true := by
  have config : (s.restarting ref straps).finish.mode.mode = .config := by
    obtain ⟨-, -, mode, -⟩ := (s.restarting ref straps).finish_frame
    rw [mode]
    rfl
  exact Work.finish_fholdHeld (.inl rfl) (.inl (by simp [config, -Work.finish_frame]))

/-- A valve that was OPEN, a guard line that stood elsewhere and a move that was not IDLE ask for an early STATUS
(R40, R54, R179). -/
theorem State.restarting_early :
    earlyChange (s.restarting ref straps).settle.pre (s.restarting ref straps).settle.toState = true
      ↔ (∃ c, (s.refill.get c).state = .opened) ∨ s.bands.guard ≠ .line 0 ∨ ∃ m ∈ s.feed.move, m.state ≠ .idle := by
  obtain ⟨-, refill, bands, feed, -⟩ := (s.restarting ref straps).finish_settled
  obtain ⟨reset, -⟩ := s.restarting_blocks ref straps
  have pre : (s.restarting ref straps).settle.pre = s := by
    rw [restarting_settle]
    rfl
  have closed : ∀ c, (s.restarting ref straps).settle.valveOpen c = false := fun c => by
    obtain ⟨held, -⟩ := s.restarting_refill ref straps c
    simp [State.valveOpen, ← refill, held]
  have idle : (s.restarting ref straps).settle.moveState = .idle := by
    obtain ⟨-, -, -, -, -, -, -, -, -, -, move, -⟩ := (s.restarting ref straps).finish_feed_fields
    have idled : (s.restarting ref straps).feed.move = s.feed.move.map Move.idled := rfl
    rw [State.moveState, ← feed, move, idled]
    cases s.feed.move <;> rfl
  rw [earlyChange_iff, pre, idle, ← bands, reset, State.moveState_ne_idle]
  simp only [closed]
  simp [State.valveOpen, BandQueue.reset]

/-- The link once the event is over: its RESTART values and the outcome, and the early request. -/
theorem State.restarting_link :
    (s.restarting ref straps).finish.link =
      if earlyChange (s.restarting ref straps).settle.pre (s.restarting ref straps).settle.toState then
        (s.restarting ref straps).link.requestEarly
      else (s.restarting ref straps).link := by
  have settled : (s.restarting ref straps).settle.link = (s.restarting ref straps).link := by
    rw [restarting_settle]
    rfl
  rw [Work.finish_eq, settled]

end

/-- Settles O39: the body gives every block its RESTART values, and its event works out the refill tests, the FHOLD
drive and the early request alone. -/
theorem restartGivesEveryBlockItsRestartValues : Obligations.RestartGivesEveryBlockItsRestartValues := by
  intro s ref straps hpin
  obtain ⟨ink, tally, mode, -⟩ := (s.restarting ref straps).finish_frame
  obtain ⟨bands, service, keepWet, nozzle, faults⟩ := s.restarting_blocks ref straps
  obtain ⟨sheet, phase, position, commanded, capture, stepsAtCapture, trailing, skew, skewWindow, trim, move,
    fedPending, vacuum, underSegment, -⟩ := (s.restarting ref straps).finish_feed_fields
  obtain ⟨errors, errorWindow, nozzleSlot, reportSlot, -, -, periodCount, spacingCount, peers, controller, outcome,
    -⟩ := (s.restarting ref straps).finish_link
  have link := s.restarting_link ref straps
  have early := s.restarting_early ref straps
  have faultSlot : (s.restarting ref straps).finish.link.faultSlot = s.link.faultSlot := by
    rw [link]
    split <;> rfl
  refine ⟨_, s.restarting_completes ref straps hpin, outcome, mode, ink, s.restarting_refill ref straps, bands, sheet,
    phase, position, commanded, fedPending, capture, stepsAtCapture, trailing, skew, skewWindow, trim, move,
    s.restarting_drives ref straps, vacuum, underSegment, service, keepWet, nozzle, tally, faults, errors, errorWindow,
    reportSlot, faultSlot, nozzleSlot, periodCount, spacingCount, fun changes => ?_, fun valves line still => ?_,
    fun n => ?_, controller⟩
  · rw [link, if_pos (early.2 changes)]
    exact ⟨rfl, rfl⟩
  · have unasked : ¬ ((∃ c, (s.refill.get c).state = .opened) ∨ s.bands.guard ≠ .line 0
        ∨ ∃ m ∈ s.feed.move, m.state ≠ .idle) := by
      rintro (⟨c, opened⟩ | moved | ⟨m, hm, turned⟩)
      · exact valves c opened
      · exact moved line
      · exact turned (still m hm)
    rw [link, if_neg (mt early.1 unasked)]
    exact ⟨rfl, rfl⟩
  · rw [peers]
    exact PerStation.get_fill ..

end Sys2Proof.Machine
end

section
/-! SUPPORT. The fault unit at the end of an event: the order in which it takes the raises, and what that makes of the
count, the first-fault record and the notice. -/

namespace Sys2Proof.Machine

/-! ### The order of the raises (R202) -/

/-- Raises in priority order: no code follows a higher one. -/
def InPriority (l : List Raise) : Prop := l.Pairwise fun a b => a.code.num ≤ b.code.num

theorem insertRaise_inPriority {r : Raise} {l : List Raise} (h : InPriority l) : InPriority (insertRaise r l) := by
  induction l with
  | nil => exact List.pairwise_singleton ..
  | cons x l ih =>
    obtain ⟨first, rest⟩ := List.pairwise_cons.1 h
    simp only [insertRaise]
    split
    · rename_i lower
      refine List.pairwise_cons.2 ⟨fun y hy => ?_, h⟩
      obtain rfl | hy := List.mem_cons.1 hy
      · exact lower.le
      · exact lower.le.trans (first y hy)
    · rename_i notLower
      refine List.pairwise_cons.2 ⟨fun y hy => ?_, ih rest⟩
      obtain rfl | hy := mem_insertRaise.1 hy
      · exact Nat.not_lt.1 notLower
      · exact first y hy

theorem priorityOrder_inPriority (l : List Raise) : InPriority (priorityOrder l) :=
  foldl_invariant _ InPriority (fun _ _ => insertRaise_inPriority) l [] List.Pairwise.nil

/-- The first raise that the fault unit takes has the lowest code of the event. -/
theorem priorityOrder_first {l rs : List Raise} {r x : Raise} (h : priorityOrder l = r :: rs) (hx : x ∈ l) :
    r.code.num ≤ x.code.num := by
  have sorted := priorityOrder_inPriority l
  rw [h] at sorted
  have taken : x ∈ r :: rs := h ▸ mem_priorityOrder.2 hx
  obtain rfl | later := List.mem_cons.1 taken
  · exact le_rfl
  · exact (List.pairwise_cons.1 sorted).1 x later

/-! ### Taking the raises (R201, R203, R205) -/

/-- The record that a raise fills where it finds none (R203). -/
def Work.firstFault (w : Work) (r : Raise) : FirstFault :=
  { raise := r, sheet := w.feed.sheet.map SheetRecord.sheet, tag := w.pre.printingTag, position := w.feed.position }

theorem Work.takeRaise_record (w : Work) (f : FaultUnit) (r : Raise) :
    (w.takeRaise f r).record = some (f.record.getD (w.firstFault r)) := by
  unfold Work.takeRaise
  cases f.record <;> rfl

/-- A run of raises counts each of them; the first fills an empty record, and the others leave it. -/
theorem Work.takeRaises (w : Work) (r : Raise) (rs : List Raise) (f : FaultUnit) :
    ((r :: rs).foldl w.takeRaise f).record = some (f.record.getD (w.firstFault r))
      ∧ ((r :: rs).foldl w.takeRaise f).count = Nat.min 255 (f.count + (rs.length + 1)) := by
  induction rs generalizing r f with
  | nil => exact ⟨w.takeRaise_record f r, rfl⟩
  | cons x rs ih =>
    obtain ⟨record, count⟩ := ih x (w.takeRaise f r)
    rw [List.foldl_cons, record, count, w.takeRaise_record]
    refine ⟨rfl, ?_⟩
    have counted : min 255 ((w.takeRaise f r).count + (rs.length + 1))
        = min 255 (f.count + (rs.length + 1 + 1)) := by
      have one : (w.takeRaise f r).count = min 255 (f.count + 1) := rfl
      omega
    exact counted

theorem Work.setActive_faults (w : Work) (l : List FaultCode) :
    (w.setActive l).faults = { w.faults with active := l } := by
  simp only [Work.setActive]
  (repeat' split) <;> simp

/-- What the raises of an event make of the fault unit, `r` being the first in priority order. -/
structure FaultUnit.Takes (f g : FaultUnit) (x : FirstFault) (n : Nat) : Prop where
  record : g.record = some (f.record.getD x)
  count : g.count = Nat.min 255 (f.count + n)
  notice : g.notice = some x.raise

theorem Work.faultStage_takes {w : Work} {r : Raise} {rs : List Raise} (h : priorityOrder w.raised = r :: rs) :
    w.faults.Takes w.faultStage.faults (w.firstFault r) (rs.length + 1) ∧ w.faultStage.link.faultSlot = true := by
  obtain ⟨record, count⟩ := w.takeRaises r rs w.faults
  simp only [Work.faultStage, h, Work.loadFault, Work.setActive_faults]
  exact ⟨⟨record, count, rfl⟩, trivial⟩

/-- The end of an event with raises in it. -/
theorem Work.finish_takes {w : Work} {r : Raise} {rs : List Raise}
    (h : priorityOrder w.overfillTests.raised = r :: rs) :
    w.faults.Takes w.finish.faults (w.firstFault r) (rs.length + 1) ∧ w.finish.link.faultSlot = true := by
  obtain ⟨takes, slot⟩ := Work.faultStage_takes h
  have first : w.overfillTests.firstFault r = w.firstFault r := by simp [Work.firstFault]
  have settled : w.settle.link = w.overfillTests.faultStage.link := by simp [Work.settle]
  refine ⟨?_, ?_⟩
  · rw [Work.finish_faults, ← first]
    simpa using takes
  · rw [Work.finish_eq, settled]
    split <;> simp [slot]

/-- The end of an event that raises nothing. -/
theorem Work.finish_faults_none {w : Work} (h : priorityOrder w.overfillTests.raised = []) :
    w.finish.faults = w.faults := by
  rw [Work.finish_faults, Work.faultStage, h]
  simp

theorem Work.finish_record_filled {w : Work} {x : FirstFault} (h : w.faults.record = some x) :
    w.finish.faults.record = some x := by
  cases order : priorityOrder w.overfillTests.raised with
  | nil => rw [Work.finish_faults_none order, h]
  | cons r rs =>
    obtain ⟨⟨record, -, -⟩, -⟩ := Work.finish_takes order
    rw [record, h]
    rfl

/-- An event whose body left the record empty ends with the fault in it that its notice names, and no fault of a lower
code has become active. -/
theorem Work.finish_record_empty {w : Work} {x : FirstFault} (h : w.faults.record = none)
    (hx : w.finish.faults.record = some x) :
    w.finish.faults.notice = some x.raise
      ∧ ∀ g ∈ w.finish.faults.active, g ∉ w.faults.active → x.raise.code.num ≤ g.num := by
  cases order : priorityOrder w.overfillTests.raised with
  | nil => rw [Work.finish_faults_none order, h] at hx; cases hx
  | cons r rs =>
    obtain ⟨⟨record, -, notice⟩, -⟩ := Work.finish_takes order
    rw [record, h] at hx
    obtain rfl := Option.some.inj hx
    refine ⟨notice, fun g active new => ?_⟩
    obtain stood | ⟨y, raised, rfl⟩ := (w.finish_active g).1 active
    · exact absurd stood new
    · exact priorityOrder_first order raised

end Sys2Proof.Machine
end

section
/-! PROOFS. The first-fault record: what each command leaves of it, and the events that raise one fault. -/

namespace Sys2Proof.Machine

/-! ### CLEAR raises nothing (R206) -/

/-- A run of the tests of R145 over the channels raises nothing and leaves the fault unit. -/
theorem Work.marksChangedAll_raised (t : PerChannel RefillChannel) (w : Work) :
    (Channel.all.foldl (fun v c => v.marksChanged c (t.get c)) w).raised = w.raised
      ∧ (Channel.all.foldl (fun v c => v.marksChanged c (t.get c)) w).faults = w.faults :=
  ⟨foldl_keeps _ (fun v : Work => v.raised) (fun _ _ => by simp) _ _,
    foldl_keeps _ (fun v : Work => v.faults) (fun _ _ => by simp) _ _⟩

@[simp] theorem Work.clearStarved_raised (w : Work) (set : ChannelSet) :
    (w.clearStarved set).raised = w.raised := (Work.marksChangedAll_raised _ _).1

@[simp] theorem Work.clearLocked_raised (w : Work) : w.clearLocked.raised = w.raised :=
  (Work.marksChangedAll_raised _ _).1

@[simp] theorem Work.clearParts_raised (w : Work) (faults : Bool) (ladders starved : ChannelSet) :
    (w.clearParts faults ladders starved).raised = w.raised := by
  simp only [Work.clearParts, Work.clearFaultsPart]
  (repeat' split) <;> simp

/-- The faults part of a CLEAR as far as the active set: the record, the LOCKED marks and the stopped mark (R207). -/
def Work.unfaulted (w : Work) : Work :=
  let unlocked := ({ w with faults := { w.faults with record := none } } : Work).clearLocked
  { unlocked with service := { unlocked.service with stopped := false }, boundary := true }

theorem Work.unfaulted_faults (w : Work) : w.unfaulted.faults = { w.faults with record := none } := by
  simp [Work.unfaulted]

theorem Work.clearFaultsPart_eq (w : Work) :
    w.clearFaultsPart = w.unfaulted.setActive (w.faults.active.filter w.unfaulted.keptAtClear) := by
  have active : w.unfaulted.faults.active = w.faults.active := by rw [w.unfaulted_faults]
  rw [← active]
  rfl

theorem Work.clearFaultsPart_faults (w : Work) :
    w.clearFaultsPart.faults
      = { w.faults with record := none, active := w.faults.active.filter w.unfaulted.keptAtClear } := by
  rw [Work.clearFaultsPart_eq, Work.setActive_faults, Work.unfaulted_faults]

/-- The parts of a CLEAR ahead of the faults part (R38, R149). -/
def Work.clearMarks (w : Work) (ladders starved : ChannelSet) : Work :=
  let unstarved := if starved.anySet then w.clearStarved starved else w
  if ladders.anySet then unstarved.clearLadders ladders else unstarved

theorem Work.clearParts_eq (w : Work) (faults : Bool) (ladders starved : ChannelSet) :
    w.clearParts faults ladders starved
      = if faults then (w.clearMarks ladders starved).clearFaultsPart else w.clearMarks ladders starved := rfl

theorem Work.clearMarks_faults (w : Work) (ladders starved : ChannelSet) :
    (w.clearMarks ladders starved).faults = w.faults := by
  simp only [Work.clearMarks]
  (repeat' split) <;> simp

/-! ### What a body leaves of the fault unit -/

/-- A CLEAR names the faults. -/
def clearsFaults (i : Instr) : Prop := ∃ ref ladders starved, clearRequest i = some (ref, true, ladders, starved)

theorem body_clearRequest {i : Instr} {ref : Nat} {faults : Bool} {ladders starved : ChannelSet}
    (h : clearRequest i = some (ref, faults, ladders, starved)) (w : Work) :
    body i w = if w.inRun then w.takeClear ref faults ladders starved else w.outcome .clear ref .refusedMode := by
  cases i <;> cases h <;> rfl

/-- What a body may leave of the fault unit: no fault has become active, and the record stands, or a CLEAR of the
faults has emptied it in an event that raises nothing and moves no ink. -/
structure Work.KeepsRecord (i : Instr) (v w : Work) : Prop where
  active : ∀ f ∈ w.faults.active, f ∈ v.faults.active
  record : w.faults.record = v.faults.record
    ∨ clearsFaults i ∧ w.faults.record = none ∧ w.raised = v.raised ∧ w.ink = v.ink ∧ w.pre = v.pre

theorem Work.KeepsRecord.of_eq {i : Instr} {v w : Work} (h : w.faults = v.faults) : v.KeepsRecord i w :=
  ⟨fun f hf => h ▸ hf, .inl (by rw [h])⟩

theorem Work.takeClear_keepsRecord {i : Instr} {ref : Nat} {faults : Bool} {ladders starved : ChannelSet}
    (h : clearRequest i = some (ref, faults, ladders, starved)) (w : Work) :
    w.KeepsRecord i (w.takeClear ref faults ladders starved) := by
  unfold Work.takeClear
  split
  · exact .of_eq rfl
  · cases faults with
    | false => exact .of_eq (by simp [Work.clearParts_eq, Work.clearMarks_faults])
    | true =>
      have left : ((w.clearParts true ladders starved).outcome .clear ref .accepted).faults
          = { w.faults with
              record := none,
              active := w.faults.active.filter (w.clearMarks ladders starved).unfaulted.keptAtClear } := by
        simp [Work.clearParts_eq, Work.clearFaultsPart_faults, Work.clearMarks_faults]
      refine ⟨fun f hf => ?_, .inr ⟨⟨ref, ladders, starved, h⟩, by rw [left], by simp, by simp, by simp⟩⟩
      rw [left] at hf
      exact (List.mem_filter.1 hf).1

theorem Work.takeAbort_keepsRecord {i : Instr} {ref : Nat} (w : Work) :
    w.KeepsRecord i (w.takeAbort.outcome .abortSheet ref .accepted) := by
  have left : (w.takeAbort.outcome .abortSheet ref .accepted).faults
      = { w.faults with active := w.faults.active.filter fun f => !f.sheetStop } := by
    simp [Work.takeAbort, Work.removeSheetStops, Work.setActive_faults]
  refine ⟨fun f hf => ?_, .inl (by rw [left])⟩
  rw [left] at hf
  exact (List.mem_filter.1 hf).1

theorem Work.endFrame_record (w : Work) (x : TxFrame) : (w.endFrame x).faults.record = w.faults.record := by
  simp only [Work.endFrame]
  (repeat' split) <;> simp

theorem body_keepsRecord (i : Instr) (w : Work) : w.KeepsRecord i (body i w) := by
  cases request : clearRequest i with
  | some parts =>
    obtain ⟨ref, faults, ladders, starved⟩ := parts
    rw [body_clearRequest request]
    split
    · exact w.takeClear_keepsRecord request
    · exact .of_eq rfl
  | none =>
    cases i
    case abortSheet =>
      simp only [body]
      (repeat' split)
      · exact w.takeAbort_keepsRecord
      · exact .of_eq rfl
      · exact .of_eq rfl
    case frameSent =>
      simp only [body]
      split
      · exact ⟨fun f hf => by rwa [Work.endFrame_active] at hf, .inl (w.endFrame_record _)⟩
      · exact .of_eq rfl
    case clearFaults | clearLadder | clearLineStarved | clearOrder => cases request
    all_goals
      refine .of_eq ?_
      simp only [body]
    any_goals
      (repeat' split) <;> simp

/-! ### Every command (R197, R198, R203) -/

/-- What a completed command makes of the fault unit: nothing, the values of power-on, or what the end of its event
makes of it. -/
theorem completes_faults {i : Instr} {s t : State} (hc : Completes i s t) :
    t.faults = s.faults
      ∨ ((∃ straps closed, i = .powerOn straps closed) ∨ i = .resetPinAsserted) ∧ t.faults.record = none
      ∨ ∃ w : Work, t = w.finish ∧ (Work.begin s).KeepsRecord i w := by
  cases hs : special i
  case false =>
    obtain ⟨-, rfl⟩ | ⟨-, rfl⟩ := completes_cases hs hc
    · exact .inl rfl
    · exact .inr (.inr ⟨_, rfl, body_keepsRecord i _⟩)
  case true =>
    cases i
    case powerOn straps closed =>
      obtain rfl := completes_powerOn.1 hc
      exact .inr (.inl ⟨.inl ⟨straps, closed, rfl⟩, rfl⟩)
    case resetPinAsserted =>
      obtain rfl := completes_resetPinAsserted.1 hc
      exact .inr (.inl ⟨.inr rfl, rfl⟩)
    case restart ref straps =>
      obtain rfl | rfl := completes_restart hc
      · exact .inl rfl
      · exact .inr (.inr ⟨_, rfl, fun f hf => (nomatch hf), .inl rfl⟩)
    all_goals cases hs

/-- A CLEAR of the faults leaves the record empty to the end of its event. -/
theorem Work.finish_record_cleared {s : State} {w : Work} (record : w.faults.record = none) (raised : w.raised = [])
    (ink : w.ink = s.ink) (pre : w.pre = s) : w.finish.faults.record = none := by
  rw [Work.finish_faults_stand (by rw [ink, pre]) raised, record]

/-- A filled record stands until a CLEAR of the faults or power-on (R203). -/
theorem completes_record_filled {i : Instr} {s t : State} {x : FirstFault} (hc : Completes i s t)
    (hx : s.faults.record = some x) :
    t.faults.record = some x
      ∨ clearsFaults i ∧ t.faults.record = none
      ∨ ((∃ straps closed, i = .powerOn straps closed) ∨ i = .resetPinAsserted) ∧ t.faults.record = none := by
  obtain faults | powered | ⟨w, rfl, -, record⟩ := completes_faults hc
  · exact .inl (by rw [faults, hx])
  · exact .inr (.inr powered)
  · obtain record | ⟨clears, record, raised, ink, pre⟩ := record
    · exact .inl (Work.finish_record_filled (record.trans hx))
    · exact .inr (.inl ⟨clears, Work.finish_record_cleared record raised ink pre⟩)

/-- A record that a command fills holds the raise of the notice, of the lowest code that has become active (R202). -/
theorem completes_record_empty {i : Instr} {s t : State} {x : FirstFault} (hc : Completes i s t)
    (empty : s.faults.record = none) (hx : t.faults.record = some x) :
    t.faults.notice = some x.raise
      ∧ ∀ g ∈ t.faults.active, g ∉ s.faults.active → x.raise.code.num ≤ g.num := by
  obtain faults | ⟨-, record⟩ | ⟨w, rfl, active, record⟩ := completes_faults hc
  · rw [faults, empty] at hx
    cases hx
  · rw [record] at hx
    cases hx
  · obtain record | ⟨-, record, raised, ink, pre⟩ := record
    · obtain ⟨notice, lowest⟩ := Work.finish_record_empty (record.trans empty) hx
      exact ⟨notice, fun g hg new => lowest g hg fun stood => new (active g stood)⟩
    · rw [Work.finish_record_cleared record raised ink pre] at hx
      cases hx

end Sys2Proof.Machine
end

section
/-! PROOFS. The events that raise one fault, two active peers LOST in one tick, and the statement on the first-fault
record. -/

namespace Sys2Proof.Machine

/-! ### One raise (R201, R203, R205) -/

/-- A body that raises, with the ink, the sheet and the position as the event found them, and the faults too. -/
structure Work.Raises (s : State) (l : List Raise) (w : Work) : Prop where
  raised : w.raised = l
  pre : w.pre = s
  ink : w.ink = s.ink
  faults : w.faults = s.faults
  sheet : w.feed.sheet = s.feed.sheet
  position : w.feed.position = s.feed.position

/-- The end of an event of raises that come in priority order. -/
theorem Work.Raises.finish {s : State} {w : Work} {r : Raise} {rs : List Raise} (h : w.Raises s (r :: rs))
    (order : priorityOrder (r :: rs) = r :: rs) :
    s.faults.Takes w.finish.faults ((Work.begin s).firstFault r) (rs.length + 1) ∧ w.finish.link.faultSlot = true
      ∧ ∀ g, g ∈ w.finish.faults.active ↔ g ∈ s.faults.active ∨ ∃ x ∈ r :: rs, x.code = g := by
  obtain ⟨raised, pre, ink, faults, sheet, position⟩ := h
  have untested : w.overfillTests = w := Work.overfillTests_same (by rw [ink, pre])
  have first : w.firstFault r = (Work.begin s).firstFault r := by
    rw [Work.firstFault, sheet, position, pre]
    rfl
  obtain ⟨takes, slot⟩ := Work.finish_takes (w := w) (by rw [untested, raised, order])
  rw [faults, first] at takes
  refine ⟨takes, slot, fun g => ?_⟩
  rw [Work.finish_active, untested, raised, faults]

theorem Work.Raises.alone {s : State} {w : Work} {f : FaultCode} {d : Detail}
    (h : w.Raises s [{ code := f, detail := d }]) : RaisesAlone s w.finish f d := by
  obtain ⟨⟨record, count, notice⟩, slot, active⟩ := h.finish rfl
  refine ⟨count, fun g => ?_, notice, slot, record⟩
  rw [active g, List.exists_mem_cons_iff]
  simp [or_comm, eq_comm]

theorem actionTimeout_raises {s : State} :
    (Work.begin s).fail.Raises s [{ code := .serviceTimeout, detail := .none }] where
  raised := Work.fail_raised _
  pre := by simp
  ink := by simp
  faults := by simp
  sheet := by simp
  position := by simp

theorem enterHalted_raises {s : State} :
    (Work.begin s).enterHalted.Raises s [{ code := .duplicateStation, detail := .none }] where
  raised := rfl
  pre := by simp
  ink := by simp
  faults := by simp
  sheet := rfl
  position := rfl

theorem controllerTimeout_raises {s : State} (progress : s.sheetInProgress = true) :
    (Work.begin s).loseController.Raises s [{ code := .controllerSilent, detail := .none }] where
  raised := Work.loseController_concerned progress
  pre := by simp
  ink := by simp
  faults := by simp
  sheet := by simp
  position := by simp

theorem windowEnd_raises {s : State} {c : Channel} {f : FlowWindow} (h : s.starves c f) :
    ((Work.begin s).windowEnd c f).Raises s [{ code := .lineStarved, detail := .channel c }] where
  raised := by simp [Work.windowEnd_starves (w := Work.begin s) h, Work.raise]
  pre := by simp
  ink := by simp
  faults := by simp
  sheet := by simp
  position := by simp

/-! ### Several active peers LOST (R75, R181, R202) -/

theorem Work.losePeer_unconcerned {w : Work} {n : StationNo} {r : SheetRecord} (hs : w.feed.sheet = some r)
    (ha : r.active.get n = false) : (w.losePeer n).raised = w.raised := by
  simp only [Work.losePeer, hs, ha, Bool.and_false]
  rfl

/-- The stations of a set whose loss the sheet `r` in progress raises PEER LOST for. -/
def State.loses (s : State) (stations : StationSet) (r : SheetRecord) (n : StationNo) : Bool :=
  stations.get n && s.peerDue n && r.active.get n

/-- PEER LOST of one station. -/
def peerLostOf (n : StationNo) : Raise := { code := .peerLost, detail := .station n }

theorem Work.loseDue_raises {stations : StationSet} {w : Work} {r : SheetRecord} (hs : w.feed.sheet = some r)
    (progress : w.sheetInProgress = true) (n : StationNo) :
    (Work.loseDue stations w n).raised = w.raised ++ if w.loses stations r n then [peerLostOf n] else [] := by
  cases due : stations.get n && w.peerDue n with
  | false => simp [Work.loseDue, State.loses, due]
  | true =>
    cases active : r.active.get n with
    | false => simp [Work.loseDue, State.loses, due, active, Work.losePeer_unconcerned hs active]
    | true => simp [Work.loseDue, State.loses, due, active, Work.losePeer_concerned hs progress active, peerLostOf]

/-- Stations worked through one after another raise PEER LOST in that order. -/
theorem foldl_loseDue_raised {stations : StationSet} {r : SheetRecord} :
    ∀ (l : List StationNo) (w : Work), l.Nodup → w.feed.sheet = some r → w.sheetInProgress = true →
      (l.foldl (Work.loseDue stations) w).raised = w.raised ++ (l.filter (w.loses stations r)).map peerLostOf
  | [], w, _, _, _ => (List.append_nil _).symm
  | n :: l, w, distinct, hs, progress => by
    obtain ⟨apart, distinct⟩ := List.nodup_cons.1 distinct
    have feed : (Work.loseDue stations w n).feed = w.feed := by
      unfold Work.loseDue
      split <;> simp
    have later : l.filter ((Work.loseDue stations w n).loses stations r) = l.filter (w.loses stations r) := by
      refine List.filter_congr fun k hk => ?_
      have view : (Work.loseDue stations w n).peerView k = w.peerView k := by
        rw [Work.loseDue_peerView, if_neg (ne_of_mem_of_not_mem hk apart)]
      rw [State.loses, State.loses, Work.peerDue_congr view]
    rw [List.foldl_cons, foldl_loseDue_raised l _ distinct (by rw [feed, hs]) (by rwa [State.sheetInProgress, feed]),
      later, Work.loseDue_raises hs progress, List.filter_cons]
    split <;> simp

/-- Of all the stations two that a test names come in rising order. -/
theorem allStations_filter_pair {m n : StationNo} (rising : m < n) {p : StationNo → Bool}
    (named : ∀ k, p k = true ↔ k = m ∨ k = n) : allStations.filter p = [m, n] := by
  have test : p = fun k => decide (k = m ∨ k = n) := funext fun k => by
    rw [Bool.eq_iff_iff, named, decide_eq_true_iff]
  subst test
  revert m n
  decide

theorem losePeers_raises {s : State} {a : StationSet} {r : SheetRecord} {m n : StationNo}
    (hs : s.feed.sheet = some r) (progress : s.sheetInProgress = true) (rising : m < n)
    (named : ∀ k, s.loses a r k = true ↔ k = m ∨ k = n) :
    ((Work.begin s).losePeers a).Raises s [peerLostOf m, peerLostOf n] where
  raised := by
    rw [Work.losePeers_eq, foldl_loseDue_raised _ _ allStations_nodup hs progress, Work.begin_state,
      allStations_filter_pair rising named]
    rfl
  pre := by simp
  ink := by simp
  faults := by simp
  sheet := by simp
  position := by simp

/-! ### The statement -/

/-- Settles O18: the record by what a completed command makes of the fault unit, each raising event by what its body
raises. -/
theorem firstFaultRecordStands : Obligations.FirstFaultRecordStands := by
  refine ⟨fun i s t x hc hx => ?_, fun i s t x hc empty hx => completes_record_empty hc empty hx, fun s hpin =>
    ⟨fun busy expired => ?_, fun live => ?_, fun due progress => ?_, fun c f opened window elapsed eight low => ?_,
      fun r a m n hs progress rising named => ?_⟩⟩
  · obtain stands | ⟨⟨ref, ladders, starved, request⟩, record⟩ | powered := completes_record_filled hc hx
    · exact .inl stands
    · exact .inr (.inl ⟨ref, ladders, starved, request, record⟩)
    · exact .inr (.inr powered)
  · obtain ⟨a, current⟩ := Option.ne_none_iff_exists'.1 busy
    exact ⟨_, actionTimeout_fails hpin current expired, actionTimeout_raises.alone⟩
  · have halts : body .duplicateStationHeard (Work.begin s) = (Work.begin s).enterHalted := if_neg live
    exact ⟨_, halts ▸ completes_body rfl hpin, enterHalted_raises.alone⟩
  · have lost : body .controllerTimeout (Work.begin s) = (Work.begin s).loseController := if_pos due
    exact ⟨_, lost ▸ completes_body rfl hpin, (controllerTimeout_raises progress).alone⟩
  · exact ⟨_, completes_flowWindowEnd hpin opened window elapsed, (windowEnd_raises ⟨eight, low⟩).alone⟩
  · have loses : ∀ k, s.loses a r k = true ↔ k = m ∨ k = n := fun k => by
      rw [← named k]
      simp [State.loses, and_assoc]
    have raises := losePeers_raises hs progress rising loses
    obtain ⟨⟨record, count, notice⟩, slot, active⟩ := raises.finish rfl
    have lost : body (.peerEntryLost a) (Work.begin s) = (Work.begin s).losePeers a := rfl
    refine ⟨_, lost ▸ completes_body rfl hpin, count, notice, slot,
      (active _).2 (.inr ⟨peerLostOf m, List.mem_cons_self, rfl⟩), fun empty => ?_⟩
    rw [record, empty, Option.getD_none, Work.firstFault, Work.begin_state, hs]
    rfl

end Sys2Proof.Machine
end

section
/-! SUPPORT. The parts of a CLEAR: what they make of a refill channel, the ladders, the fault unit and the arbiter, and
where a channel stands at the end of an event that moves no ink. -/

namespace Sys2Proof.Machine

/-! ### One refill channel (R38, R39) -/

/-- A refill channel under a CLEAR that names the faults or not, and its line-starved mark or not. -/
def RefillChannel.cleared (x : RefillChannel) (faults starved : Bool) : RefillChannel :=
  let y := if starved then x.clearStarved else x
  if faults then y.clearLocked else y

theorem RefillChannel.clearStarved_fields (x : RefillChannel) :
    x.clearStarved.starvedMark = false ∧ x.clearStarved.lockedMark = x.lockedMark
      ∧ (x.state ≠ .starved ∨ x.starvedMark = false → x.clearStarved.state = x.state)
      ∧ (x.state = .starved → x.starvedMark = true →
          x.clearStarved.state = if x.lockedMark then .locked else .idle) := by
  unfold RefillChannel.clearStarved
  (repeat' split) <;> simp_all

theorem RefillChannel.clearLocked_fields (x : RefillChannel) :
    x.clearLocked.starvedMark = x.starvedMark ∧ x.clearLocked.lockedMark = false ∧ x.clearLocked.leakCount = 0
      ∧ x.clearLocked.leakWindow = none ∧ (x.state ≠ .locked → x.clearLocked.state = x.state)
      ∧ (x.state = .locked → x.clearLocked.state = if x.starvedMark then .starved else .idle) := by
  unfold RefillChannel.clearLocked
  split <;> simp_all

theorem RefillChannel.cleared_starvedMark (x : RefillChannel) (faults starved : Bool) :
    (x.cleared faults starved).starvedMark = (x.starvedMark && !starved) := by
  cases faults <;> cases starved <;>
    simp [RefillChannel.cleared, x.clearStarved_fields, RefillChannel.clearLocked_fields]

theorem RefillChannel.cleared_lockedMark (x : RefillChannel) (faults starved : Bool) :
    (x.cleared faults starved).lockedMark = (x.lockedMark && !faults) := by
  cases faults <;> cases starved <;>
    simp [RefillChannel.cleared, x.clearStarved_fields, RefillChannel.clearLocked_fields]

theorem RefillChannel.cleared_leak (x : RefillChannel) (starved : Bool) :
    (x.cleared true starved).leakCount = 0 ∧ (x.cleared true starved).leakWindow = none := by
  simp [RefillChannel.cleared, RefillChannel.clearLocked_fields]

/-- A channel that is neither LOCKED nor taken out of STARVED keeps its state. -/
theorem RefillChannel.cleared_stands {x : RefillChannel} {faults starved : Bool} (unlocked : x.state ≠ .locked)
    (unstarved : x.state = .starved → starved = false ∨ x.starvedMark = false) :
    (x.cleared faults starved).state = x.state := by
  obtain ⟨-, -, kept, -⟩ := x.clearStarved_fields
  have first : (if starved then x.clearStarved else x).state = x.state := by
    split
    · refine kept ?_
      by_cases hs : x.state = .starved
      · exact .inr ((unstarved hs).resolve_left (by simp [*]))
      · exact .inl hs
    · rfl
  cases faults with
  | false => exact first
  | true =>
    obtain ⟨-, -, -, -, stands, -⟩ := (if starved then x.clearStarved else x).clearLocked_fields
    exact (stands (by rwa [first])).trans first

/-- A STARVED channel whose mark is named goes to LOCKED by its other mark, unless the CLEAR takes that too. -/
theorem RefillChannel.cleared_unstarves {x : RefillChannel} (faults : Bool) (hs : x.state = .starved)
    (mark : x.starvedMark = true) :
    (x.cleared faults true).state = if x.lockedMark && !faults then .locked else .idle := by
  obtain ⟨unmarked, -, -, goes⟩ := x.clearStarved_fields
  have first := goes hs mark
  cases faults with
  | false => simpa [RefillChannel.cleared] using first
  | true =>
    obtain ⟨-, -, -, -, stands, unlocks⟩ := x.clearStarved.clearLocked_fields
    cases locked : x.lockedMark <;> simp [locked] at first <;>
      simp [RefillChannel.cleared, first, unmarked, stands, unlocks]

/-- A LOCKED channel stays LOCKED, or goes with the faults to STARVED by its mark or to IDLE. -/
theorem RefillChannel.cleared_locked {x : RefillChannel} (faults starved : Bool) (hl : x.state = .locked) :
    (x.cleared faults starved).state
      = if faults then if (x.cleared faults starved).starvedMark then .starved else .idle else .locked := by
  obtain ⟨-, -, kept, -⟩ := x.clearStarved_fields
  have first : (if starved then x.clearStarved else x).state = .locked := by
    split
    · rw [kept (.inl (by simp [hl])), hl]
    · exact hl
  cases faults with
  | false => exact first
  | true =>
    obtain ⟨mark, -, -, -, -, unlocks⟩ := (if starved then x.clearStarved else x).clearLocked_fields
    change (if starved then x.clearStarved else x).clearLocked.state
      = if (if starved then x.clearStarved else x).clearLocked.starvedMark then _ else _
    rw [mark]
    exact unlocks first

/-! ### The parts together (R206) -/

theorem PerChannel.get_of_anySet {l : ChannelSet} (h : l.anySet = false) (d : Channel) : l.get d = false := by
  simpa using List.any_eq_false.1 h d (Channel.mem_all d)

theorem Work.clearMarks_refill (w : Work) (ladders starved : ChannelSet) (d : Channel) :
    (w.clearMarks ladders starved).refill.get d = (w.refill.get d).cleared false (starved.get d) := by
  have first : (if starved.anySet then w.clearStarved starved else w).refill.get d
      = (w.refill.get d).cleared false (starved.get d) := by
    cases any : starved.anySet with
    | true => exact Work.clearStarved_refill w starved d
    | false =>
      rw [PerChannel.get_of_anySet any]
      rfl
  rw [← first]
  simp only [Work.clearMarks]
  split <;> simp

theorem Work.clearParts_refill (w : Work) (faults : Bool) (ladders starved : ChannelSet) (d : Channel) :
    (w.clearParts faults ladders starved).refill.get d = (w.refill.get d).cleared faults (starved.get d) := by
  have marks := w.clearMarks_refill ladders starved d
  rw [Work.clearParts_eq]
  cases faults with
  | false => exact marks
  | true =>
    have unlocked : (w.clearMarks ladders starved).unfaulted.refill.get d
        = ((w.clearMarks ladders starved).refill.get d).clearLocked := Work.clearLocked_refill _ d
    rw [if_pos rfl, Work.clearFaultsPart_eq, (Work.setActive_frame ..).2.1, unlocked, marks]
    rfl

end Sys2Proof.Machine
end

section
/-! SUPPORT. A refill channel at the end of an event that moves no ink, and the ladders, the stopped mark and the
classes after the parts of a CLEAR. -/

namespace Sys2Proof.Machine

/-! ### Where a refill channel stands (R27, R36) -/

section
variable {w : Work} (unmoved : w.ink = w.pre.ink) (d : Channel)
include unmoved

theorem Work.finish_leakless (ended : (w.refill.get d).leakCount = 0 ∧ (w.refill.get d).leakWindow = none) :
    (w.finish.refill.get d).leakCount = 0 ∧ (w.finish.refill.get d).leakWindow = none := by
  obtain ⟨x, heldOr, settles⟩ := Work.finish_refill_same unmoved d
  rcases heldOr with rfl | rfl
  · exact settles.leakless ended.1 ended.2
  · exact settles.leakless (by simp [RefillChannel.hold_fields, ended]) (by simp [RefillChannel.hold_fields, ended])

theorem Work.finish_stays_held (held : (w.refill.get d).state = .held) :
    (w.finish.refill.get d).state = .held := by
  obtain ⟨x, heldOr, settles⟩ := Work.finish_refill_same unmoved d
  have stays : x.state = .held := by rcases heldOr with rfl | rfl <;> simp [RefillChannel.hold_fields, held]
  obtain ⟨_, _, stands⟩ := settles.stands (by simp [stays]) (by simp [stays]) (by simp [stays])
  rw [stands]
  exact stays

/-- With no purge running after it the event leaves a STARVED or LOCKED channel where its body left it. -/
theorem Work.finish_keeps_state (running : w.finish.purgeRunning = false)
    (stopped : (w.refill.get d).state = .starved ∨ (w.refill.get d).state = .locked) :
    (w.finish.refill.get d).state = (w.refill.get d).state := by
  obtain ⟨x, rfl | ⟨purge, -⟩, settles⟩ := w.finish_refill_get d
  · rw [Work.overfillTests_same unmoved] at settles
    obtain ⟨_, _, stands⟩ := settles.stands (by rcases stopped with h | h <;> simp [h])
      (by rcases stopped with h | h <;> simp [h]) (by rcases stopped with h | h <;> simp [h])
    rw [stands]
  · simp [running] at purge

end

/-- A channel that has come to IDLE in this event goes on to WANT or OPEN exactly where R27 allows. -/
theorem Work.valveTests_idle {w : Work} {d : Channel} {x : RefillChannel} (idle : x.state = .idle) :
    (w.valveTests d true x).waited = x.waited
      ∧ if w.enabled d = true ∧ 1 ≤ x.effective ∧ (w.ink.get d).full.state = .dry then
          (w.valveTests d true x).state = .want ∨ (w.valveTests d true x).state = .opened
        else (w.valveTests d true x).state = .idle := by
  by_cases needs : w.enabled d = true ∧ 1 ≤ x.effective ∧ (w.ink.get d).full.state = .dry
  · have tried : w.valveTests d true x = w.tryOpen d { x with state := .want } := by
      simp [Work.valveTests, idle, needs]
    rw [if_pos needs, tried]
    rcases w.tryOpen_cases d { x with state := .want } with h | h <;> simp [h, RefillChannel.openValve]
  · have stays : w.valveTests d true x = x := by
      simp only [Work.valveTests, idle]
      exact if_neg (by simpa [and_assoc] using needs)
    rw [if_neg needs, stays]
    exact ⟨rfl, idle⟩

/-- A channel that the body of an event without ink brings to IDLE comes to IDLE, the classes being worked out anew
and no purge running. -/
theorem Work.finish_comesToIdle {w : Work} (unmoved : w.ink = w.pre.ink) (anew : w.classes = true) {d : Channel}
    (idle : (w.refill.get d).state = .idle) (entered : (w.pre.refill.get d).state ≠ .idle)
    (running : w.finish.purgeRunning = false) : ComesToIdle w.finish d := by
  obtain ⟨settled, chosen⟩ | ⟨purge, -⟩ := w.finish_refill_settled anew d
  · rw [Work.overfillTests_same unmoved] at chosen
    have enabled : w.finish.enabled d = w.chosen.enabled d := State.enabled_congr (by simp) d
    have full : w.finish.ink = w.chosen.ink := by simp
    have fresh : (w.chosen.refill.get d).state ≠ (w.chosen.pre.refill.get d).state := by
      simpa [chosen, idle] using entered.symm
    obtain ⟨waited, goes⟩ := Work.valveTests_idle (w := w.chosen) (d := d)
      (x := { w.chosen.refill.get d with
        deficit := w.chosen.deficitClass d
        effective := w.chosen.effectiveClass d (w.chosen.deficitClass d) (w.chosen.refill.get d).waited })
      (by simpa [chosen] using idle)
    simp only [ComesToIdle, settled, enabled, full, Work.settledChannel, fresh, ne_eq, not_false_eq_true, decide_true,
      Bool.or_true]
    rw [waited]
    exact ⟨fun needs => by simpa only [if_pos needs] using goes,
      fun spared => by simpa only [if_neg spared] using goes⟩
  · simp [running] at purge

/-! ### The classes and the ladders (R149) -/

theorem Work.marksChangedAll_onward (t : PerChannel RefillChannel) (w : Work) :
    Onward w (Channel.all.foldl (fun v c => v.marksChanged c (t.get c)) w) :=
  foldl_invariant _ (Onward w) (fun v c h => h.trans (v.marksChanged_onward c _)) _ _ (.refl w)

theorem Work.clearStarved_classes (w : Work) (set : ChannelSet) : (w.clearStarved set).classes = true :=
  (Work.marksChangedAll_onward w.refill _).classes rfl

theorem Work.clearLocked_onward (w : Work) : Onward w w.clearLocked ∧ w.clearLocked.classes = true := by
  let begun : Work := { w with refill := PerChannel.gen fun c => (w.refill.get c).clearLocked, classes := true }
  have enters : Onward w begun := .of_frame (fun _ => rfl) id rfl rfl
  have run : Onward begun w.clearLocked := Work.marksChangedAll_onward w.refill begun
  exact ⟨enters.trans run, run.classes rfl⟩

theorem Work.clearLadders_classes (w : Work) (set : ChannelSet) : (w.clearLadders set).classes = true :=
  (Work.withdrawRecovery_onward _).classes rfl

theorem Work.clearLadders_reset (w : Work) {set : ChannelSet} {d : Channel} (named : set.get d = true) :
    (w.clearLadders set).nozzle.ladders.get d = Ladder.reset := by
  simp [Work.clearLadders, Work.putLadders, named]

theorem Work.clearFaultsPart_onward (w : Work) :
    Onward w w.clearFaultsPart ∧ w.clearFaultsPart.classes = true := by
  let emptied : Work := { w with faults := { w.faults with record := none } }
  have empties : Onward w emptied := .of_frame id id rfl rfl
  obtain ⟨unlocks, classes⟩ := emptied.clearLocked_onward
  have unstops : Onward emptied.clearLocked w.unfaulted := .of_frame id id rfl rfl
  have sets := w.unfaulted.setActive_onward (w.faults.active.filter w.unfaulted.keptAtClear)
  rw [Work.clearFaultsPart_eq]
  exact ⟨empties.trans (unlocks.trans (unstops.trans sets)), sets.classes (unstops.classes classes)⟩

theorem Work.clearMarks_classes (w : Work) {ladders starved : ChannelSet}
    (named : ladders.anySet = true ∨ starved.anySet = true) : (w.clearMarks ladders starved).classes = true := by
  simp only [Work.clearMarks]
  split
  · exact Work.clearLadders_classes ..
  next unnamed =>
    rw [if_pos (named.resolve_left unnamed)]
    exact w.clearStarved_classes starved

theorem Work.clearParts_classes (w : Work) {faults : Bool} {ladders starved : ChannelSet}
    (named : faults = true ∨ ladders.anySet = true ∨ starved.anySet = true) :
    (w.clearParts faults ladders starved).classes = true := by
  rw [Work.clearParts_eq]
  split
  · exact (Work.clearFaultsPart_onward _).2
  next unnamed => exact w.clearMarks_classes (named.resolve_left unnamed)

theorem Work.clearParts_ladder (w : Work) (faults : Bool) {ladders : ChannelSet} (starved : ChannelSet) {d : Channel}
    (named : ladders.get d = true) :
    (w.clearParts faults ladders starved).nozzle.ladders.get d = Ladder.reset := by
  have marks : (w.clearMarks ladders starved).nozzle.ladders.get d = Ladder.reset := by
    have any : ladders.anySet = true := by
      by_contra unnamed
      simp [PerChannel.get_of_anySet (by simpa using unnamed)] at named
    rw [Work.clearMarks, if_pos any]
    exact Work.clearLadders_reset _ named
  rw [Work.clearParts_eq]
  split
  · exact (Work.clearFaultsPart_onward _).1.ladder d marks
  · exact marks

theorem Work.finish_ladder {w : Work} {d : Channel} (h : w.nozzle.ladders.get d = Ladder.reset) :
    w.finish.nozzle.ladders.get d = Ladder.reset := by
  obtain ⟨nozzle, -⟩ := w.finish_chosen
  rw [nozzle]
  exact w.chosen_onward.ladder d h

/-! ### The stopped mark (R110, R207) -/

/-- No operation of the arbiter stops the service unit. -/
theorem arbiterClosed_unstopped : ArbiterClosed fun w => w.service.stopped = false where
  request h := h
  screen {w} h := by
    obtain ⟨⟨p, service, -⟩, -⟩ := w.screenRecovery_rescreened False
    rw [service]
    exact h
  push {w src acts ch} h _ _ _ := by
    unfold Work.requestStarted Work.raiseRecovery
    (repeat' split) <;> exact h
  launch h _ _ := h
  hold h _ := h
  command {w p} h := by
    unfold Work.commandSled
    split <;> exact h
  stage h := h
  head h := h
  wiper h := h
  ended h _ := h
  pop h := h
  capped h _ := h
  idle h := h

theorem Work.finish_unstopped {w : Work} (h : w.service.stopped = false) : w.finish.service.stopped = false := by
  obtain ⟨p, guarded, -⟩ := w.guarded_rescreened
  obtain ⟨-, -, service, -⟩ := w.finish_chosen
  have comes : w.overfillTests.faultStage.coverStage.guardStage.service.stopped = false := by
    rw [guarded]
    exact h
  have chosen := arbiterClosed_unstopped.arbiterStage comes
  rwa [service, Work.chosen]

theorem Work.clearFaultsPart_unstopped (w : Work) : w.clearFaultsPart.service.stopped = false := by
  obtain ⟨p, service, -⟩ := w.unfaulted.setActive_rescreened (w.faults.active.filter w.unfaulted.keptAtClear)
  rw [Work.clearFaultsPart_eq, service]
  rfl

/-! ### The active faults (R207) -/

theorem State.keptAtClear_eq (s : State) (g : FaultCode) :
    s.keptAtClear g = (decide (g = .duplicateStation) || g.sheetStop
      || (decide (g = .lineStarved) && Channel.all.any fun d => (s.refill.get d).starvedMark)) := by
  cases g <;> simp [State.keptAtClear, FaultCode.sheetStop]

end Sys2Proof.Machine
end

section
/-! PROOFS. A CLEAR order does the parts it names, or is refused where it names none. -/

namespace Sys2Proof.Machine

/-! ### The event of a CLEAR that is ACCEPTED -/

/-- The event of a CLEAR in RUN that names something, up to its end-of-event work. -/
def State.clearing (s : State) (ref : Nat) (faults : Bool) (ladders starved : ChannelSet) : Work :=
  ((Work.begin s).clearParts faults ladders starved).outcome .clear ref .accepted

theorem clearRequest_taken {i : Instr} {s : State} {ref : Nat} {faults : Bool} {ladders starved : ChannelSet}
    (h : clearRequest i = some (ref, faults, ladders, starved)) (run : s.running) :
    special i = false ∧ body i (Work.begin s) = (Work.begin s).takeClear ref faults ladders starved := by
  obtain ⟨-, mode⟩ := run
  have inRun : (Work.begin s).inRun = true := decide_eq_true mode
  refine ⟨by cases i <;> cases h <;> rfl, ?_⟩
  rw [body_clearRequest h, if_pos inRun]

theorem completes_clearing {i : Instr} {s : State} {ref : Nat} {faults : Bool} {ladders starved : ChannelSet}
    (h : clearRequest i = some (ref, faults, ladders, starved)) (run : s.running)
    (named : faults = true ∨ ladders.anySet = true ∨ starved.anySet = true) :
    Completes i s (s.clearing ref faults ladders starved).finish := by
  obtain ⟨ordinary, taken⟩ := clearRequest_taken h run
  have accepted : (Work.begin s).takeClear ref faults ladders starved = s.clearing ref faults ladders starved :=
    if_neg (by rcases named with h | h | h <;> simp [h])
  rw [← accepted, ← taken]
  exact completes_body ordinary run.1

theorem completes_unnamed {i : Instr} {s : State} {ref : Nat} {ladders starved : ChannelSet}
    (h : clearRequest i = some (ref, false, ladders, starved)) (run : s.running) (noLadder : ladders.anySet = false)
    (noMark : starved.anySet = false) : Completes i s (s.withOutcome .clear ref .refusedRange) := by
  obtain ⟨ordinary, taken⟩ := clearRequest_taken h run
  exact completes_outcome ordinary run.1 (taken.trans (if_pos (by simp [noLadder, noMark])))

section
variable (s : State) (ref : Nat) (faults : Bool) (ladders starved : ChannelSet)

theorem State.clearing_unmoved :
    (s.clearing ref faults ladders starved).ink = (s.clearing ref faults ladders starved).pre.ink := by
  simp [State.clearing]

theorem State.clearing_refill (d : Channel) :
    (s.clearing ref faults ladders starved).refill.get d = (s.refill.get d).cleared faults (starved.get d) :=
  (Work.begin s).clearParts_refill faults ladders starved d

theorem State.clearing_pre : (s.clearing ref faults ladders starved).pre = s := by simp [State.clearing]

theorem State.clearing_starvedMark (d : Channel) :
    ((s.clearing ref faults ladders starved).finish.refill.get d).starvedMark
      = ((s.refill.get d).starvedMark && !starved.get d) := by
  rw [Work.finish_starved, State.clearing_refill, RefillChannel.cleared_starvedMark]

theorem State.clearing_lockedMark (d : Channel) :
    ((s.clearing ref faults ladders starved).finish.refill.get d).lockedMark
      = ((s.refill.get d).lockedMark && !faults) := by
  rw [Work.finish_lockedMark, Work.overfillTests_same (s.clearing_unmoved ..), State.clearing_refill,
    RefillChannel.cleared_lockedMark]

theorem State.clearing_faults : (s.clearing ref faults ladders starved).finish.faults
    = ((Work.begin s).clearParts faults ladders starved).faults :=
  Work.finish_faults_stand (s.clearing_unmoved ..) (by simp [State.clearing])

/-- The channels that keep a line-starved mark are those that keep it to the end of the event. -/
theorem State.clearing_active : (s.clearing ref true ladders starved).finish.faults.active
    = s.faults.active.filter fun g =>
        decide (g = .duplicateStation) || g.sheetStop
          || (decide (g = .lineStarved) && Channel.all.any fun d =>
            ((s.clearing ref true ladders starved).finish.refill.get d).starvedMark) := by
  have marks : ∀ d, ((((Work.begin s).clearMarks ladders starved).unfaulted).refill.get d).starvedMark
      = ((s.clearing ref true ladders starved).finish.refill.get d).starvedMark := fun d => by
    have unlocked : ((Work.begin s).clearMarks ladders starved).unfaulted.refill.get d
        = (((Work.begin s).clearMarks ladders starved).refill.get d).clearLocked := Work.clearLocked_refill _ d
    obtain ⟨kept, -⟩ := (((Work.begin s).clearMarks ladders starved).refill.get d).clearLocked_fields
    rw [unlocked, kept, Work.clearMarks_refill, RefillChannel.cleared_starvedMark, State.clearing_starvedMark]
    rfl
  rw [State.clearing_faults, Work.clearParts_eq, if_pos rfl, Work.clearFaultsPart_faults, Work.clearMarks_faults]
  refine List.filter_congr fun g _ => ?_
  rw [State.keptAtClear_eq]
  simp only [marks]

section
variable {s : State} {ref : Nat} {faults : Bool} {ladders starved : ChannelSet} {d : Channel}
  (purgeless : (s.clearing ref faults ladders starved).finish.purgeRunning = false)
include purgeless

theorem State.clearing_idles (named : faults = true ∨ ladders.anySet = true ∨ starved.anySet = true)
    (entered : (s.refill.get d).state ≠ .idle)
    (idle : ((s.refill.get d).cleared faults (starved.get d)).state = .idle) :
    ComesToIdle (s.clearing ref faults ladders starved).finish d :=
  Work.finish_comesToIdle (s.clearing_unmoved ..) ((Work.begin s).clearParts_classes named)
    (by rw [State.clearing_refill, idle]) (by rwa [State.clearing_pre]) purgeless

theorem State.clearing_stays {x : RefillState} (left : ((s.refill.get d).cleared faults (starved.get d)).state = x)
    (stopped : x = .starved ∨ x = .locked) :
    ((s.clearing ref faults ladders starved).finish.refill.get d).state = x := by
  have stands := Work.finish_keeps_state (s.clearing_unmoved ref faults ladders starved) d purgeless
    (by rwa [State.clearing_refill, left])
  rw [stands, State.clearing_refill, left]

end

/-- What the CLEAR does to one refill channel, by the state that its parts bring the channel to. -/
theorem State.clearing_refillCleared (named : faults = true ∨ ladders.anySet = true ∨ starved.anySet = true)
    (d : Channel) : RefillCleared s (s.clearing ref faults ladders starved).finish faults starved d := by
  have unmoved := s.clearing_unmoved ref faults ladders starved
  have refill := s.clearing_refill ref faults ladders starved d
  have locked := s.clearing_lockedMark ref faults ladders starved d
  have mark := s.clearing_starvedMark ref faults ladders starved d
  refine ⟨fun held => ?_, fun hf => ?_, fun hf => ?_, fun purge => ?_⟩
  · refine Work.finish_stays_held unmoved d ?_
    rw [refill, RefillChannel.cleared_stands (by simp [held]) (by simp [held]), held]
  · subst hf
    exact ⟨by simp [locked], Work.finish_leakless unmoved d (by rw [refill]; exact RefillChannel.cleared_leak ..)⟩
  · rw [locked, hf, Bool.not_false, Bool.and_true]
  · have stays := fun {x} => State.clearing_stays purge (d := d) (x := x)
    have idles := State.clearing_idles purge named (d := d)
    refine ⟨fun hs chosen marked => ?_, fun hs unnamed => ?_, fun hl hf => ?_, fun hl hf => ?_⟩
    · have leaves : ((s.refill.get d).cleared faults (starved.get d)).state
          = if (s.refill.get d).lockedMark && !faults then .locked else .idle := by
        rw [chosen]
        exact RefillChannel.cleared_unstarves faults hs marked
      refine ⟨fun hf hk => stays (leaves.trans (by simp [hf, hk])) (.inr rfl), fun free => idles (by simp [hs]) ?_⟩
      rcases free with hf | hk
      · exact leaves.trans (by simp [hf])
      · exact leaves.trans (by simp [hk])
    · exact stays (by rw [RefillChannel.cleared_stands (by simp [hs]) fun _ => unnamed, hs]) (.inl rfl)
    · exact stays ((RefillChannel.cleared_locked faults _ hl).trans (by simp [hf])) (.inr rfl)
    · have leaves := RefillChannel.cleared_locked faults (starved.get d) hl
      rw [if_pos hf, RefillChannel.cleared_starvedMark, ← mark] at leaves
      exact ⟨fun kept => stays (leaves.trans (by simp [kept])) (.inl rfl),
        fun cleared => idles (by simp [hl]) (leaves.trans (by simp [cleared]))⟩

theorem State.clearing_sameLedgers : SameLedgers s (s.clearing ref faults ladders starved).finish :=
  Work.finish_sameLedgers (by simp [State.clearing]) (by simp [State.clearing]) (by simp [State.clearing])
    (by simp [State.clearing]) (by simp [State.clearing]) (by simp [State.clearing])

theorem State.clearing_shows : (s.clearing ref faults ladders starved).finish.shows .clear ref .accepted := by
  simp [State.shows, Work.finish_link, State.clearing, Work.outcome]

theorem State.clearing_unstopped : (s.clearing ref true ladders starved).finish.service.stopped = false :=
  Work.finish_unstopped (Work.clearFaultsPart_unstopped _)

end

/-- Settles O35: the order's body is its parts in their order; the end of the event raises nothing, moves no ink, and
settles each refill channel from the state that the parts bring it to. -/
theorem clearOrderDoesItsParts : Obligations.ClearOrderDoesItsParts := by
  intro i s ref f ladders starved request run
  refine ⟨fun unfaulted => completes_unnamed (unfaulted ▸ request) run, fun named =>
    ⟨(s.clearing ref f ladders starved).finish, completes_clearing request run named, s.clearing_shows ..,
      s.clearing_sameLedgers .., fun d chosen => ?_, fun d unnamed => ?_, s.clearing_refillCleared ref _ _ _ named,
      fun d chosen => Work.finish_ladder ((Work.begin s).clearParts_ladder f starved chosen), ?_, fun hf => ?_,
      fun hf => ?_⟩⟩
  · simp [State.clearing_starvedMark, chosen]
  · simp [State.clearing_starvedMark, unnamed]
  · rw [State.clearing_faults, Work.clearParts_eq]
    cases f <;> simp [Work.clearFaultsPart_faults, Work.clearMarks_faults]
  · rw [State.clearing_faults, Work.clearParts_eq, hf, if_neg (by simp), Work.clearMarks_faults]
    rfl
  · subst hf
    refine ⟨?_, fun d => by simp [State.clearing_lockedMark], s.clearing_unstopped .., s.clearing_active ..⟩
    rw [State.clearing_faults, Work.clearParts_eq, if_pos rfl, Work.clearFaultsPart_faults]

end Sys2Proof.Machine
end
